-- ==== Sys2Proof/Word.lean ====
section
/-!
DEFINITION. The plain quantities of the HB-740.

The part exchanges whole numbers only (Introduction, Units and ranges), so masses, pressures, times and
identifiers are `Nat` (or `Int` where the spec allows a sign).  Bit vectors stand only where the spec
speaks of bits: the characters of a line (one byte each, R196) and the CRC register (R196).
-/

namespace Sys2Proof

/-- One character of a line, as the byte that the check takes (R196). -/
abbrev Byte := BitVec 8

/-- A line of characters that the part sends (R196). -/
abbrev Text := List Byte

/-- The CRC register of R196, and the digest of a closed record (R11). -/
abbrev Check := BitVec 16

/-- A mass in grams. -/
abbrev Grams := Nat

/-- The number by which the plant controller names a unit. -/
abbrev Tag := Nat

/-- A moment, in milliseconds since the last power-on reset.
DESIGN CHOICE (log 1): the spec names moments and gives their unit nowhere; its intervals are whole
seconds or milliseconds. -/
abbrev Moment := Nat

/-- Milliseconds in a number of seconds. -/
abbrev seconds (n : Nat) : Moment := n * 1000

/-- The greatest number a field of a command line can hold (R184), and the greatest mass. -/
abbrev maxNumber : Nat := 4294967295

end Sys2Proof
end

