-- ==== Sys2Proof/Syntax.lean ====
section
/-!
DEFINITION. The commands and events of the HB-740: `Instr`, one constructor per row of
spec/opcode_table.json, and the words, numbers and readings that are their operands.

The table gives its rows no operands; the operands here are the fields of the command's Format line, the
quantities that R190 gives for a node's answer, or the station, train, bank, node or order the row is
about.  A node's answer and a poll carry the moment at which they happen (log 2).
-/

namespace Sys2Proof

/-! ## Numbered things (Introduction, Identifiers and numbering) -/

/-- Station `n` is the value `n - 1`. -/
abbrev StationId := Fin 8

/-- Train `n` is the value `n - 1`. -/
abbrev TrainId := Fin 4

/-- Vessel slot `n` is the value `n - 1`. -/
abbrev SlotId := Fin 12

/-- Analyser band `n` is the value `n - 1`. -/
abbrev Band := Fin 6

/-- A signature entry, 0 to 15. -/
abbrev SignatureId := Fin 16

/-- The two condenser banks. -/
inductive BankId where
  | a
  | b
  deriving DecidableEq, Repr

/-- The seventeen nodes of the field loop (The Field Loop, Nodes and the polling round). -/
inductive Node where
  | station (i : StationId)
  | analyser
  | train (i : TrainId)
  | bay
  | chamber
  | condenser
  | safety
  deriving DecidableEq, Repr

/-! ## Class words (Introduction, Class words) -/

/-- A refrigerant class word. -/
inductive RefrigerantClass where
  | none
  | cfc
  | hcfc
  | hfc
  | hc
  | unknown
  deriving DecidableEq, Repr

/-- A foam class word.  The class of a signature entry takes the same five words (R29). -/
inductive GasClass where
  | cfc
  | hcfc
  | hfc
  | hc
  | unknown
  deriving DecidableEq, Repr

/-- A vessel class word. -/
inductive VesselClass where
  | cfc
  | hcfc
  | hfc
  | hc
  | mixed
  | agent
  deriving DecidableEq, Repr

/-! ## Phase names -/

/-- The phases of a station (R49). -/
inductive StationPhase where
  | empty
  | clamping
  | loaded
  | pierce
  | sampleWait
  | sampling
  | trainWait
  | evacuate
  | riseTest
  | oilDrain
  | done
  | faulted
  deriving DecidableEq, Repr

/-- The phases of the chamber (R119). -/
inductive ChamberPhase where
  | idle
  | airlock
  | purge
  | shred
  | clear
  | suspended
  | faulted
  deriving DecidableEq, Repr

/-- A phase name, as a `phase=` field carries it (R184).  All of them but EMPTY and IDLE are watch
phases (R175). -/
inductive PhaseName where
  | empty
  | clamping
  | loaded
  | pierce
  | sampleWait
  | sampling
  | trainWait
  | evacuate
  | riseTest
  | oilDrain
  | done
  | faulted
  | idle
  | airlock
  | purge
  | shred
  | clear
  | suspended
  deriving DecidableEq, Repr

/-! ## Other words of the command line -/

/-- The twenty settings (R178). -/
inductive SettingName where
  | pierceEmpty
  | evacTarget
  | evacMax
  | riseHold
  | riseLimit
  | evacAttempts
  | oilSettle
  | oilMax
  | purgeO2
  | pauseO2
  | purgeMax
  | lelWarn
  | bankSwapLoad
  | bankHardLoad
  | bankMaxTime
  | defrostMax
  | trainPurge
  | holdMax
  | discrepancyGrams
  | discrepancyPercent
  deriving DecidableEq, Repr

/-- The kind of a RESET command (R180). -/
inductive ResetKind where
  | line
  | clear
  deriving DecidableEq, Repr

/-- The five class masks (R160); `true` is on, the class enabled. -/
structure Masks where
  supply : Bool
  process : Bool
  condenser : Bool
  accounting : Bool
  operator : Bool
  deriving DecidableEq, Repr

/-- The two field combinations of CLEAR-WATCH (R176). -/
inductive WatchChoice where
  | entry (tag : Nat) (phase : PhaseName)
  | all
  deriving DecidableEq, Repr

/-- A command that has passed the five tests of R183, with its parsed fields.  Numbers are as the line
gave them: whether they lie in the command's range is for the owner to say (R184). -/
inductive Command where
  | admitUnit (tag station : Nat) (refrigerant : Option RefrigerantClass) (foam : Option GasClass)
  | queryUnit (tag : Nat) (final : Bool)
  | takeClosed (count : Nat)
  | loadSignatures (rows : Nat)
  | signatureDigest
  | clearSignatures
  | release (station : Nat)
  | retire (station : Nat)
  | resume (station : Nat)
  | setPaths (station : Nat) (trains : List Nat)
  | trainService (train : Nat) (intoService : Bool)
  | insertVessel (slot id : Nat) (cls : VesselClass) (tare initial fill : Nat)
  | closeVessel (slot : Nat)
  | removeVessel (slot : Nat)
  | queryVessel (slot : Nat)
  | withdrawFeed (tag : Nat)
  | abortChamber
  | bankService (bank : BankId)
  | swapBanks
  | queryCondenser (bank : BankId)
  | setMasks (masks : Masks)
  | report
  | start
  | stop
  | step
  | setWatch (tag : Nat) (phase : PhaseName)
  | clearWatch (which : WatchChoice)
  | status
  | setLimit (name : SettingName) (value : Nat)
  | getLimit (name : SettingName)
  | reset (kind : ResetKind)
  deriving DecidableEq, Repr

/-! ## Received characters (R182) -/

/-- A character received on the command line: a byte, or a character with a UART framing error, which
no field can hold. -/
inductive RxChar where
  | byte (b : Byte)
  | framingError
  deriving DecidableEq, Repr

/-- A line of received characters with its over-length mark (R182): the line in assembly, a completed
line, or the line kept in the buffer. -/
structure Line where
  chars : List RxChar
  overLength : Bool
  deriving DecidableEq, Repr

/-! ## Node answers (R190) -/

/-- What an answer says of one of the node's orders (R193). -/
inductive ReportStatus where
  | running
  | done
  | failed
  deriving DecidableEq, Repr

/-- One order report of an answer (R193). -/
structure OrderReport where
  number : Nat
  status : ReportStatus
  deriving DecidableEq, Repr

/-- A station node's answer.  The clamp and pierce states are codes that no rule reads (log 3). -/
structure StationAnswer where
  moment : Moment
  reports : List OrderReport
  pressure : Nat
  oil : Grams
  clampState : Nat
  pierceState : Nat
  evacOpen : Bool
  sampleOpen : Bool
  drainOpen : Bool
  deriving DecidableEq, Repr

/-- The analyser's answer.  No rule reads busy or the result sequence number (log 3). -/
structure AnalyserAnswer where
  moment : Moment
  reports : List OrderReport
  busy : Bool
  sequence : Nat
  bands : Vector Nat 6
  fault : Bool
  deriving DecidableEq, Repr

/-- The state of a train's compressor or a bank's refrigeration, as an answer gives it. -/
inductive MotorState where
  | stopped
  | running
  | failed
  deriving DecidableEq, Repr

/-- A train node's answer. -/
structure TrainAnswer where
  moment : Moment
  reports : List OrderReport
  suction : Nat
  discharge : Nat
  delta : Grams
  compressor : MotorState
  deriving DecidableEq, Repr

/-- What the bay reports for one platform. -/
structure Platform where
  present : Bool
  net : Grams
  deriving DecidableEq, Repr

/-- The vessel bay's answer. -/
structure BayAnswer where
  moment : Moment
  platforms : Vector Platform 12
  deriving DecidableEq, Repr

/-- The quantities of a chamber answer (R120).  The shredder state is whether it runs, with its EMPTY
report beside it; the door state is a code that no rule reads (log 3). -/
structure ChamberReadings where
  o2 : Nat
  door : Nat
  running : Bool
  emptied : Bool
  foam : Grams
  lel : Nat
  deriving DecidableEq, Repr

/-- The chamber's answer. -/
structure ChamberAnswer where
  moment : Moment
  reports : List OrderReport
  readings : ChamberReadings
  deriving DecidableEq, Repr

/-- What a condenser answer reports of one bank. -/
structure BankReading where
  temperature : Int
  heaterOn : Bool
  refrigeration : MotorState
  drainOpen : Bool
  deriving DecidableEq, Repr

/-- The condenser's answer. -/
structure CondenserAnswer where
  moment : Moment
  reports : List OrderReport
  bankA : BankReading
  bankB : BankReading
  inlet : Grams
  drain : Grams
  deriving DecidableEq, Repr

/-- The safety node's answer (R159). -/
structure SafetyAnswer where
  moment : Moment
  lel : Nat
  emergencyStop : Bool
  doorOpen : Bool
  deriving DecidableEq, Repr

/-! ## The commands and events -/

/-- The rows of spec/opcode_table.json.  A row that is a command of the command line stands for a
well-formed line of that command completed at the part. -/
inductive Instr where
  | resetPinAsserted
  | powerOnReset
  | lineCompleted (received : List RxChar)
  | admitUnit (tag station : Nat) (refrigerant : Option RefrigerantClass) (foam : Option GasClass)
  | queryUnit (tag : Nat) (final : Bool)
  | heldQueryExpiry
  | takeClosed (count : Nat)
  | loadSignatures (rows : Nat)
  | sigRow (row : Line)
  | signatureDigest
  | clearSignatures
  | stationAnswer (station : StationId) (answer : StationAnswer)
  | evacOvertime (station : StationId)
  | oilDeadline (station : StationId)
  | release (station : Nat)
  | retire (station : Nat)
  | resume (station : Nat)
  | trainAnswer (train : TrainId) (answer : TrainAnswer)
  | trainPurgeEnd (train : TrainId)
  | trainTailExpiry (train : TrainId)
  | setPaths (station : Nat) (trains : List Nat)
  | trainService (train : Nat) (intoService : Bool)
  | bayAnswer (answer : BayAnswer)
  | insertVessel (slot id : Nat) (cls : VesselClass) (tare initial fill : Nat)
  | closeVessel (slot : Nat)
  | removeVessel (slot : Nat)
  | queryVessel (slot : Nat)
  | chamberAnswer (answer : ChamberAnswer)
  | purgeTimeout
  | clearEnd
  | withdrawFeed (tag : Nat)
  | abortChamber
  | condenserAnswer (answer : CondenserAnswer)
  | bankCoolTimeout (bank : BankId)
  | bankMaxTime (bank : BankId)
  | defrostOverrun (bank : BankId)
  | drainDeadline (bank : BankId)
  | bankService (bank : BankId)
  | swapBanks
  | queryCondenser (bank : BankId)
  | safetyAnswer (answer : SafetyAnswer)
  | setMasks (masks : Masks)
  | report
  | start
  | stop
  | step
  | setWatch (tag : Nat) (phase : PhaseName)
  | clearWatch (which : WatchChoice)
  | status
  | setLimit (name : SettingName) (value : Nat)
  | getLimit (name : SettingName)
  | reset (kind : ResetKind)
  | lineReset
  | clearReset
  | poll (moment : Moment)
  | missedAnswer (node : Node) (moment : Moment)
  | orderTimeout (number : Nat)
  | analyserAnswer (answer : AnalyserAnswer)
  deriving DecidableEq, Repr

end Sys2Proof
end

