-- ==== Sys2Proof/Decode.lean ====
section
/-!
DEFINITION. The decoder over the rows of spec/opcode_table.json that give bits.

No row of the table gives bits: the part is driven by lines, answers and events, not by instruction
words.  So no word spells a command.  The text of a command line is read in Machine/Operands.lean.
-/

namespace Sys2Proof

/-- The command that a word of `nbits` bits spells: none, since no row of the table gives bits. -/
def decodeTableWord (_nbits _w : Nat) : Option Instr := none

end Sys2Proof
end

