-- ==== Sys2Proof/Config.lean ====
section
/-!
DEFINITION. What is fixed for every HB-740: the limits, time-outs and thresholds that the spec calls
fixed, and the free values, which have no body because the spec states no value for them (log 9).

The index of a free value is `State.freeCount`, which every event advances.
-/

namespace Sys2Proof.Config

/-! ## Free values -/

/-- The number of an order issued while all 255 numbers are outstanding: 1 more than this modulo 255.
Each use takes the next index (`State.freeCount`). -/
opaque freeOrderNumber : Nat → Nat

/-- The foam scale reading before the first chamber answer. -/
opaque freeFoamScale : Nat → Nat

/-- The O2 reading before the first chamber answer. -/
opaque freeOxygen : Nat → Nat

/-- The temperature of a bank before the first condenser answer. -/
opaque freeTemperature : Nat → BankId → Int

/-- The scale net of a slot before the first bay answer. -/
opaque freeScaleNet : Nat → SlotId → Nat

/-! ## Capacities -/

/-- Records in the unit register (R8). -/
def registerSize : Nat := 48
/-- Records in the closed log (R12). -/
def logSize : Nat := 32
/-- Allocation entries of a record (R5). -/
def allocationLimit : Nat := 4
/-- The greatest evacuations count (R4). -/
def evacuationsLimit : Nat := 5
/-- Window entries of a record (R128). -/
def recordWindowLimit : Nat := 2
/-- Tags in the feed queue (R117). -/
def feedSize : Nat := 6
/-- Entries of a bank's window (R140). -/
def windowSize : Nat := 8
/-- Entries of the pending list (R161). -/
def conditionSize : Nat := 32
/-- The greatest repeat count (R161). -/
def countLimit : Nat := 255
/-- Entries that one REPORT returns (R166). -/
def reportSize : Nat := 8
/-- Entries of the watch list (R175). -/
def watchSize : Nat := 4
/-- Characters of a received line (R182). -/
def lineLimit : Nat := 400
/-- The greatest order number (R192). -/
def lastOrderNumber : Nat := 255
/-- Consecutive missed answers that make a node silent (R191). -/
def silenceMisses : Nat := 3

/-! ## Fixed thresholds -/

/-- Discharge pressure above which MANIFOLD_OVERPRESSURE is raised, kPa (R81). -/
def overpressure : Nat := 2000
/-- Factor of the overfill test, percent (R106). -/
def overfillPercent : Nat := 105
/-- O2 above which CHAMBER_O2_HIGH is raised, tenths of a percent (R126). -/
def o2High : Nat := 80
/-- LEL reading from which LEL_HIGH is raised, percent (R159). -/
def lelHigh : Nat := 20
/-- Temperature at or below which COOLING ends (R138). -/
def coldTemperature : Int := -95
/-- Temperature at or above which DEFROST ends (R143). -/
def warmTemperature : Int := 5

/-! ## Fixed times -/

/-- A train's tail (R89). -/
def tailTime : Moment := seconds 10
/-- The chamber's CLEAR (R127). -/
def clearTime : Moment := seconds 60
/-- A bank's COOLING (R138). -/
def coolTime : Moment := seconds 1800
/-- A drain opening (R144). -/
def drainTime : Moment := seconds 120
/-- The span of the settle test (R66). -/
def settleTime : Moment := seconds 30

/-! ## Time-outs of orders (R194) -/

def valveTimeout : Moment := seconds 3
def clampTimeout : Moment := seconds 5
def pierceTimeout : Moment := seconds 10
def doorTimeout : Moment := seconds 60
def shredderTimeout : Moment := seconds 5
def compressorTimeout : Moment := seconds 5
def sampleTimeout : Moment := seconds 30

end Sys2Proof.Config
end

