-- ==== Sys2Proof/Machine/State.lean ====
section
/-!
DEFINITION. The state of the HB-740, block by block, as plain data, and its value after a power-on
reset.  Each field is named after the spec's field; the rule that gives it stands beside it.
-/

namespace Sys2Proof.Machine

/-! ## The Unit Register (spec/01_unit_records.md) -/

/-- Where a unit record stands (R9). -/
inductive Place where
  | station
  | queued
  | chamber
  | attribution
  | closing
  deriving DecidableEq, Repr

/-- An allocation entry (R1). -/
structure Allocation where
  slot : SlotId
  vessel : Nat
  grams : Grams
  isOpen : Bool
  deriving DecidableEq, Repr

/-- A window entry of a record (R1).  A window whose share is absent is pending (R7). -/
structure WindowEntry where
  bank : BankId
  foam : Option Grams
  share : Option Grams
  deriving DecidableEq, Repr

/-- The flags of a record (R1). -/
structure RecordFlags where
  leakSuspect : Bool
  classDisagree : Bool
  estimated : Bool
  deriving DecidableEq, Repr

/-- How a record closed (R10). -/
inductive Disposition where
  | complete
  | retired
  | withdrawn
  | chamberAborted
  deriving DecidableEq, Repr

/-- A unit record (R1).  A record in the closed log has no place. -/
structure UnitRecord where
  tag : Tag
  place : Option Place
  station : Option StationId
  refrigerant : Option RefrigerantClass
  declaredFoam : Option GasClass
  measured : Option RefrigerantClass
  bands : Option (Vector Nat 6)
  signature : Option SignatureId
  effective : Option RefrigerantClass
  evacuations : Nat
  rise : Option Nat
  faultedPhase : Option StationPhase
  allocations : List Allocation
  total : Grams
  oil : Option Grams
  foam : Option Grams
  windows : List WindowEntry
  agent : Grams
  flags : RecordFlags
  disposition : Option Disposition
  digest : Option Check
  deriving DecidableEq, Repr

/-- The unit register, the CLOSING FIFO, the closed log and the log-full mark (R8, R12, R13).  The
register of R8 is `units` with `closing`: the records of `closing` are in place CLOSING (log 31). -/
structure UnitRegister where
  units : List UnitRecord
  closing : List UnitRecord
  log : List UnitRecord
  logFull : Bool
  deriving DecidableEq, Repr

/-! ## The Classifier (spec/02_gas_classification.md) -/

/-- The window of an enabled band (R29). -/
structure BandWindow where
  low : Nat
  high : Nat
  deriving DecidableEq, Repr

/-- A valid signature entry (R29): a band with no window is not enabled. -/
structure Signature where
  cls : GasClass
  windows : Vector (Option BandWindow) 6
  invert : Bool
  deriving DecidableEq, Repr

/-- The stages of a running sample cycle (R33); FREE is the absence of a cycle. -/
inductive CycleStage where
  | opening
  | measuring
  | closing
  deriving DecidableEq, Repr

/-- The sample-cycle record (R33), with the numbers of the cycle's orders, whether the close counts as
done and whether the manifold is blocked (R38; log 13). -/
structure SampleCycle where
  stage : CycleStage
  station : StationId
  tag : Tag
  outstanding : Bool
  abandoned : Bool
  openOrder : Option Nat
  sampleOrder : Option Nat
  closeOrder : Option Nat
  closeDone : Bool
  blocked : Bool
  deriving DecidableEq, Repr

/-- The Classifier: signature table (R29; an absent entry is invalid), analyser queue (R32) and
sample cycle (R33; absent in FREE). -/
structure Classifier where
  table : Vector (Option Signature) 16
  queue : List StationId
  cycle : Option SampleCycle
  deriving DecidableEq, Repr

/-! ## The Station Controller (spec/03_evacuation_stations.md) -/

/-- The faulted phase of a station (R49): a phase, or UNCLAMP. -/
inductive StationFault where
  | phase (p : StationPhase)
  | unclamp
  deriving DecidableEq, Repr

/-- A block's view of a valve (R49, R136). -/
inductive ValveView where
  | closed
  | opening
  | opened
  | closing
  deriving DecidableEq, Repr

/-- A reading of the oil scale with its moment (R66). -/
structure OilReading where
  moment : Moment
  grams : Grams
  deriving DecidableEq, Repr

/-- The three valves of a station (R190). -/
inductive StationValve where
  | evac
  | sample
  | drain
  deriving DecidableEq, Repr

/-- A valve that the last fault or halt action closed and that has not been reported closed, with the
number of its close order while that order may still be reported DONE (R69). -/
structure Unsecured where
  valve : StationValve
  order : Option Nat
  deriving DecidableEq, Repr

/-- A station (R49).  `unsecured` is empty exactly when the secured mark is yes.  The last four fields
are what R53, R58, R65 and R71 imply (log 13). -/
structure Station where
  phase : StationPhase
  nextPhase : Option StationPhase
  unit : Option Tag
  faultedPhase : Option StationFault
  unclamping : Bool
  train : Option TrainId
  requestTime : Option Moment
  clock : Nat
  evacValve : ValveView
  suspended : Bool
  awaitingVessel : Bool
  riseEntry : Option Nat
  holdEnd : Option Moment
  oilReference : Option Grams
  oilDeadline : Option Moment
  oilReadings : List OilReading
  unsecured : List Unsecured
  pierceDone : Bool
  workOrder : Option Nat
  evacOrder : Option Nat
  drainOrder : Option Nat
  deriving DecidableEq, Repr

/-! ## The Path Arbiter (spec/04_recovery_trains_and_path_arbitration.md) -/

/-- The states of a train (R80). -/
inductive TrainState where
  | idle
  | purging
  | drawing
  | paused
  | waitVessel
  | tailing
  | faulted
  | outOfService
  deriving DecidableEq, Repr

/-- A train (R80).  A last class of UNKNOWN is `none`. -/
structure Train where
  state : TrainState
  lastClass : Option VesselClass
  carried : Option VesselClass
  station : Option StationId
  tag : Option Tag
  slot : Option SlotId
  purgeEnd : Option Moment
  tailEnd : Option Moment
  deriving DecidableEq, Repr

/-- A train request (R83).  A unit that needs no vessel (R43) has no class needed (log 36). -/
structure Request where
  station : StationId
  time : Moment
  needed : Option VesselClass
  deriving DecidableEq, Repr

/-- The trains, the stations' path lists (R82) and the request list (R83). -/
structure Arbiter where
  trains : Vector Train 4
  paths : Vector (List TrainId) 8
  requests : List Request
  deriving DecidableEq, Repr

/-! ## The Vessel Table (spec/05_vessels_and_mass_booking.md) -/

/-- The states of a slot that is not VACANT (R97). -/
inductive VesselState where
  | ready
  | filling
  | full
  deriving DecidableEq, Repr

/-- What the books hold of a vessel (R97). -/
structure Vessel where
  state : VesselState
  id : Nat
  cls : VesselClass
  tare : Grams
  initial : Grams
  fill : Grams
  booked : Grams
  deriving DecidableEq, Repr

/-- A vessel slot (R97): VACANT when it holds no vessel.  Present and scale net come together with the
first bay answer (R99).  The feeders are computed from the trains and banks (R98; log 39). -/
structure Slot where
  vessel : Option Vessel
  platform : Option Platform
  deriving DecidableEq, Repr

/-! ## The Chamber Sequencer (spec/06_the_foam_chamber.md) -/

/-- The feed queue (R117) and the chamber (R119), with the number of the awaited DOOR_CYCLE order
(log 13). -/
structure Chamber where
  feed : List Tag
  phase : ChamberPhase
  nextPhase : Option ChamberPhase
  unit : Option Tag
  repurge : Bool
  returnPhase : Option ChamberPhase
  faultedPhase : Option ChamberPhase
  foamStart : Option Grams
  emptyNoted : Bool
  purgeEnd : Option Moment
  clearEnd : Option Moment
  nitrogenOpen : Bool
  readings : Option ChamberReadings
  doorOrder : Option Nat
  deriving DecidableEq, Repr

/-! ## The Condenser (spec/07_condenser_banks_and_agent_attribution.md) -/

/-- The states of a bank (R136). -/
inductive BankState where
  | warm
  | cooling
  | cold
  | condensing
  | defrost
  | drain
  | drainWait
  | faulted
  deriving DecidableEq, Repr

/-- An entry of a bank's window (R136). -/
structure Cabinet where
  tag : Tag
  foam : Option Grams
  deriving DecidableEq, Repr

/-- A condenser bank (R136).  The condensing time is in milliseconds (log 7). -/
structure Bank where
  state : BankState
  temperature : Option Int
  load : Grams
  condensingTime : Nat
  swapPending : Bool
  hardRaised : Bool
  window : List Cabinet
  drained : Grams
  drainSlot : Option SlotId
  drainValve : ValveView
  drainEnded : Bool
  drainDeadline : Option Moment
  seenNonzero : Bool
  coolDeadline : Option Moment
  defrostDeadline : Option Moment
  defrostRemaining : Option Moment
  overrunRaised : Bool
  waitSince : Option Moment
  paused : Bool
  faultAfterDrain : Bool
  drainOrder : Option Nat
  deriving DecidableEq, Repr

/-- Both banks, the started mark and the last drain bank (R136). -/
structure Condenser where
  bankA : Bank
  bankB : Bank
  started : Bool
  lastDrainBank : Option BankId
  deriving DecidableEq, Repr

/-! ## The Condition Monitor (spec/08_conditions.md) -/

/-- The kinds of condition (R158). -/
inductive ConditionKind where
  | lelHigh
  | chamberO2High
  | manifoldOverpressure
  | vesselOverfill
  | safetySilent
  | emergencyStop
  | vesselFull
  | vesselNone
  | agentVesselNone
  | allocExhausted
  | classDisagree
  | classUnknown
  | riseFailed
  | evacOvertime
  | orderTimeout
  | orderFailed
  | nodeSilent
  | lelWarn
  | chamberO2Pause
  | purgeTimeout
  | analyserFault
  | trainFault
  | bankCoolTimeout
  | bankLoadHard
  | defrostOverrun
  | bankFault
  | vesselDiscrepancy
  | closedLogFull
  | unattributedDrain
  | watchHit
  | stepDone
  | linkOverrun
  deriving DecidableEq, Repr

/-- The classes of condition (R158). -/
inductive ConditionClass where
  | exigent
  | supply
  | process
  | condenser
  | accounting
  | operator
  deriving DecidableEq, Repr

/-- Where a condition arises (R158). -/
inductive Origin where
  | station (i : StationId)
  | train (t : TrainId)
  | slot (k : SlotId)
  | bank (which : BankId)
  | node (n : Node)
  | chamber
  | line
  deriving DecidableEq, Repr

/-- The detail of a condition: one or two whole numbers (R158). -/
structure Detail where
  first : Int
  second : Option Int
  deriving DecidableEq, Repr

/-- An entry of the pending list (R161).  Its class is fixed by its kind. -/
structure ConditionEntry where
  kind : ConditionKind
  origin : Origin
  detail : Detail
  count : Nat
  deriving DecidableEq, Repr

/-- The pending list, the masks, the overflow mark and the ATTN pin (R160, R161, R162, R164). -/
structure Monitor where
  entries : List ConditionEntry
  masks : Masks
  overflow : Bool
  attn : Bool
  deriving DecidableEq, Repr

/-! ## Line Control (spec/09_line_control_and_settings.md) -/

/-- The line state (R169). -/
inductive LineState where
  | stopped
  | run
  | step
  | halted
  deriving DecidableEq, Repr

/-- An entry of the watch list (R175). -/
structure WatchEntry where
  tag : Tag
  phase : PhaseName
  deriving DecidableEq, Repr

/-- The settings table (R178). -/
structure Settings where
  pierceEmpty : Nat
  evacTarget : Nat
  evacMax : Nat
  riseHold : Nat
  riseLimit : Nat
  evacAttempts : Nat
  oilSettle : Nat
  oilMax : Nat
  purgeO2 : Nat
  pauseO2 : Nat
  purgeMax : Nat
  lelWarn : Nat
  bankSwapLoad : Nat
  bankHardLoad : Nat
  bankMaxTime : Nat
  defrostMax : Nat
  trainPurge : Nat
  holdMax : Nat
  discrepancyGrams : Nat
  discrepancyPercent : Nat
  deriving DecidableEq, Repr

/-- A watch hit counted in the present event: where it stands in R175's order, and its tag. -/
structure Hit where
  rank : Nat
  tag : Tag
  deriving DecidableEq, Repr

/-- Line Control.  `credits` and `holders` list the stations in ascending order.  `hitTop` is the
model's own scratch: the highest hit counted in the present event, absent between events (log 20). -/
structure LineControl where
  line : LineState
  credits : List StationId
  chamberCredit : Bool
  holders : List StationId
  chamberHolder : Bool
  watch : List WatchEntry
  settings : Settings
  haltPin : Bool
  hitTop : Option Hit
  deriving DecidableEq, Repr

/-! ## The Command Line (spec/10_the_command_line.md) -/

/-- The held query (R20). -/
structure HeldQuery where
  tag : Tag
  expiry : Moment
  deriving DecidableEq, Repr

/-- An open signature load (R44). -/
structure Load where
  expected : Nat
  badRow : Bool
  lastRow : Option SignatureId
  deriving DecidableEq, Repr

/-- The state of the interface (R186), with what it waits for. -/
inductive LinkState where
  | ready
  | held (query : HeldQuery)
  | loading (load : Load)
  | resetting (kind : ResetKind)
  deriving DecidableEq, Repr

/-- The Command Line: its state, the line in assembly (R182), the buffer (R187), and the lines formed
for sending, in the order they were formed (R185; log 10). -/
structure CommandLine where
  state : LinkState
  assembly : Line
  buffer : Option Line
  sent : List Text
  deriving DecidableEq, Repr

/-! ## The Field Loop (spec/11_the_field_loop.md) -/

/-- The orders of R194's table. -/
inductive OrderKind where
  | clamp
  | unclamp
  | pierce
  | evacValve (toOpen : Bool)
  | drainValve (toOpen : Bool)
  | sampleValve (toOpen : Bool)
  | startSample
  | compressorStart
  | compressorStop
  | purgeValve (toOpen : Bool)
  | outletOpen (slot : SlotId)
  | outletClose
  | nitrogen (toOpen : Bool)
  | doorCycle
  | doorLock
  | shredderStart
  | shredderStop
  | refrigerationStart (bank : BankId)
  | refrigerationStop (bank : BankId)
  | heaterOn (bank : BankId)
  | heaterOff (bank : BankId)
  | inletValve (bank : BankId) (toOpen : Bool)
  | bankDrainOpen (bank : BankId) (slot : SlotId)
  | bankDrainClose (bank : BankId)
  deriving DecidableEq, Repr

/-- The blocks that issue orders (R194). -/
inductive Issuer where
  | stationController
  | classifier
  | pathArbiter
  | chamberSequencer
  | condenser
  deriving DecidableEq, Repr

/-- What an order was issued for, where a rule asks it of an order that fails or stands: the halt action
at a train or at the chamber (R94, R133), the oxygen pause (R126), or anything else (log 13). -/
inductive OrderCause where
  | work
  | halt
  | oxygenPause
  deriving DecidableEq, Repr

/-- An outstanding order (R192). -/
structure Order where
  number : Nat
  node : Node
  kind : OrderKind
  issuer : Issuer
  deadline : Moment
  acknowledged : Bool
  cause : OrderCause := .work
  deriving DecidableEq, Repr

/-- What the Field Loop keeps of a node (R189, R191). -/
structure NodeState where
  misses : Nat
  silent : Bool
  previousTaken : Bool
  deriving DecidableEq, Repr

/-- A poll (R189): the node, the orders it carries, the acknowledgement mark.  Its check is left out
(log 48). -/
structure Poll where
  node : Node
  orders : List Order
  previousTaken : Bool
  deriving DecidableEq, Repr

/-- The Field Loop (R189, R191, R192).  `lastPoll` is the poll last sent (log 34). -/
structure FieldLoop where
  nodes : Vector NodeState 17
  orders : List Order
  nextNumber : Nat
  nextPoll : Fin 17
  lastPoll : Option Poll
  deriving DecidableEq, Repr

/-! ## The whole machine -/

/-- Why a step stops with a fault.  The spec names nothing that stops the part: what it calls FAULTED
is a phase of one of its blocks.  So no fault exists, and no meaning raises one (safe). -/
inductive Fault where
  deriving DecidableEq, Repr

/-- Why a step refuses.  The refusals of the spec are reply lines, and so next states. -/
inductive Refusal where
  /-- Raised only by an arm of `exec` whose command has no meaning yet; safe.  No arm does. -/
  | notModelled (mnemonic : String)
  deriving DecidableEq, Repr

/-- The HB-740. -/
structure State where
  /-- The commands that wait, first in, first out. -/
  pending : List Instr
  /-- The RESET pin is asserted (R181). -/
  resetPin : Bool
  /-- The present moment (log 1). -/
  now : Moment
  /-- How many free values have been taken (log 9). -/
  freeCount : Nat
  register : UnitRegister
  classifier : Classifier
  stations : Vector Station 8
  arbiter : Arbiter
  slots : Vector Slot 12
  chamber : Chamber
  condenser : Condenser
  monitor : Monitor
  control : LineControl
  link : CommandLine
  loop : FieldLoop
  deriving DecidableEq, Repr

/-! ## The state after a power-on reset -/

/-- An EMPTY station (R49, last column). -/
def Station.reset : Station where
  phase := .empty
  nextPhase := none
  unit := none
  faultedPhase := none
  unclamping := false
  train := none
  requestTime := none
  clock := 0
  evacValve := .closed
  suspended := false
  awaitingVessel := false
  riseEntry := none
  holdEnd := none
  oilReference := none
  oilDeadline := none
  oilReadings := []
  unsecured := []
  pierceDone := false
  workOrder := none
  evacOrder := none
  drainOrder := none

/-- A train after power-on (R80, last column). -/
def Train.reset : Train where
  state := .idle
  lastClass := none
  carried := none
  station := none
  tag := none
  slot := none
  purgeEnd := none
  tailEnd := none

/-- The chamber after power-on (R119, last column; R135). -/
def Chamber.reset : Chamber where
  feed := []
  phase := .idle
  nextPhase := none
  unit := none
  repurge := false
  returnPhase := none
  faultedPhase := none
  foamStart := none
  emptyNoted := false
  purgeEnd := none
  clearEnd := none
  nitrogenOpen := false
  readings := none
  doorOrder := none

/-- A bank after power-on (R136, last column). -/
def Bank.reset : Bank where
  state := .warm
  temperature := none
  load := 0
  condensingTime := 0
  swapPending := false
  hardRaised := false
  window := []
  drained := 0
  drainSlot := none
  drainValve := .closed
  drainEnded := false
  drainDeadline := none
  seenNonzero := false
  coolDeadline := none
  defrostDeadline := none
  defrostRemaining := none
  overrunRaised := false
  waitSince := none
  paused := false
  faultAfterDrain := false
  drainOrder := none

/-- The default settings (R178). -/
def Settings.default : Settings where
  pierceEmpty := 120
  evacTarget := 30
  evacMax := 1200
  riseHold := 120
  riseLimit := 15
  evacAttempts := 3
  oilSettle := 5
  oilMax := 300
  purgeO2 := 40
  pauseO2 := 50
  purgeMax := 300
  lelWarn := 10
  bankSwapLoad := 1800
  bankHardLoad := 2200
  bankMaxTime := 2400
  defrostMax := 900
  trainPurge := 90
  holdMax := 30
  discrepancyGrams := 50
  discrepancyPercent := 2

/-- The masks after power-on (R160). -/
def defaultMasks : Masks where
  supply := true
  process := false
  condenser := false
  accounting := true
  operator := false

/-- An empty line in assembly (R182). -/
def emptyLine : Line where
  chars := []
  overLength := false

/-- The machine after a power-on reset: R28, R29, R41, R49, R80, R82, R83, R97, R117, R119, R136, R160,
R168, R175, R178, R181, R188, R195. -/
def State.reset : State where
  pending := []
  resetPin := false
  now := 0
  freeCount := 0
  register := { units := [], closing := [], log := [], logFull := false }
  classifier := { table := Vector.replicate 16 none, queue := [], cycle := none }
  stations := Vector.replicate 8 Station.reset
  arbiter :=
    { trains := Vector.replicate 4 Train.reset
      paths := Vector.replicate 8 [0, 1, 2, 3]
      requests := [] }
  slots := Vector.replicate 12 { vessel := none, platform := none }
  chamber := Chamber.reset
  condenser :=
    { bankA := Bank.reset, bankB := Bank.reset, started := false, lastDrainBank := none }
  monitor := { entries := [], masks := defaultMasks, overflow := false, attn := false }
  control :=
    { line := .stopped
      credits := []
      chamberCredit := false
      holders := []
      chamberHolder := false
      watch := []
      settings := Settings.default
      haltPin := false
      hitTop := none }
  link := { state := .ready, assembly := emptyLine, buffer := none, sent := [] }
  loop :=
    { nodes := Vector.replicate 17 { misses := 0, silent := false, previousTaken := true }
      orders := []
      nextNumber := 1
      nextPoll := 0
      lastPoll := none }

end Sys2Proof.Machine
end

