-- ==== Sys2Proof/Machine/Text.lean ====
section
/-!
DEFINITION. Text: the check and digest (R196, Introduction's Checks and digests), the writing of
numbers, words, fields and lists (R196), and the words of the spec.
-/

namespace Sys2Proof.Machine

/-! ## Characters -/

/-- The characters of a word of the spec, one byte each. -/
def ascii (s : String) : Text := s.toList.map fun c => BitVec.ofNat 8 c.toNat

def chSpace : Byte := 0x20#8
def chHash : Byte := 0x23#8
def chComma : Byte := 0x2C#8
def chMinus : Byte := 0x2D#8
def chColon : Byte := 0x3A#8
def chEquals : Byte := 0x3D#8
def chCR : Byte := 0x0D#8
def chLF : Byte := 0x0A#8

/-! ## The check (R196) -/

/-- `k n`, with `n` brought to a numeral first, so that the kernel's evaluation of a long check stays
shallow (`forceNat_eq` in Laws/Text.lean). -/
def forceNat {α : Type} (n : Nat) (k : Nat → α) : α :=
  match n with
  | 0 => k 0
  | m + 1 => k (m + 1)

/-- One of the eight shifts: the register moves left by one place, and if the bit shifted out was 1 the
polynomial 8005 is combined in. -/
def crcShift (r : Check) : Check :=
  if r.getMsbD 0 then (r <<< 1) ^^^ 0x8005#16 else r <<< 1

/-- One byte: combined into the upper eight bits, then eight shifts. -/
def crcByte (r : Check) (b : Byte) : Check :=
  crcShift (crcShift (crcShift (crcShift (crcShift (crcShift (crcShift (crcShift
    (r ^^^ (b.setWidth 16 <<< 8)))))))))

/-- The register after the bytes of a text, from the register value `r`. -/
def crcFrom (r : Nat) : Text → Check
  | [] => BitVec.ofNat 16 r
  | b :: t => forceNat (crcByte (BitVec.ofNat 16 r) b).toNat fun r' => crcFrom r' t

/-- The check or digest of a text: the register begins at FFFF. -/
def crc (t : Text) : Check := crcFrom 0xFFFF t

/-! ## Numbers -/

/-- Decimal digits with no leading zero, 0 as `0`. -/
def numText (n : Nat) : Text := (Nat.toDigits 10 n).map fun c => BitVec.ofNat 8 c.toNat

/-- A number with a leading minus sign where it is negative. -/
def intText (i : Int) : Text :=
  match i with
  | .ofNat n => numText n
  | .negSucc n => chMinus :: numText (n + 1)

/-- An uppercase hexadecimal digit. -/
def hexDigit (n : Nat) : Byte := BitVec.ofNat 8 (if n < 10 then 0x30 + n else 0x37 + n)

/-- Four uppercase hexadecimal digits, leading zeros kept. -/
def hex4 (c : Check) : Text :=
  [hexDigit (c.toNat / 4096 % 16), hexDigit (c.toNat / 256 % 16),
    hexDigit (c.toNat / 16 % 16), hexDigit (c.toNat % 16)]

/-! ## Fields and lists (R196) -/

/-- The items of a list or compound item, with a separator between them. -/
def joinText (sep : Byte) : List Text → Text
  | [] => []
  | [t] => t
  | t :: ts => t ++ sep :: joinText sep ts

/-- A field with the space that precedes it. -/
def field (name : String) (value : Text) : Text :=
  chSpace :: ascii name ++ chEquals :: value

/-- An optional field: left out with its name when absent. -/
def optField (name : String) (value : Option Text) : Text :=
  match value with
  | none => []
  | some v => field name v

/-- A list field: items separated by commas. -/
def listField (name : String) (items : List Text) : Text := field name (joinText chComma items)

/-- A compound item: parts separated by colons. -/
def compound (parts : List Text) : Text := joinText chColon parts

/-- A part of a compound item: `-` when absent. -/
def partText (part : Option Text) : Text := part.getD [chMinus]

/-- The ending of every line the part sends: a space, `#`, the check over every character before the
`#`, CR and LF (R185, R196). -/
def sealLine (body : Text) : Text :=
  let checked := body ++ [chSpace]
  checked ++ chHash :: hex4 (crc checked) ++ [chCR, chLF]

/-! ## Words -/

def yesNo (b : Bool) : Text := ascii (if b then "yes" else "no")
def onOff (b : Bool) : Text := ascii (if b then "on" else "off")
def inOut (b : Bool) : Text := ascii (if b then "in" else "out")

def bankWord : BankId → String
  | .a => "A"
  | .b => "B"

def refrigerantWord : RefrigerantClass → String
  | .none => "NONE"
  | .cfc => "CFC"
  | .hcfc => "HCFC"
  | .hfc => "HFC"
  | .hc => "HC"
  | .unknown => "UNKNOWN"

def gasWord : GasClass → String
  | .cfc => "CFC"
  | .hcfc => "HCFC"
  | .hfc => "HFC"
  | .hc => "HC"
  | .unknown => "UNKNOWN"

def vesselClassWord : VesselClass → String
  | .cfc => "CFC"
  | .hcfc => "HCFC"
  | .hfc => "HFC"
  | .hc => "HC"
  | .mixed => "MIXED"
  | .agent => "AGENT"

def phaseNameWord : PhaseName → String
  | .empty => "EMPTY"
  | .clamping => "CLAMPING"
  | .loaded => "LOADED"
  | .pierce => "PIERCE"
  | .sampleWait => "SAMPLE_WAIT"
  | .sampling => "SAMPLING"
  | .trainWait => "TRAIN_WAIT"
  | .evacuate => "EVACUATE"
  | .riseTest => "RISE_TEST"
  | .oilDrain => "OIL_DRAIN"
  | .done => "DONE"
  | .faulted => "FAULTED"
  | .idle => "IDLE"
  | .airlock => "AIRLOCK"
  | .purge => "PURGE"
  | .shred => "SHRED"
  | .clear => "CLEAR"
  | .suspended => "SUSPENDED"

/-- The name of a station phase. -/
def stationPhaseName : StationPhase → PhaseName
  | .empty => .empty
  | .clamping => .clamping
  | .loaded => .loaded
  | .pierce => .pierce
  | .sampleWait => .sampleWait
  | .sampling => .sampling
  | .trainWait => .trainWait
  | .evacuate => .evacuate
  | .riseTest => .riseTest
  | .oilDrain => .oilDrain
  | .done => .done
  | .faulted => .faulted

/-- The name of a chamber phase. -/
def chamberPhaseName : ChamberPhase → PhaseName
  | .idle => .idle
  | .airlock => .airlock
  | .purge => .purge
  | .shred => .shred
  | .clear => .clear
  | .suspended => .suspended
  | .faulted => .faulted

def stationPhaseWord (p : StationPhase) : String := phaseNameWord (stationPhaseName p)

def chamberPhaseWord (p : ChamberPhase) : String := phaseNameWord (chamberPhaseName p)

def stationFaultWord : StationFault → String
  | .phase p => stationPhaseWord p
  | .unclamp => "UNCLAMP"

def placeWord : Place → String
  | .station => "STATION"
  | .queued => "QUEUED"
  | .chamber => "CHAMBER"
  | .attribution => "ATTRIBUTION"
  | .closing => "CLOSING"

def dispositionWord : Disposition → String
  | .complete => "COMPLETE"
  | .retired => "RETIRED"
  | .withdrawn => "WITHDRAWN"
  | .chamberAborted => "CHAMBER_ABORTED"

def trainStateWord : TrainState → String
  | .idle => "IDLE"
  | .purging => "PURGING"
  | .drawing => "DRAWING"
  | .paused => "PAUSED"
  | .waitVessel => "WAIT_VESSEL"
  | .tailing => "TAILING"
  | .faulted => "FAULTED"
  | .outOfService => "OUT_OF_SERVICE"

def bankStateWord : BankState → String
  | .warm => "WARM"
  | .cooling => "COOLING"
  | .cold => "COLD"
  | .condensing => "CONDENSING"
  | .defrost => "DEFROST"
  | .drain => "DRAIN"
  | .drainWait => "DRAIN_WAIT"
  | .faulted => "FAULTED"

def lineStateWord : LineState → String
  | .stopped => "STOPPED"
  | .run => "RUN"
  | .step => "STEP"
  | .halted => "HALTED"

def vesselStateWord : VesselState → String
  | .ready => "READY"
  | .filling => "FILLING"
  | .full => "FULL"

def resetKindWord : ResetKind → String
  | .line => "line"
  | .clear => "clear"

def conditionWord : ConditionKind → String
  | .lelHigh => "LEL_HIGH"
  | .chamberO2High => "CHAMBER_O2_HIGH"
  | .manifoldOverpressure => "MANIFOLD_OVERPRESSURE"
  | .vesselOverfill => "VESSEL_OVERFILL"
  | .safetySilent => "SAFETY_SILENT"
  | .emergencyStop => "EMERGENCY_STOP"
  | .vesselFull => "VESSEL_FULL"
  | .vesselNone => "VESSEL_NONE"
  | .agentVesselNone => "AGENT_VESSEL_NONE"
  | .allocExhausted => "ALLOC_EXHAUSTED"
  | .classDisagree => "CLASS_DISAGREE"
  | .classUnknown => "CLASS_UNKNOWN"
  | .riseFailed => "RISE_FAILED"
  | .evacOvertime => "EVAC_OVERTIME"
  | .orderTimeout => "ORDER_TIMEOUT"
  | .orderFailed => "ORDER_FAILED"
  | .nodeSilent => "NODE_SILENT"
  | .lelWarn => "LEL_WARN"
  | .chamberO2Pause => "CHAMBER_O2_PAUSE"
  | .purgeTimeout => "PURGE_TIMEOUT"
  | .analyserFault => "ANALYSER_FAULT"
  | .trainFault => "TRAIN_FAULT"
  | .bankCoolTimeout => "BANK_COOL_TIMEOUT"
  | .bankLoadHard => "BANK_LOAD_HARD"
  | .defrostOverrun => "DEFROST_OVERRUN"
  | .bankFault => "BANK_FAULT"
  | .vesselDiscrepancy => "VESSEL_DISCREPANCY"
  | .closedLogFull => "CLOSED_LOG_FULL"
  | .unattributedDrain => "UNATTRIBUTED_DRAIN"
  | .watchHit => "WATCH_HIT"
  | .stepDone => "STEP_DONE"
  | .linkOverrun => "LINK_OVERRUN"

def conditionClassWord : ConditionClass → String
  | .exigent => "EXIGENT"
  | .supply => "SUPPLY"
  | .process => "PROCESS"
  | .condenser => "CONDENSER"
  | .accounting => "ACCOUNTING"
  | .operator => "OPERATOR"

def settingWord : SettingName → String
  | .pierceEmpty => "pierce-empty"
  | .evacTarget => "evac-target"
  | .evacMax => "evac-max"
  | .riseHold => "rise-hold"
  | .riseLimit => "rise-limit"
  | .evacAttempts => "evac-attempts"
  | .oilSettle => "oil-settle"
  | .oilMax => "oil-max"
  | .purgeO2 => "purge-o2"
  | .pauseO2 => "pause-o2"
  | .purgeMax => "purge-max"
  | .lelWarn => "lel-warn"
  | .bankSwapLoad => "bank-swap-load"
  | .bankHardLoad => "bank-hard-load"
  | .bankMaxTime => "bank-max-time"
  | .defrostMax => "defrost-max"
  | .trainPurge => "train-purge"
  | .holdMax => "hold-max"
  | .discrepancyGrams => "discrepancy-grams"
  | .discrepancyPercent => "discrepancy-percent"

/-! ## Numbers of things -/

def stationText (i : StationId) : Text := numText (i.val + 1)
def trainText (t : TrainId) : Text := numText (t.val + 1)
def slotText (k : SlotId) : Text := numText (k.val + 1)

/-- The field-loop address of a node (The Field Loop, Nodes and the polling round). -/
def nodeAddress : Node → Nat
  | .station i => i.val + 1
  | .analyser => 16
  | .train t => t.val + 17
  | .bay => 24
  | .chamber => 25
  | .condenser => 26
  | .safety => 31

/-! ## Command words and refusal reasons (R183, R185) -/

/-- The 31 command words. -/
inductive CommandWord where
  | admitUnit
  | queryUnit
  | takeClosed
  | loadSignatures
  | signatureDigest
  | clearSignatures
  | release
  | retire
  | resume
  | setPaths
  | trainService
  | insertVessel
  | closeVessel
  | removeVessel
  | queryVessel
  | withdrawFeed
  | abortChamber
  | swapBanks
  | bankService
  | queryCondenser
  | setMasks
  | report
  | start
  | stop
  | step
  | setWatch
  | clearWatch
  | status
  | setLimit
  | getLimit
  | reset
  deriving DecidableEq, Repr

def commandText : CommandWord → String
  | .admitUnit => "ADMIT"
  | .queryUnit => "QUERY-UNIT"
  | .takeClosed => "TAKE-CLOSED"
  | .loadSignatures => "LOAD-SIGNATURES"
  | .signatureDigest => "SIGNATURE-DIGEST"
  | .clearSignatures => "CLEAR-SIGNATURES"
  | .release => "RELEASE"
  | .retire => "RETIRE"
  | .resume => "RESUME"
  | .setPaths => "SET-PATHS"
  | .trainService => "TRAIN-SERVICE"
  | .insertVessel => "INSERT-VESSEL"
  | .closeVessel => "CLOSE-VESSEL"
  | .removeVessel => "REMOVE-VESSEL"
  | .queryVessel => "QUERY-VESSEL"
  | .withdrawFeed => "WITHDRAW-FEED"
  | .abortChamber => "ABORT-CHAMBER"
  | .swapBanks => "SWAP-BANKS"
  | .bankService => "BANK-SERVICE"
  | .queryCondenser => "QUERY-CONDENSER"
  | .setMasks => "SET-MASKS"
  | .report => "REPORT"
  | .start => "START"
  | .stop => "STOP"
  | .step => "STEP"
  | .setWatch => "SET-WATCH"
  | .clearWatch => "CLEAR-WATCH"
  | .status => "STATUS"
  | .setLimit => "SET-LIMIT"
  | .getLimit => "GET-LIMIT"
  | .reset => "RESET"

/-- The refusal reasons (R185). -/
inductive Reason where
  | duplicate
  | full
  | stationBusy
  | nodeSilent
  | lineHalted
  | wrongState
  | noSuchUnit
  | noSuchSlot
  | slotBusy
  | notPresent
  | feeding
  | queueFull
  | range
  | badRow
  deriving DecidableEq, Repr

def reasonWord : Reason → String
  | .duplicate => "DUPLICATE"
  | .full => "FULL"
  | .stationBusy => "STATION_BUSY"
  | .nodeSilent => "NODE_SILENT"
  | .lineHalted => "LINE_HALTED"
  | .wrongState => "WRONG_STATE"
  | .noSuchUnit => "NO_SUCH_UNIT"
  | .noSuchSlot => "NO_SUCH_SLOT"
  | .slotBusy => "SLOT_BUSY"
  | .notPresent => "NOT_PRESENT"
  | .feeding => "FEEDING"
  | .queueFull => "QUEUE_FULL"
  | .range => "RANGE"
  | .badRow => "BAD_ROW"

/-- The framing replies (R183). -/
inductive FramingReply where
  | badLength
  | badCheck
  | what
  | badField
  | badValue
  deriving DecidableEq, Repr

def framingWord : FramingReply → String
  | .badLength => "BAD LENGTH"
  | .badCheck => "BAD CHECK"
  | .what => "WHAT"
  | .badField => "BAD FIELD"
  | .badValue => "BAD VALUE"

/-- `OK <WORD>` and its fields, without the ending of R196. -/
def okBody (w : CommandWord) (fields : Text) : Text :=
  ascii "OK " ++ ascii (commandText w) ++ fields

/-- The sent line `OK <WORD> …`. -/
def okLine (w : CommandWord) (fields : Text) : Text := sealLine (okBody w fields)

/-- The sent line `NO <WORD> reason=<reason>`. -/
def noLine (w : CommandWord) (r : Reason) : Text :=
  sealLine (ascii "NO " ++ ascii (commandText w) ++ field "reason" (ascii (reasonWord r)))

/-- The sent line of a framing reply. -/
def framingLine (f : FramingReply) : Text := sealLine (ascii (framingWord f))

end Sys2Proof.Machine
end

