-- ==== Sys2Proof/Machine/Flags.lean ====
section
/-!
DEFINITION. What the rules read of the state without changing it: the class of a condition and the ATTN
pin, silence, permission, rest, a shred in progress, an open accumulation, and the properties derived
from a unit record.
-/

namespace Sys2Proof.Machine

/-! ## Numbered things in ascending order -/

def stationIds : List StationId := [0, 1, 2, 3, 4, 5, 6, 7]
def trainIds : List TrainId := [0, 1, 2, 3]
def slotIds : List SlotId := [0, 1, 2, 3, 4, 5, 6, 7, 8, 9, 10, 11]
def bankIds : List BankId := [.a, .b]
def bandIds : List Band := [0, 1, 2, 3, 4, 5]
def signatureIds : List SignatureId := [0, 1, 2, 3, 4, 5, 6, 7, 8, 9, 10, 11, 12, 13, 14, 15]

/-- A station number of a command, where it lies in 1 to 8. -/
def stationOf (n : Nat) : Option StationId :=
  if h : 1 ≤ n ∧ n ≤ 8 then some ⟨n - 1, by omega⟩ else none

/-- A train number of a command, where it lies in 1 to 4. -/
def trainOf (n : Nat) : Option TrainId :=
  if h : 1 ≤ n ∧ n ≤ 4 then some ⟨n - 1, by omega⟩ else none

/-- A slot number of a command, where it lies in 1 to 12. -/
def slotOf (n : Nat) : Option SlotId :=
  if h : 1 ≤ n ∧ n ≤ 12 then some ⟨n - 1, by omega⟩ else none

/-- A node's place in the polling round, which is in ascending address order (R189). -/
def nodeIndex : Node → Fin 17
  | .station i => ⟨i.val, by omega⟩
  | .analyser => 8
  | .train t => ⟨t.val + 9, by omega⟩
  | .bay => 13
  | .chamber => 14
  | .condenser => 15
  | .safety => 16

/-- The node polled at a place of the round. -/
def nodeAt (k : Fin 17) : Node :=
  if h : k.val < 8 then .station ⟨k.val, h⟩
  else if k.val = 8 then .analyser
  else if h : 9 ≤ k.val ∧ k.val < 13 then .train ⟨k.val - 9, by omega⟩
  else if k.val = 13 then .bay
  else if k.val = 14 then .chamber
  else if k.val = 15 then .condenser
  else .safety

/-- The other bank. -/
def otherBank : BankId → BankId
  | .a => .b
  | .b => .a

/-! ## Reading the parts of the state -/

def State.station (s : State) (i : StationId) : Station := s.stations.get i
def State.train (s : State) (t : TrainId) : Train := s.arbiter.trains.get t
def State.slot (s : State) (k : SlotId) : Slot := s.slots.get k
def State.node (s : State) (n : Node) : NodeState := s.loop.nodes.get (nodeIndex n)

def State.bank (s : State) : BankId → Bank
  | .a => s.condenser.bankA
  | .b => s.condenser.bankB

/-- The settings table (R178). -/
def State.limits (s : State) : Settings := s.control.settings

/-- The line is HALTED. -/
def State.halted (s : State) : Bool := s.control.line == .halted

/-- The line is in RUN or STEP, in which grants are made (R169). -/
def State.running (s : State) : Bool := s.control.line == .run || s.control.line == .step

/-- A node is silent (R191). -/
def State.isSilent (s : State) (n : Node) : Bool := (s.node n).silent

/-- The open record of a tag: one that has not closed.  Blocks write to these only (R2). -/
def State.findUnit (s : State) (tag : Tag) : Option UnitRecord :=
  s.register.units.find? fun r => r.tag == tag

/-- The record of a tag in the unit register, CLOSING records included (R8). -/
def State.findInRegister (s : State) (tag : Tag) : Option UnitRecord :=
  (s.register.units ++ s.register.closing).find? fun r => r.tag == tag

/-- The number of records in the unit register, CLOSING records included (R8). -/
def State.registerCount (s : State) : Nat :=
  s.register.units.length + s.register.closing.length

/-- The order that is outstanding under a node and a number (R193). -/
def State.findOrder (s : State) (n : Node) (number : Nat) : Option Order :=
  s.loop.orders.find? fun o => o.node == n && o.number == number

/-- An order of this kind is outstanding at this node. -/
def State.orderOutstanding (s : State) (n : Node) (kind : OrderKind) : Bool :=
  s.loop.orders.any fun o => o.node == n && o.kind == kind

/-- An order of this kind that a halt action issued is outstanding at this node (R94). -/
def State.haltOrderOutstanding (s : State) (n : Node) (kind : OrderKind) : Bool :=
  s.loop.orders.any fun o => o.node == n && o.kind == kind && o.cause == .halt

/-! ## Conditions -/

/-- The class of a kind (R158). -/
def kindClass : ConditionKind → ConditionClass
  | .lelHigh | .chamberO2High | .manifoldOverpressure | .vesselOverfill | .safetySilent
  | .emergencyStop => .exigent
  | .vesselFull | .vesselNone | .agentVesselNone | .allocExhausted => .supply
  | .classDisagree | .classUnknown | .riseFailed | .evacOvertime | .orderTimeout | .orderFailed
  | .nodeSilent | .lelWarn | .chamberO2Pause | .purgeTimeout | .analyserFault | .trainFault => .process
  | .bankCoolTimeout | .bankLoadHard | .defrostOverrun | .bankFault => .condenser
  | .vesselDiscrepancy | .closedLogFull | .unattributedDrain => .accounting
  | .watchHit | .stepDone | .linkOverrun => .operator

/-- A class is enabled: its mask is on, or it is EXIGENT (R160). -/
def classEnabled (m : Masks) : ConditionClass → Bool
  | .exigent => true
  | .supply => m.supply
  | .process => m.process
  | .condenser => m.condenser
  | .accounting => m.accounting
  | .operator => m.operator

/-- The class of an entry. -/
def ConditionEntry.cls (e : ConditionEntry) : ConditionClass := kindClass e.kind

/-- An entry is reportable: its class is exigent or enabled (R166). -/
def ConditionEntry.reportable (m : Masks) (e : ConditionEntry) : Bool := classEnabled m e.cls

/-- The level of the ATTN pin: an entry of an enabled class, an exigent entry, or the line HALTED
(R164). -/
def State.attnLevel (s : State) : Bool :=
  s.monitor.entries.any (ConditionEntry.reportable s.monitor.masks) || s.halted

/-! ## A unit's derived properties (R43) -/

/-- The refrigerant class that a signature's class measures (R29, R31). -/
def gasRefrigerant : GasClass → RefrigerantClass
  | .cfc => .cfc
  | .hcfc => .hcfc
  | .hfc => .hfc
  | .hc => .hc
  | .unknown => .unknown

/-- The vessel class of a refrigerant class; NONE needs no vessel. -/
def vesselClassOf : RefrigerantClass → Option VesselClass
  | .none => none
  | .cfc => some .cfc
  | .hcfc => some .hcfc
  | .hfc => some .hfc
  | .hc => some .hc
  | .unknown => some .mixed

/-- The vessel class needed by a unit. -/
def UnitRecord.vesselNeeded (r : UnitRecord) : Option VesselClass := r.effective.bind vesselClassOf

/-- A unit is flammable-risk when its effective class is HC or UNKNOWN. -/
def UnitRecord.flammableRisk (r : UnitRecord) : Bool :=
  r.effective == some .hc || r.effective == some .unknown

/-- A unit is inert-required when its declared foam class is HC or UNKNOWN or absent, or when it is
flammable-risk. -/
def UnitRecord.inertRequired (r : UnitRecord) : Bool :=
  r.declaredFoam == some .hc || r.declaredFoam == some .unknown || r.declaredFoam.isNone
    || r.flammableRisk

/-- The unit of a tag is flammable-risk. -/
def State.flammableRisk (s : State) (tag : Tag) : Bool :=
  match s.findUnit tag with
  | some r => r.flammableRisk
  | none => false

/-- The unit in the chamber is inert-required. -/
def State.chamberInert (s : State) : Bool :=
  match s.chamber.unit.bind s.findUnit with
  | some r => r.inertRequired
  | none => false

/-- A window entry whose share is absent (R7). -/
def WindowEntry.isPending (w : WindowEntry) : Bool := w.share.isNone

/-- A record with no pending window (R7). -/
def UnitRecord.fullyAttributed (r : UnitRecord) : Bool := r.windows.all fun w => !w.isPending

/-- A record that holds an open allocation entry (R5). -/
def UnitRecord.hasOpenEntry (r : UnitRecord) : Bool := r.allocations.any (·.isOpen)

/-- The record of a tag holds 4 allocation entries. -/
def State.entriesExhausted (s : State) (tag : Tag) : Bool :=
  match s.findUnit tag with
  | some r => Config.allocationLimit ≤ r.allocations.length
  | none => false

/-! ## Stations -/

/-- A station stands at a boundary when its next field is present (R50). -/
def Station.atBoundary (x : Station) : Bool := x.nextPhase.isSome

/-- A station is secured when every valve closed by its last fault or halt action has been reported
closed (R69). -/
def Station.isSecured (x : Station) : Bool := x.unsecured.isEmpty

/-- A station is at rest (R51). -/
def Station.atRest (x : Station) : Bool :=
  x.atBoundary ||
    match x.phase with
    | .empty | .faulted | .loaded | .done | .sampleWait | .trainWait => true
    | .evacuate => x.suspended || x.awaitingVessel
    | _ => false

/-- A station has permission (R50). -/
def State.stationMay (s : State) (i : StationId) : Bool :=
  (s.control.line == .run || (s.control.line == .step && s.control.credits.contains i))
    && !s.isSilent (.station i)

/-! ## The chamber -/

/-- The chamber stands at a boundary when its next field is present (R121). -/
def Chamber.atBoundary (c : Chamber) : Bool := c.nextPhase.isSome

/-- The chamber has a shred in progress (R119).  A chamber at a boundary has none (R142; log 22). -/
def Chamber.shredInProgress (c : Chamber) : Bool :=
  !c.atBoundary &&
    match c.phase with
    | .shred | .clear => true
    | .purge => c.repurge
    | .suspended => c.returnPhase.isSome
    | _ => false

/-- The chamber is at rest (R121). -/
def Chamber.atRest (c : Chamber) : Bool :=
  c.atBoundary ||
    match c.phase with
    | .idle | .faulted | .suspended => true
    | _ => false

/-- The chamber has permission (R121). -/
def State.chamberMay (s : State) : Bool :=
  (s.control.line == .run || (s.control.line == .step && s.control.chamberCredit))
    && !s.isSilent .chamber

/-- The latest foam scale reading.  Before the first chamber answer the spec states none: a free value
(log 9). -/
def State.foamScale (s : State) : Grams :=
  match s.chamber.readings with
  | some r => r.foam
  | none => Config.freeFoamScale s.freeCount

/-- The latest O2 reading, with the same free value before the first answer (log 9). -/
def State.oxygen (s : State) : Nat :=
  match s.chamber.readings with
  | some r => r.o2
  | none => Config.freeOxygen s.freeCount

/-- A SHREDDER_STOP is outstanding. -/
def State.shredderStopping (s : State) : Bool := s.orderOutstanding .chamber .shredderStop

/-! ## The condenser -/

/-- The bank that is CONDENSING, bank A first. -/
def State.condensing (s : State) : Option BankId :=
  bankIds.find? fun bk => (s.bank bk).state == .condensing

/-- The bank that holds a drain slot, bank A first (The Drain; R144). -/
def State.drainHolder (s : State) : Option BankId :=
  bankIds.find? fun bk => (s.bank bk).drainSlot.isSome

/-- A cabinet may be shredded (R140). -/
def State.mayShred (s : State) : Bool :=
  match s.condensing with
  | none => false
  | some bk =>
    (s.bank bk).window.length < Config.windowSize &&
      !((s.bank bk).swapPending && s.limits.bankHardLoad ≤ (s.bank bk).load)

/-- A temperature as a condition's detail.  Before the first condenser answer the spec states none: a
free value (log 9). -/
def State.temperatureDetail (s : State) (bk : BankId) : Int :=
  (s.bank bk).temperature.getD (Config.freeTemperature s.freeCount bk)

/-! ## Vessels -/

/-- The trains that feed a slot's vessel, in ascending order (R98). -/
def State.trainFeeders (s : State) (k : SlotId) : List TrainId :=
  trainIds.filter fun t => (s.train t).slot == some k

/-- The banks that feed a slot's vessel (R98). -/
def State.bankFeeders (s : State) (k : SlotId) : List BankId :=
  bankIds.filter fun bk => (s.bank bk).drainSlot == some k

/-- A slot's vessel has feeders (R98). -/
def State.hasFeeders (s : State) (k : SlotId) : Bool :=
  !(s.trainFeeders k).isEmpty || !(s.bankFeeders k).isEmpty

/-- The vessel in a slot is of a class and in a state. -/
def Slot.holds (x : Slot) (cls : VesselClass) (st : VesselState) : Bool :=
  match x.vessel with
  | some v => v.cls == cls && v.state == st
  | none => false

/-- The vessel chosen for a class: the FILLING one in the lowest slot, else the READY one in the lowest
slot (R100). -/
def State.chooseVessel (s : State) (cls : VesselClass) : Option SlotId :=
  (slotIds.find? fun k => (s.slot k).holds cls .filling) <|>
    slotIds.find? fun k => (s.slot k).holds cls .ready

/-- The vessel in a slot is FULL. -/
def State.vesselIsFull (s : State) (k : SlotId) : Bool :=
  match (s.slot k).vessel with
  | some v => v.state == .full
  | none => false

/-! ## Accumulations and the line -/

/-- The unit's refrigerant accumulation is open: its station is in EVACUATE, or a train serving it is
DRAWING, WAIT_VESSEL or TAILING (R18). -/
def State.refrigerantOpen (s : State) (tag : Tag) : Bool :=
  (stationIds.any fun i => (s.station i).unit == some tag && (s.station i).phase == .evacuate) ||
    trainIds.any fun t =>
      (s.train t).tag == some tag &&
        match (s.train t).state with
        | .drawing | .waitVessel | .tailing => true
        | _ => false

/-- The unit's foam accumulation is open: it is in place CHAMBER and the chamber has a shred in progress
(R18). -/
def State.foamOpen (s : State) (r : UnitRecord) : Bool :=
  r.place == some .chamber && s.chamber.shredInProgress

/-- The unit of a tag has an open accumulation; a closed record has none (R18). -/
def State.openAccumulation (s : State) (tag : Tag) : Bool :=
  match s.findUnit tag with
  | some r => s.refrigerantOpen tag || s.foamOpen r
  | none => false

/-- Every holder of the present step is at rest (R173).  A holder station that is emptied and admits a new
unit within the step is a holder still (log 47). -/
def State.holdersAtRest (s : State) : Bool :=
  (s.control.holders.all fun i => (s.station i).atRest) &&
    (!s.control.chamberHolder || s.chamber.atRest)

/-- No credit is held. -/
def State.noCredits (s : State) : Bool := s.control.credits.isEmpty && !s.control.chamberCredit

end Sys2Proof.Machine
end

