-- ==== Sys2Proof/Machine/Ops.lean ====
section
/-!
DEFINITION. The shared operations: changing one part of the state, issuing an order (R192), raising a
condition (R161 to R163) with the halt that an exigent one brings (R174 and each block's halt action),
the line stop (R170), and the watch hit (R175).
-/

namespace Sys2Proof.Machine

/-! ## Changing one part -/

def State.setStation (s : State) (i : StationId) (x : Station) : State :=
  { s with stations := s.stations.set i.val x i.isLt }

def State.onStation (s : State) (i : StationId) (f : Station → Station) : State :=
  s.setStation i (f (s.station i))

def State.setTrain (s : State) (t : TrainId) (x : Train) : State :=
  { s with arbiter := { s.arbiter with trains := s.arbiter.trains.set t.val x t.isLt } }

def State.onTrain (s : State) (t : TrainId) (f : Train → Train) : State :=
  s.setTrain t (f (s.train t))

def State.setSlot (s : State) (k : SlotId) (x : Slot) : State :=
  { s with slots := s.slots.set k.val x k.isLt }

/-- Change the vessel in a slot, where there is one. -/
def State.onVessel (s : State) (k : SlotId) (f : Vessel → Vessel) : State :=
  s.setSlot k { s.slot k with vessel := (s.slot k).vessel.map f }

def State.setBank (s : State) (bk : BankId) (x : Bank) : State :=
  match bk with
  | .a => { s with condenser := { s.condenser with bankA := x } }
  | .b => { s with condenser := { s.condenser with bankB := x } }

def State.onBank (s : State) (bk : BankId) (f : Bank → Bank) : State := s.setBank bk (f (s.bank bk))

def State.onChamber (s : State) (f : Chamber → Chamber) : State := { s with chamber := f s.chamber }

/-- A write to the open record of a tag; a write that finds none is discarded (R2). -/
def State.onUnit (s : State) (tag : Tag) (f : UnitRecord → UnitRecord) : State :=
  { s with register :=
    { s.register with units := s.register.units.map fun r => if r.tag == tag then f r else r } }

def State.setNode (s : State) (n : Node) (x : NodeState) : State :=
  { s with loop := { s.loop with
    nodes := s.loop.nodes.set (nodeIndex n).val x (nodeIndex n).isLt } }

def State.setRequests (s : State) (requests : List Request) : State :=
  { s with arbiter := { s.arbiter with requests := requests } }

def State.setCycle (s : State) (c : Option SampleCycle) : State :=
  { s with classifier := { s.classifier with cycle := c } }

def State.setQueue (s : State) (queue : List StationId) : State :=
  { s with classifier := { s.classifier with queue := queue } }

def State.setOrders (s : State) (orders : List Order) : State :=
  { s with loop := { s.loop with orders := orders } }

def State.setMonitor (s : State) (m : Monitor) : State := { s with monitor := m }

def State.setControl (s : State) (c : LineControl) : State := { s with control := c }

/-- Put lines formed for sending behind those formed before (R185). -/
def State.send (s : State) (lines : List Text) : State :=
  { s with link := { s.link with sent := s.link.sent ++ lines } }

def State.setLink (s : State) (l : LinkState) : State :=
  { s with link := { s.link with state := l } }

/-- Apply an operation for each item, in order. -/
def forAll {α : Type} (items : List α) (s : State) (f : State → α → State) : State :=
  items.foldl f s

/-! ## Issuing an order (R192) -/

/-- The fixed time-out of an order's kind (R194). -/
def orderTimeoutOf : OrderKind → Moment
  | .evacValve _ | .drainValve _ | .sampleValve _ | .purgeValve _ | .outletOpen _ | .outletClose
  | .nitrogen _ | .inletValve _ _ | .bankDrainOpen _ _ | .bankDrainClose _ | .heaterOn _
  | .heaterOff _ => Config.valveTimeout
  | .clamp | .unclamp => Config.clampTimeout
  | .pierce => Config.pierceTimeout
  | .doorCycle | .doorLock => Config.doorTimeout
  | .shredderStart | .shredderStop => Config.shredderTimeout
  | .compressorStart | .compressorStop | .refrigerationStart _ | .refrigerationStop _ =>
    Config.compressorTimeout
  | .startSample => Config.sampleTimeout

/-- The order number that comes after another. -/
def numberAfter (n : Nat) : Nat := if Config.lastOrderNumber ≤ n then 1 else n + 1

/-- The first number, from `n` on, that no outstanding order holds; at most `tries` are looked at. -/
def firstFreeNumber (held : List Nat) : Nat → Nat → Option Nat
  | 0, _ => none
  | tries + 1, n =>
    if held.contains n then firstFreeNumber held tries (numberAfter n) else some n

/-- The number that the next order takes.  A number held by an outstanding order is skipped; where all
255 are held the spec states none, and the number is a free value in 1 to 255 (log 9). -/
def State.orderNumber (s : State) : Nat :=
  match firstFreeNumber (s.loop.orders.map (·.number)) Config.lastOrderNumber s.loop.nextNumber with
  | some n => n
  | none => 1 + Config.freeOrderNumber s.freeCount % Config.lastOrderNumber

/-- Issue an order for a cause: it takes the next number, and is recorded as outstanding and
unacknowledged with its deadline, last among the orders (R192). -/
def State.issueFor (s : State) (issuer : Issuer) (n : Node) (kind : OrderKind) (cause : OrderCause) :
    State :=
  { s with
    freeCount := s.freeCount + 1
    loop :=
      { s.loop with
        orders := s.loop.orders ++
          [{ number := s.orderNumber, node := n, kind := kind, issuer := issuer
             deadline := s.now + orderTimeoutOf kind, acknowledged := false, cause := cause }]
        nextNumber := numberAfter s.orderNumber } }

/-- Issue an order of the work in hand (R192). -/
def State.issue (s : State) (issuer : Issuer) (n : Node) (kind : OrderKind) : State :=
  s.issueFor issuer n kind .work

def State.orderStation (s : State) (i : StationId) (kind : OrderKind) : State :=
  s.issue .stationController (.station i) kind

def State.orderSampleValve (s : State) (i : StationId) (toOpen : Bool) : State :=
  s.issue .classifier (.station i) (.sampleValve toOpen)

def State.orderTrain (s : State) (t : TrainId) (kind : OrderKind) : State :=
  s.issue .pathArbiter (.train t) kind

def State.orderChamber (s : State) (kind : OrderKind) : State :=
  s.issue .chamberSequencer .chamber kind

def State.orderBank (s : State) (kind : OrderKind) : State := s.issue .condenser .condenser kind

/-! ## The pending list (R161, R162) -/

/-- A detail of one number. -/
def one (n : Int) : Detail := { first := n, second := none }

/-- An entry has this kind and origin. -/
def ConditionEntry.isOf (kind : ConditionKind) (origin : Origin) (e : ConditionEntry) : Bool :=
  e.kind == kind && e.origin == origin

/-- A repeated condition merged into its entry: the detail is replaced and the count grows to at most
255. -/
def ConditionEntry.merge (detail : Detail) (e : ConditionEntry) : ConditionEntry :=
  { e with detail := detail, count := if e.count < Config.countLimit then e.count + 1 else e.count }

/-- The list with one entry evicted: the oldest of a masked class, else the oldest of a non-exigent
class.  R162 shows that one of the two stands in a full list; without one, the oldest goes. -/
def evictEntry (m : Masks) (entries : List ConditionEntry) : List ConditionEntry :=
  if entries.any fun e => !e.reportable m then entries.eraseP fun e => !e.reportable m
  else if entries.any fun e => e.cls != .exigent then entries.eraseP fun e => e.cls != .exigent
  else entries.tail

/-- A condition taken into the pending list: merged, appended, dropped, or entered by an eviction. -/
def Monitor.enter (m : Monitor) (kind : ConditionKind) (origin : Origin) (detail : Detail) : Monitor :=
  let fresh : ConditionEntry := { kind := kind, origin := origin, detail := detail, count := 1 }
  if m.entries.any (·.isOf kind origin) then
    { m with entries := m.entries.map fun e => if e.isOf kind origin then e.merge detail else e }
  else if m.entries.length < Config.conditionSize then { m with entries := m.entries ++ [fresh] }
  else if kindClass kind != .exigent then { m with overflow := true }
  else { m with entries := evictEntry m.masks m.entries ++ [fresh], overflow := true }

/-! ## The halt (R174) -/

/-- Order a station's three valves closed; each is unsecured until it is reported closed (R67, R69,
R76).  An evacuation valve that was not CLOSED is CLOSING, by this order. -/
def State.closeValves (s : State) (i : StationId) : State :=
  let evac := s.orderNumber
  let s1 := s.orderStation i (.evacValve false)
  let sample := s1.orderNumber
  let s2 := s1.orderStation i (.sampleValve false)
  let drain := s2.orderNumber
  let s3 := s2.orderStation i (.drainValve false)
  s3.onStation i fun x =>
    { x with
      evacValve := if x.evacValve == .closed then .closed else .closing
      evacOrder := if x.evacValve == .closed then x.evacOrder else some evac
      unsecured :=
        [{ valve := .evac, order := some evac }, { valve := .sample, order := some sample },
          { valve := .drain, order := some drain }] }

/-- The number of the sample-valve close that a station's last fault or halt action ordered. -/
def State.sampleClose (s : State) (i : StationId) : Option Nat :=
  ((s.station i).unsecured.find? fun u => u.valve == .sample).bind (·.order)

/-- A cycle in OPENING or MEASURING is abandoned (R39).  `close` is the sample-valve close that the
station's own action ordered in this event; without one the Classifier orders it. -/
def State.abandonCycle (s : State) (close : Option Nat) : State :=
  match s.classifier.cycle with
  | none => s
  | some c =>
    if c.stage == .closing then s
    else
      match close with
      | some n =>
        s.setCycle (some { c with stage := .closing, abandoned := true, closeOrder := some n })
      | none =>
        (s.orderSampleValve c.station false).setCycle
          (some { c with stage := .closing, abandoned := true, closeOrder := some s.orderNumber })

/-- A station's halt action (R76). -/
def State.haltStation (s : State) (i : StationId) : State :=
  if (s.station i).phase == .empty then s else s.closeValves i

/-- The Classifier's halt action (R39, R40). -/
def State.haltClassifier (s : State) : State :=
  match s.classifier.cycle with
  | none => s
  | some c =>
    s.abandonCycle (if (s.station c.station).phase == .empty then none else s.sampleClose c.station)

/-- An order of the halt action at a train (R94). -/
def State.haltOrderTrain (s : State) (t : TrainId) (kind : OrderKind) : State :=
  s.issueFor .pathArbiter (.train t) kind .halt

/-- The Path Arbiter's halt action at one train (R94). -/
def State.haltTrain (s : State) (t : TrainId) : State :=
  if s.isSilent (.train t) then s
  else
    ((s.haltOrderTrain t .compressorStop).haltOrderTrain t (.purgeValve false)).haltOrderTrain t
      .outletClose

/-- An order of the halt action at the chamber (R133). -/
def State.haltOrderChamber (s : State) (kind : OrderKind) : State :=
  s.issueFor .chamberSequencer .chamber kind .halt

/-- The chamber's halt action (R133). -/
def State.haltChamber (s : State) : State :=
  (((s.haltOrderChamber .shredderStop).haltOrderChamber .doorLock).haltOrderChamber
    (.nitrogen true)).onChamber fun c => { c with nitrogenOpen := true }

/-- The Condenser's halt action at one bank (R154). -/
def State.haltBank (s : State) (bk : BankId) : State :=
  match (s.bank bk).state with
  | .defrost =>
    (s.orderBank (.heaterOff bk)).onBank bk fun x =>
      { x with
        paused := true
        defrostRemaining := x.defrostDeadline.map fun d => d - s.now }
  | .drain =>
    if (s.bank bk).drainEnded then s
    else
      (s.orderBank (.bankDrainClose bk)).onBank bk fun x =>
        { x with drainValve := .closing, paused := true, drainOrder := some s.orderNumber }
  | _ => s

/-- No credit is held and no holder stands, as whenever the line leaves STEP (R171). -/
def LineControl.clearStep (c : LineControl) : LineControl :=
  { c with credits := [], chamberCredit := false, holders := [], chamberHolder := false }

/-- Line Control takes an exigent condition (R174): the line enters HALTED, and each block takes its halt
action, in the order of log 15: stations and trains ascending, bank A's before bank B's; a line already
HALTED stays as it is. -/
def State.halt (s : State) : State :=
  if s.halted then s
  else
    let s := s.setControl { s.control.clearStep with line := .halted, haltPin := true }
    let s := forAll stationIds s State.haltStation
    let s := s.haltClassifier
    let s := forAll trainIds s State.haltTrain
    let s := s.haltChamber
    forAll bankIds s State.haltBank

/-- A condition is raised: it is entered, and an exigent one is handed to Line Control (R161, R163). -/
def State.raise (s : State) (kind : ConditionKind) (origin : Origin) (detail : Detail) : State :=
  let s := s.setMonitor (s.monitor.enter kind origin detail)
  if kindClass kind == .exigent then s.halt else s

/-! ## The line stop (R170) -/

/-- Order a station's evacuation valve closed where it is OPENING or OPEN (R58). -/
def State.closeEvac (s : State) (i : StationId) : State :=
  match (s.station i).evacValve with
  | .opening | .opened =>
    (s.orderStation i (.evacValve false)).onStation i fun x =>
      { x with evacValve := .closing, evacOrder := some s.orderNumber }
  | _ => s

/-- A station at a line stop: an EVACUATE is suspended (R74). -/
def State.stopStation (s : State) (i : StationId) : State :=
  if (s.station i).phase == .evacuate then
    (s.onStation i fun x => { x with suspended := true }).closeEvac i
  else s

/-- A DRAWING train orders COMPRESSOR_STOP and enters PAUSED (R88). -/
def State.pauseTrain (s : State) (t : TrainId) : State :=
  if (s.train t).state == .drawing then
    (s.orderTrain t .compressorStop).onTrain t fun x => { x with state := .paused }
  else s

/-- The line enters STOPPED from RUN or STEP: every credit is withdrawn, and stations and trains take
their stop actions, the stations first and each in ascending order (R170, R171, R74, R88; log 15). -/
def State.lineStop (s : State) : State :=
  let s := s.setControl { s.control.clearStep with line := .stopped }
  forAll trainIds (forAll stationIds s State.stopStation) State.pauseTrain

/-! ## The watch (R175) -/

/-- The rank of the chamber's hit, which is counted last. -/
def chamberRank : Nat := 9

/-- The rank of a station's hit. -/
def stationRank (i : StationId) : Nat := i.val + 1

/-- The hit that counts as the later one of an event (log 20). -/
def laterHit (before : Option Hit) (hit : Hit) : Hit :=
  match before with
  | none => hit
  | some h => if hit.rank < h.rank then h else hit

/-- A unit enters a phase.  If the watch list holds its tag with that phase, the entry is removed and
WATCH_HIT raised, and a line in RUN or STEP stops (R175). -/
def State.watchEntry (s : State) (rank : Nat) (tag : Option Tag) (phase : PhaseName) : State :=
  match tag with
  | none => s
  | some t =>
    if s.control.watch.contains { tag := t, phase := phase } then
      let top := laterHit s.control.hitTop { rank := rank, tag := t }
      let s := s.setControl
        { s.control with
          watch := s.control.watch.filter fun w => w != { tag := t, phase := phase }
          hitTop := some top }
      let s := s.raise .watchHit .line (one top.tag)
      if s.running then s.lineStop else s
    else s

/-- A station enters a phase: its next field goes, and the watch is tested before it goes on. -/
def State.enterPhase (s : State) (i : StationId) (p : StationPhase) : State :=
  (s.onStation i fun x => { x with phase := p, nextPhase := none }).watchEntry
    (stationRank i) (s.station i).unit (stationPhaseName p)

/-- The chamber enters a phase: its next field goes, and the watch is tested before it goes on. -/
def State.enterChamberPhase (s : State) (p : ChamberPhase) : State :=
  (s.onChamber fun c => { c with phase := p, nextPhase := none }).watchEntry
    chamberRank s.chamber.unit (chamberPhaseName p)

/-- A station's credit is spent: in STEP it holds none from then on (R172). -/
def State.spendCredit (s : State) (i : StationId) : State :=
  s.setControl { s.control with credits := s.control.credits.filter (· != i) }

/-- The chamber's credit is spent (R172). -/
def State.spendChamberCredit (s : State) : State :=
  s.setControl { s.control with chamberCredit := false }

end Sys2Proof.Machine
end

