-- ==== Sys2Proof/Machine/Units.lean ====
section
/-!
DEFINITION. The Unit Register (spec/01_unit_records.md): the record at creation, its line and digest,
allocation and window entries, closing, the closed log, and the forming of ADMIT's record, QUERY-UNIT's
reply and TAKE-CLOSED's lines.
-/

namespace Sys2Proof.Machine

/-! ## The record's line (R197) -/

def flagsText (f : RecordFlags) : List Text :=
  (if f.leakSuspect then [ascii "LEAK_SUSPECT"] else []) ++
    (if f.classDisagree then [ascii "CLASS_DISAGREE"] else []) ++
    (if f.estimated then [ascii "ESTIMATED"] else [])

def allocationText (a : Allocation) : Text :=
  compound
    [slotText a.slot, numText a.vessel, numText a.grams,
      ascii (if a.isOpen then "open" else "closed")]

def windowText (w : WindowEntry) : Text :=
  compound
    [ascii (bankWord w.bank), partText (w.foam.map numText), partText (w.share.map numText)]

/-- The place that a record's line carries: none once the record has closed (R17). -/
def UnitRecord.shownPlace (r : UnitRecord) : Option Place :=
  if r.place == some .closing then none else r.place

/-- Fields 1 to 20 of a record's line, each with its space (R197). -/
def UnitRecord.fields (r : UnitRecord) : Text :=
  field "tag" (numText r.tag) ++
  optField "place" (r.shownPlace.map fun p => ascii (placeWord p)) ++
  optField "station" (r.station.map stationText) ++
  optField "refrigerant" (r.refrigerant.map fun c => ascii (refrigerantWord c)) ++
  optField "foam" (r.declaredFoam.map fun c => ascii (gasWord c)) ++
  optField "measured" (r.measured.map fun c => ascii (refrigerantWord c)) ++
  optField "bands"
    (r.bands.map fun bs => joinText chComma (bandIds.map fun i => numText (bs.get i))) ++
  optField "signature" (r.signature.map fun i => numText i.val) ++
  optField "effective" (r.effective.map fun c => ascii (refrigerantWord c)) ++
  field "evacuations" (numText r.evacuations) ++
  optField "rise" (r.rise.map numText) ++
  optField "faulted" (r.faultedPhase.map fun p => ascii (stationPhaseWord p)) ++
  listField "allocs" (r.allocations.map allocationText) ++
  field "total" (numText r.total) ++
  optField "oil" (r.oil.map numText) ++
  optField "foam-grams" (r.foam.map numText) ++
  listField "windows" (r.windows.map windowText) ++
  field "agent" (numText r.agent) ++
  listField "flags" (flagsText r.flags) ++
  optField "disposition" (r.disposition.map fun d => ascii (dispositionWord d))

/-- Fields 1 to 21. -/
def UnitRecord.allFields (r : UnitRecord) : Text :=
  r.fields ++ optField "digest" (r.digest.map hex4)

/-- The canonical UNIT line: no digest and no check (R11, R197). -/
def UnitRecord.canonical (r : UnitRecord) : Text := ascii "UNIT" ++ r.fields

/-- The UNIT line that TAKE-CLOSED sends (R24, R197). -/
def UnitRecord.sentLine (r : UnitRecord) : Text := sealLine (ascii "UNIT" ++ r.allFields)

/-! ## Creation (R1, R16) -/

def UnitRecord.create (tag : Tag) (i : StationId) (refrigerant : Option RefrigerantClass)
    (foam : Option GasClass) : UnitRecord where
  tag := tag
  place := some .station
  station := some i
  refrigerant := refrigerant
  declaredFoam := foam
  measured := none
  bands := none
  signature := none
  effective := none
  evacuations := 0
  rise := none
  faultedPhase := none
  allocations := []
  total := 0
  oil := none
  foam := none
  windows := []
  agent := 0
  flags := { leakSuspect := false, classDisagree := false, estimated := false }
  disposition := none
  digest := none

/-- The record joins the register. -/
def State.addUnit (s : State) (r : UnitRecord) : State :=
  { s with register := { s.register with units := s.register.units ++ [r] } }

/-! ## Allocation entries (R5, R6) -/

def Allocation.close (e : Allocation) : Allocation := { e with isOpen := false }

/-- Close a record's open entry, keeping its grams. -/
def UnitRecord.closeEntry (r : UnitRecord) : UnitRecord :=
  { r with allocations := r.allocations.map Allocation.close }

/-- Open an entry: an open one is closed first; a record that holds 4 is unchanged. -/
def UnitRecord.openEntry (r : UnitRecord) (k : SlotId) (vessel : Nat) : UnitRecord :=
  if Config.allocationLimit ≤ r.allocations.length then r
  else
    { r.closeEntry with
      allocations :=
        r.closeEntry.allocations ++ [{ slot := k, vessel := vessel, grams := 0, isOpen := true }] }

/-- The latest entry: the open one, else the last (R6). -/
def UnitRecord.latestEntry (r : UnitRecord) : Option Allocation :=
  match r.allocations.find? (·.isOpen) with
  | some e => some e
  | none => r.allocations.getLast?

/-- Add grams to the first open entry of a list. -/
def addToOpen (d : Grams) : List Allocation → List Allocation
  | [] => []
  | e :: es => if e.isOpen then { e with grams := e.grams + d } :: es else e :: addToOpen d es

/-- Add grams to the last entry of a list. -/
def addToLast (d : Grams) : List Allocation → List Allocation
  | [] => []
  | [e] => [{ e with grams := e.grams + d }]
  | e :: es => e :: addToLast d es

/-- Book a delta: to the latest entry and to the refrigerant total (R6). -/
def UnitRecord.book (r : UnitRecord) (d : Grams) : UnitRecord :=
  if r.allocations.isEmpty then r
  else
    { r with
      total := r.total + d
      allocations :=
        if r.hasOpenEntry then addToOpen d r.allocations else addToLast d r.allocations }

/-- Close the open entry of a tag's record. -/
def State.closeEntry (s : State) (tag : Tag) : State := s.onUnit tag UnitRecord.closeEntry

/-! ## Window entries (R7) -/

/-- Append a window entry with its foam as given and its share absent. -/
def UnitRecord.addWindow (r : UnitRecord) (bk : BankId) (foam : Option Grams) : UnitRecord :=
  { r with windows := r.windows ++ [{ bank := bk, foam := foam, share := none }] }

/-- Write the foam of the last window entry. -/
def setLastFoam (g : Grams) : List WindowEntry → List WindowEntry
  | [] => []
  | [w] => [{ w with foam := some g }]
  | w :: ws => w :: setLastFoam g ws

/-- The foam written for every window entry but the last. -/
def UnitRecord.earlierFoam (r : UnitRecord) : Grams :=
  (r.windows.dropLast.map fun w => w.foam.getD 0).sum

/-- The foam of all window entries. -/
def UnitRecord.windowFoam (r : UnitRecord) : Grams := (r.windows.map fun w => w.foam.getD 0).sum

/-- Write a share to the first entry that names this bank and has none. -/
def setShare (bk : BankId) (g : Grams) : List WindowEntry → List WindowEntry
  | [] => []
  | w :: ws =>
    if w.bank == bk && w.share.isNone then { w with share := some g } :: ws
    else w :: setShare bk g ws

/-- A record has an entry for this bank with no share. -/
def UnitRecord.awaitsShare (r : UnitRecord) (bk : BankId) : Bool :=
  r.windows.any fun w => w.bank == bk && w.share.isNone

/-- A share written to a record: the entry's share, the agent field, and ESTIMATED where the
apportionment was estimated (R7, R148). -/
def UnitRecord.takeShare (r : UnitRecord) (bk : BankId) (g : Grams) (estimated : Bool) : UnitRecord :=
  if r.awaitsShare bk then
    { r with
      windows := setShare bk g r.windows
      agent := r.agent + g
      flags := { r.flags with
        estimated := r.flags.estimated || estimated || decide (Config.recordWindowLimit ≤ r.windows.length) } }
  else r

/-! ## Closing (R10 to R13) -/

/-- The closed record: disposition, no place and no station, and the digest of its canonical line
(R11). -/
def UnitRecord.closed (r : UnitRecord) (d : Disposition) : UnitRecord :=
  let bare := { r with disposition := some (r.disposition.getD d), place := none, station := none }
  { bare with digest := some (crc bare.canonical) }

/-- Put a closed record in the log or in CLOSING (R12, R13). -/
def State.placeClosed (s : State) (r : UnitRecord) : State :=
  if s.register.log.length < Config.logSize && s.register.closing.isEmpty then
    { s with register := { s.register with log := s.register.log ++ [r] } }
  else
    let s' : State :=
      { s with register :=
        { s.register with
          closing := s.register.closing ++ [{ r with place := some .closing }]
          logFull := true } }
    if s.register.logFull then s' else s'.raise .closedLogFull .line (one r.tag)

/-- The record of a tag closes; a disposition already set is kept (R10, R11). -/
def State.closeUnit (s : State) (tag : Tag) (d : Disposition) : State :=
  match s.findUnit tag with
  | none => s
  | some r =>
    let s : State :=
      { s with register :=
        { s.register with units := s.register.units.filter fun x => x.tag != tag } }
    s.placeClosed (r.closed d)

/-- The record moves to ATTRIBUTION with a pending window, else it closes (R10). -/
def State.attributeOrClose (s : State) (tag : Tag) (d : Disposition) : State :=
  match s.findUnit tag with
  | none => s
  | some r =>
    if r.fullyAttributed then s.closeUnit tag d
    else s.onUnit tag fun r => { r with place := some .attribution }

/-! ## QUERY-UNIT (R17 to R22) -/

/-- The record that QUERY-UNIT answers from (R17). -/
def State.queriedUnit (s : State) (tag : Tag) : Option UnitRecord :=
  match s.findInRegister tag with
  | some r => some r
  | none => s.register.log.reverse.find? fun r => r.tag == tag

/-- The QUERY-UNIT reply for a tag. -/
def State.queryReply (s : State) (tag : Tag) (final : Bool) : Text :=
  match s.queriedUnit tag with
  | none => noLine .queryUnit .noSuchUnit
  | some r => okLine .queryUnit (field "final" (yesNo final) ++ r.allFields)

/-- QUERY-UNIT: answered at once, or held (R17 to R20). -/
def doQueryUnit (tag : Nat) (final : Bool) (s : State) : State :=
  if (s.queriedUnit tag).isSome && final && s.openAccumulation tag then
    s.setLink (.held { tag := tag, expiry := s.now + seconds s.limits.holdMax })
  else s.send [s.queryReply tag !(s.openAccumulation tag)]

/-! ## TAKE-CLOSED (R24, R14) -/

/-- A CLOSING record moved into the log. -/
def UnitRecord.intoLog (r : UnitRecord) : UnitRecord := { r with place := none }

/-- Remove records from the head of the log, and move CLOSING records into it (R14, R13). -/
def UnitRegister.take (u : UnitRegister) (n : Nat) : UnitRegister :=
  let left := u.log.drop n
  let room := Config.logSize - left.length
  let log := left ++ (u.closing.take room).map UnitRecord.intoLog
  let closing := u.closing.drop room
  { u with
    log := log
    closing := closing
    logFull := u.logFull && !(log.length < Config.logSize && closing.isEmpty) }

/-- TAKE-CLOSED (R24). -/
def doTakeClosed (count : Nat) (s : State) : State :=
  if 1 ≤ count && count ≤ 4 then
    let taken := s.register.log.take count
    let s := s.send (okLine .takeClosed (field "count" (numText taken.length)) ::
      taken.map UnitRecord.sentLine)
    if taken.isEmpty then s else { s with register := s.register.take count }
  else s.send [noLine .takeClosed .range]

end Sys2Proof.Machine
end

