-- ==== Sys2Proof/Machine/Stations.lean ====
section
/-!
DEFINITION. The Station Controller's own operations (spec/03_evacuation_stations.md): the fault action,
the evacuation valve, the entry to EVACUATE, the suspension, the securing of valves, UNCLAMP and the
end of the oil drain.  What begins a phase stands in Phases.lean, behind the grants.
-/

namespace Sys2Proof.Machine

/-! ## The tail of a train begins (R89) -/

/-- A train's station reports the end of its evacuation: the train enters TAILING (R89). -/
def State.startTail (s : State) (t : TrainId) : State :=
  let tailing (x : Train) : Train :=
    { x with state := .tailing, tailEnd := some (s.now + Config.tailTime), purgeEnd := none }
  match (s.train t).state with
  | .purging =>
    ((s.orderTrain t (.purgeValve false)).orderTrain t .compressorStop).onTrain t tailing
  | .drawing | .paused | .waitVessel => s.onTrain t tailing
  | _ => s

/-! ## Faults (R67) -/

/-- The phase that a fault names: the next phase at a boundary, else the phase (R67). -/
def Station.workPhase (x : Station) : StationPhase := x.nextPhase.getD x.phase

/-- The faulted phases that a record may hold (R1). -/
def recordFaultPhase : StationFault → Option StationPhase
  | .phase p =>
    match p with
    | .clamping | .loaded | .pierce | .sampleWait | .sampling | .trainWait | .evacuate | .riseTest
    | .oilDrain => some p
    | .empty | .done | .faulted => none
  | .unclamp => none

/-- Step 2 of the fault action: the unit's faulted phase field (R67, R4). -/
def State.writeFaultedPhase (s : State) (i : StationId) (f : StationFault) : State :=
  match (s.station i).unit, recordFaultPhase f with
  | some tag, some p => s.onUnit tag fun r => { r with faultedPhase := some p }
  | _, _ => s

/-- Step 5 of the fault action: the station leaves the analyser queue and the request list (R67). -/
def State.leaveLists (s : State) (i : StationId) : State :=
  let s := s.setQueue (s.classifier.queue.filter (· != i))
  s.setRequests (s.arbiter.requests.filter fun q => q.station != i)

/-- What the fault action clears (step 6 of R67), and what belongs to the phase that ends with it
(log 32).  An UNCLAMP that is outstanding stays awaited. -/
def Station.clearWork (x : Station) : Station :=
  { x with
    suspended := false
    awaitingVessel := false
    holdEnd := none
    riseEntry := none
    oilDeadline := none
    oilReference := none
    oilReadings := []
    requestTime := none
    pierceDone := false
    workOrder := if x.unclamping then x.workOrder else none
    drainOrder := none }

/-- A sample cycle of this station is abandoned with the station's own close (R39, R67 step 3). -/
def State.abandonFor (s : State) (i : StationId) : State :=
  match s.classifier.cycle with
  | none => s
  | some c => if c.station == i then s.abandonCycle (s.sampleClose i) else s

/-- Step 4 of the fault action: the train goes into its tail (R67). -/
def State.tailFor (s : State) (i : StationId) : State :=
  match (s.station i).train with
  | some t => s.startTail t
  | none => s

/-- A station enters FAULTED with its fault action (R67).  `tail` is no at a reset, which omits
step 4. -/
def State.faultStation (s : State) (i : StationId) (f : StationFault) (tail : Bool) : State :=
  let s := s.writeFaultedPhase i f
  let s := s.onStation i fun x => { x with faultedPhase := some f }
  let s := s.enterPhase i .faulted
  let s := (s.closeValves i).abandonFor i
  let s := if tail then s.tailFor i else s
  (s.leaveLists i).onStation i Station.clearWork

/-- A station faults in the phase it stands in. -/
def State.failStation (s : State) (i : StationId) : State :=
  s.faultStation i (.phase (s.station i).workPhase) true

/-! ## Evacuation (R57, R58) -/

/-- The station's train is DRAWING. -/
def State.trainDraws (s : State) (i : StationId) : Bool :=
  match (s.station i).train with
  | some t => (s.train t).state == .drawing
  | none => false

/-- Order EVAC_VALVE open where the conditions of R58 hold. -/
def State.openEvac (s : State) (i : StationId) : State :=
  let x := s.station i
  if x.phase == .evacuate && x.evacValve == .closed && s.trainDraws i && !x.suspended
      && !x.awaitingVessel && !s.halted then
    (s.orderStation i (.evacValve true)).onStation i fun x =>
      { x with evacValve := .opening, evacOrder := some s.orderNumber }
  else s

/-- A unit's evacuations count grows by 1, to at most 5 (R4). -/
def UnitRecord.countEvacuation (r : UnitRecord) : UnitRecord :=
  { r with evacuations :=
    if r.evacuations < Config.evacuationsLimit then r.evacuations + 1 else r.evacuations }

/-- A write to the record of a station's unit. -/
def State.onStationUnit (s : State) (i : StationId) (f : UnitRecord → UnitRecord) : State :=
  match (s.station i).unit with
  | some tag => s.onUnit tag f
  | none => s

/-- A station enters EVACUATE on a grant (R57). -/
def State.enterEvacuate (s : State) (i : StationId) (t : TrainId) : State :=
  let s := s.onStationUnit i UnitRecord.countEvacuation
  let s := s.onStation i fun x =>
    { x with
      train := some t
      suspended := false
      awaitingVessel := false
      evacValve := if x.evacValve == .closing then .closing else .closed }
  s.enterPhase i .evacuate

/-! ## Awaiting a vessel (R61) -/

/-- The Path Arbiter reports that the train waits for a vessel (R61). -/
def State.awaitVessel (s : State) (i : StationId) : State :=
  (s.onStation i fun x => { x with awaitingVessel := true }).closeEvac i

/-- The Path Arbiter reports the resumption; in STOPPED the station becomes suspended instead (R61,
R75). -/
def State.vesselFound (s : State) (i : StationId) : State :=
  s.onStation i fun x =>
    { x with
      awaitingVessel := false
      suspended := x.suspended || s.control.line == .stopped }

/-- The end of a tail, or a train fault outside EVACUATE: the train field goes (R62). -/
def State.dropTrain (s : State) (i : StationId) : State :=
  s.onStation i fun x => { x with train := none }

/-! ## Securing (R69) -/

/-- A valve is reported closed by its close order. -/
def Station.closedByOrder (x : Station) (number : Nat) : Station :=
  { x with unsecured := x.unsecured.filter fun u => u.order != some number }

/-- The close order of a valve failed: only an answer can show the valve closed now. -/
def Station.closeFailed (x : Station) (number : Nat) : Station :=
  { x with unsecured := x.unsecured.map fun u =>
    if u.order == some number then { u with order := none } else u }

/-- An answer shows which valves are closed (R69).  An unsecured evacuation valve that is shown closed
is CLOSED in the station's view too (log 14). -/
def Station.closedByAnswer (x : Station) (a : StationAnswer) : Station :=
  let shut : StationValve → Bool
    | .evac => !a.evacOpen
    | .sample => !a.sampleOpen
    | .drain => !a.drainOpen
  let evac := !a.evacOpen && x.unsecured.any fun u => u.valve == .evac
  { x with
    unsecured := x.unsecured.filter fun u => !shut u.valve
    evacValve := if evac then .closed else x.evacValve
    evacOrder := if evac then none else x.evacOrder }

/-! ## UNCLAMP (R71) -/

/-- An UNCLAMP is ordered after a RELEASE or a RETIRE (R70, R72). -/
def State.unclamp (s : State) (i : StationId) : State :=
  (s.orderStation i .unclamp).onStation i fun x =>
    { x with unit := none, unclamping := true, workOrder := some s.orderNumber }

/-- An UNCLAMP reported DONE: the station is EMPTY, with a train field still set kept (R71). -/
def State.emptyStation (s : State) (i : StationId) : State :=
  s.onStation i fun x => { Station.reset with train := x.train }

/-- A failed UNCLAMP: FAULTED with faulted phase UNCLAMP.  A station already FAULTED takes no second
fault action (R71; log 29). -/
def State.unclampFailed (s : State) (i : StationId) : State :=
  let s := s.onStation i fun x => { x with unclamping := false, workOrder := none }
  if (s.station i).phase == .faulted then
    s.onStation i fun x => { x with faultedPhase := some .unclamp }
  else s.faultStation i .unclamp true

/-! ## The oil drain's end (R66) -/

/-- The drain ends: the oil field is written from the latest reading, and DRAIN_VALVE ordered closed
(R66).  A second OIL_DRAIN, begun by a RESUME, writes it anew (R4 says once; log 45). -/
def State.endDrain (s : State) (i : StationId) : State :=
  let x := s.station i
  let latest := (x.oilReadings.getLast?.map (·.grams)).getD 0
  let s := s.onStationUnit i fun r => { r with oil := some (latest - x.oilReference.getD 0) }
  (s.orderStation i (.drainValve false)).onStation i fun x =>
    { x with
      oilReference := none
      oilDeadline := none
      oilReadings := []
      drainOrder := some s.orderNumber }

/-- Keep, at the head of the list, the latest reading that is 30 s old or older (R66). -/
def pruneReadings (now : Moment) : List OilReading → List OilReading
  | [] => []
  | [r] => [r]
  | r :: r' :: rest =>
    if r'.moment + Config.settleTime ≤ now then pruneReadings now (r' :: rest) else r :: r' :: rest

/-- The settle test: the new reading exceeds the latest one that is at least 30 s old by no more than
oil-settle (R66). -/
def settled (now : Moment) (settle : Nat) (readings : List OilReading) (grams : Grams) : Bool :=
  match readings with
  | [] => false
  | r :: _ => r.moment + Config.settleTime ≤ now && grams ≤ r.grams + settle

end Sys2Proof.Machine
end

