-- ==== Sys2Proof/Machine/Trains.lean ====
section
/-!
DEFINITION. The Path Arbiter (spec/04_recovery_trains_and_path_arbitration.md): the request list and the
grant scan, purge and draw, the end of a tail, train faults, changeover and resumption.
-/

namespace Sys2Proof.Machine

/-! ## Orders and reports of a train -/

/-- Order at a train unless an order of the same kind is outstanding there (R90).  A valve's open is not of
the same kind as its close (log 50). -/
def State.orderTrainOnce (s : State) (t : TrainId) (kind : OrderKind) : State :=
  if s.orderOutstanding (.train t) kind then s else s.orderTrain t kind

/-- The stop and close orders of a train fault, unless orders of the same kinds are outstanding
(R90). -/
def State.stopTrainOnce (s : State) (t : TrainId) : State :=
  ((s.orderTrainOnce t .compressorStop).orderTrainOnce t (.purgeValve false)).orderTrainOnce t
    .outletClose

/-- Order at a train unless the halt's order of the same kind is outstanding there (R94; log 50). -/
def State.orderTrainAfterHalt (s : State) (t : TrainId) (kind : OrderKind) : State :=
  if s.haltOrderOutstanding (.train t) kind then s else s.orderTrain t kind

/-- The stop and close orders of an IDLE train's fault while the line is HALTED (R90, R94). -/
def State.stopTrainAfterHalt (s : State) (t : TrainId) : State :=
  ((s.orderTrainAfterHalt t .compressorStop).orderTrainAfterHalt t
    (.purgeValve false)).orderTrainAfterHalt t .outletClose

/-- The stop and close orders of a train, all three (R90 for IDLE, R95). -/
def State.stopTrain (s : State) (t : TrainId) : State :=
  ((s.orderTrain t .compressorStop).orderTrain t (.purgeValve false)).orderTrain t .outletClose

/-- The train reports to its station that it is DRAWING (R87, R58). -/
def State.reportDrawing (s : State) (t : TrainId) : State :=
  match (s.train t).station with
  | some i => s.openEvac i
  | none => s

/-- Order the outlet open to the slot the train feeds. -/
def State.orderOutlet (s : State) (t : TrainId) : State :=
  match (s.train t).slot with
  | some k => s.orderTrain t (.outletOpen k)
  | none => s

def State.setTrainState (s : State) (t : TrainId) (x : TrainState) : State :=
  s.onTrain t fun y => { y with state := x }

/-- A train that no longer holds a station (R80). -/
def Train.released (x : Train) : Train :=
  { x with
    carried := none
    station := none
    tag := none
    slot := none
    purgeEnd := none
    tailEnd := none }

/-- Open an allocation entry for the unit that a train serves, and make the train a feeder of that
vessel (R101). -/
def State.openTrainEntry (s : State) (t : TrainId) (k : SlotId) : State :=
  match (s.train t).tag, (s.slot k).vessel with
  | some tag, some v =>
    (s.onUnit tag fun r => r.openEntry k v.id).onTrain t fun x => { x with slot := some k }
  | _, _ => s

/-! ## Purge and draw (R86, R87) -/

/-- A granted train enters PURGING (R86). -/
def State.startPurge (s : State) (t : TrainId) : State :=
  let s := s.onTrain t fun x =>
    { x with state := .purging, purgeEnd := some (s.now + seconds s.limits.trainPurge) }
  (s.orderTrain t (.purgeValve true)).orderTrain t .compressorStart

/-- A train enters DRAWING from IDLE or from WAIT_VESSEL (R87). -/
def State.drawAfresh (s : State) (t : TrainId) : State :=
  (((s.orderOutlet t).orderTrain t .compressorStart).setTrainState t .drawing).reportDrawing t

/-- A train goes on from its purge end, to PAUSED or to DRAWING (R86). -/
def State.leavePurge (s : State) (t : TrainId) : State :=
  let suspended :=
    match (s.train t).station with
    | some i => (s.station i).suspended
    | none => false
  if suspended then
    ((s.orderOutlet t).orderTrain t .compressorStop).setTrainState t .paused
  else ((s.orderOutlet t).setTrainState t .drawing).reportDrawing t

/-! ## The grant scan (R84, R85) -/

/-- Trains 1 and 2 are rated FLAMMABLE (R80). -/
def flammableRated (t : TrainId) : Bool := t.val < 2

/-- A train is eligible for a request (R84). -/
def State.eligible (s : State) (i : StationId) (risk : Bool) (t : TrainId) : Bool :=
  (s.train t).state == .idle && !s.isSilent (.train t) && (s.arbiter.paths.get i).contains t
    && (!risk || flammableRated t)

/-- The eligible trains in the order of the station's path list. -/
def State.eligibleTrains (s : State) (i : StationId) (risk : Bool) : List TrainId :=
  (s.arbiter.paths.get i).filter fun t => s.eligible i risk t

/-- The train that a grant takes: the first whose last class is the class needed, else the first
(R85). -/
def State.grantedTrain (s : State) (i : StationId) (risk : Bool) (cls : VesselClass) :
    Option TrainId :=
  let ts := s.eligibleTrains i risk
  match ts.find? fun t => (s.train t).lastClass == some cls with
  | some t => some t
  | none => ts.head?

/-- A grant (R85).  Where the station's entry to EVACUATE hit a watch and stopped the line, the train's
entry to DRAWING is followed by the line stop's pause (log 17). -/
def State.grantTrain (s : State) (i : StationId) (tag : Tag) (t : TrainId) (k : SlotId)
    (cls : VesselClass) : State :=
  let s := s.setRequests (s.arbiter.requests.filter fun q => q.station != i)
  let s := s.onTrain t fun x =>
    { x with station := some i, tag := some tag, carried := some cls, slot := some k }
  let s := s.openTrainEntry t k
  let s := s.enterEvacuate i t
  if (s.train t).lastClass == some cls then
    let s := s.drawAfresh t
    if s.control.line == .stopped then s.pauseTrain t else s
  else s.startPurge t

/-- A satisfiable request whose unit holds 4 entries (R84). -/
def State.exhaustRequest (s : State) (i : StationId) (tag : Tag) : State :=
  let s := s.setRequests (s.arbiter.requests.filter fun q => q.station != i)
  let s := s.raise .allocExhausted (.station i) (one tag)
  s.faultStation i (.phase .trainWait) true

/-- One request of a scan: passed over, exhausted, or granted.  A line that a watch hit has stopped
within the scan grants nothing more (log 18). -/
def State.scanRequest (s : State) (q : Request) : State :=
  if !s.running then s
  else
    match (s.station q.station).unit, q.needed with
    | some tag, some cls =>
      match s.grantedTrain q.station (s.flammableRisk tag) cls, s.chooseVessel cls with
      | some t, some k =>
        if s.entriesExhausted tag then s.exhaustRequest q.station tag
        else s.grantTrain q.station tag t k cls
      | _, _ => s
    | _, _ => s

/-- The grant scan, over the requests in list order (R84). -/
def State.grantScan (s : State) : State := forAll s.arbiter.requests s State.scanRequest

/-- The request's place in the list: after every request of an earlier or equal time (R83). -/
def insertRequest (q : Request) : List Request → List Request
  | [] => [q]
  | r :: rs => if r.time ≤ q.time then r :: insertRequest q rs else q :: r :: rs

/-- A station's request joins the list, and the join makes a grant scan (R83, R84).  The list holds at most
one request for each station, so one that the station held makes room (log 44). -/
def State.joinRequests (s : State) (i : StationId) (time : Moment) : State :=
  let needed := ((s.station i).unit.bind s.findUnit).bind UnitRecord.vesselNeeded
  (s.setRequests
    (insertRequest { station := i, time := time, needed := needed }
      (s.arbiter.requests.filter (·.station != i)))).grantScan

/-! ## The end of a tail (R89) -/

def State.endTail (s : State) (t : TrainId) : State :=
  let x := s.train t
  let s := (s.orderTrain t .compressorStop).orderTrain t .outletClose
  let s := match x.tag with
    | some tag => s.closeEntry tag
    | none => s
  let s := s.onTrain t fun y => { y.released with lastClass := x.carried, state := .idle }
  let s := match x.station with
    | some i => s.dropTrain i
    | none => s
  s.grantScan

/-! ## Train faults (R90, R62) -/

/-- A station in EVACUATE whose train faulted returns to TRAIN_WAIT with the request time it holds; in
any other phase it only loses its train (R62). -/
def State.stationTrainFault (s : State) (i : StationId) : State :=
  if (s.station i).phase == .evacuate then
    let time := (s.station i).requestTime.getD s.now
    let s := s.onStation i fun x => { x with train := none, awaitingVessel := false }
    ((s.closeEvac i).enterPhase i .trainWait).joinRequests i time
  else s.dropTrain i

/-- The detail of TRAIN_FAULT: the station, or 0 (R90). -/
def trainFaultDetail (station : Option StationId) : Detail :=
  match station with
  | some i => one (i.val + 1)
  | none => one 0

/-- Steps 1 to 3 of a train fault, with the train's entry to FAULTED, which stands before the station's
new request is scanned. -/
def State.stripTrain (s : State) (t : TrainId) : State :=
  let s := match (s.train t).tag with
    | some tag => s.closeEntry tag
    | none => s
  (s.stopTrainOnce t).onTrain t fun y => { y.released with lastClass := none, state := .faulted }

/-- A train fault (R90). -/
def State.faultTrain (s : State) (t : TrainId) : State :=
  let x := s.train t
  match x.state with
  | .faulted | .outOfService => s
  | .idle =>
    let s := if s.halted then s.stopTrainAfterHalt t else s.stopTrain t
    let s := s.onTrain t fun y => { y with lastClass := none, state := .faulted }
    s.raise .trainFault (.train t) (one 0)
  | .tailing =>
    let s := s.stripTrain t
    let s := match x.station with
      | some i => s.dropTrain i
      | none => s
    s.raise .trainFault (.train t) (trainFaultDetail x.station)
  | .purging | .drawing | .paused | .waitVessel =>
    let s := s.stripTrain t
    let s := match x.station with
      | some i => s.stationTrainFault i
      | none => s
    s.raise .trainFault (.train t) (trainFaultDetail x.station)

/-! ## Changeover (R91, R92) -/

/-- A train's unit holds 4 entries at a changeover: its station faults, and the train tails (R91). -/
def State.exhaustTrain (s : State) (t : TrainId) : State :=
  match (s.train t).station, (s.train t).tag with
  | some i, some tag =>
    (s.raise .allocExhausted (.station i) (one tag)).faultStation i (.phase .evacuate) true
  | _, _ => s

/-- A train enters WAIT_VESSEL (R92).  Only a DRAWING train, and a PURGING one at its purge end (R86),
has a compressor to stop. -/
def State.waitForVessel (s : State) (t : TrainId) : State :=
  let x := s.train t
  let s := match x.tag with
    | some tag => s.closeEntry tag
    | none => s
  let s := if x.state == .paused then s else s.orderTrain t .compressorStop
  let s := s.setTrainState t .waitVessel
  match x.station, x.tag with
  | some i, some tag => (s.awaitVessel i).raise .vesselNone (.train t) (one tag)
  | _, _ => s

/-- The vessel that a train's class would be given now (R100). -/
def State.nextVessel (s : State) (t : TrainId) : Option SlotId :=
  (s.train t).carried.bind s.chooseVessel

/-- The train's unit holds 4 allocation entries. -/
def State.trainExhausted (s : State) (t : TrainId) : Bool :=
  match (s.train t).tag with
  | some tag => s.entriesExhausted tag
  | none => false

/-- Changeover of one train that feeds a full vessel (R91). -/
def State.changeTrain (k : SlotId) (s : State) (t : TrainId) : State :=
  let x := s.train t
  if x.slot == some k && (x.state == .drawing || x.state == .paused) then
    if s.trainExhausted t then s.exhaustTrain t
    else
      match s.nextVessel t with
      | some k' => (s.openTrainEntry t k').orderTrain t (.outletOpen k')
      | none => s.waitForVessel t
  else s

/-- Changeover of the trains that feed a vessel that has become FULL; none while HALTED (R91, R94). -/
def State.changeTrains (s : State) (k : SlotId) : State :=
  if s.halted then s else forAll trainIds s (State.changeTrain k)

/-- Resume one WAIT_VESSEL train of a class (R92). -/
def State.resumeTrain (cls : VesselClass) (s : State) (t : TrainId) : State :=
  let x := s.train t
  if x.state == .waitVessel && x.carried == some cls then
    match s.chooseVessel cls, x.station with
    | some k, some i =>
      let s := (s.openTrainEntry t k).vesselFound i
      if s.control.line == .stopped || (s.station i).suspended then
        (s.orderTrain t (.outletOpen k)).setTrainState t .paused
      else s.drawAfresh t
    | _, _ => s
  else s

/-- A vessel of a class has become READY: the waiting trains resume, unless the line is HALTED (R92,
R94). -/
def State.resumeTrains (s : State) (cls : VesselClass) : State :=
  if s.halted then s else forAll trainIds s (State.resumeTrain cls)

/-- The purge end passes (R86). -/
def State.endPurge (s : State) (t : TrainId) : State :=
  let s := (s.orderTrain t (.purgeValve false)).onTrain t fun x => { x with purgeEnd := none }
  let full :=
    match (s.train t).slot with
    | some k => s.vesselIsFull k
    | none => false
  if !full then s.leavePurge t
  else if s.trainExhausted t then s.exhaustTrain t
  else
    match s.nextVessel t with
    | some k => (s.openTrainEntry t k).leavePurge t
    | none => s.waitForVessel t

/-! ## The suspension cleared (R75, R88) -/

/-- A station clears suspended, and its train goes on (R75, R88). -/
def State.clearSuspension (s : State) (i : StationId) : State :=
  let s := s.onStation i fun x => { x with suspended := false }
  match (s.station i).train with
  | some t =>
    if (s.train t).state == .paused then
      ((s.orderTrain t .compressorStart).setTrainState t .drawing).reportDrawing t
    else s.openEvac i
  | none => s

/-! ## Commands -/

/-- The trains of a SET-PATHS list, where each lies in 1 to 4. -/
def pathOf : List Nat → Option (List TrainId)
  | [] => some []
  | n :: ns =>
    match trainOf n, pathOf ns with
    | some t, some ts => some (t :: ts)
    | _, _ => none

/-- No item of a list stands in it twice. -/
def noRepeats {α : Type} [BEq α] : List α → Bool
  | [] => true
  | x :: xs => !xs.contains x && noRepeats xs

/-- SET-PATHS (R82). -/
def doSetPaths (station : Nat) (trains : List Nat) (s : State) : State :=
  match stationOf station, pathOf trains with
  | some i, some ts =>
    if ts.isEmpty || 4 < ts.length || !noRepeats ts then s.send [noLine .setPaths .range]
    else if s.control.line != .stopped then s.send [noLine .setPaths .wrongState]
    else
      let s : State :=
        { s with arbiter := { s.arbiter with paths := s.arbiter.paths.set i.val ts i.isLt } }
      s.send [okLine .setPaths
        (field "station" (stationText i) ++ listField "trains" (ts.map trainText))]
  | _, _ => s.send [noLine .setPaths .range]

/-- TRAIN-SERVICE (R93).  The reply is formed after the grant scan. -/
def doTrainService (train : Nat) (intoService : Bool) (s : State) : State :=
  match trainOf train with
  | none => s.send [noLine .trainService .range]
  | some t =>
    let st := (s.train t).state
    let allowed :=
      if intoService then st == .outOfService || st == .faulted else st == .idle || st == .faulted
    if !allowed then s.send [noLine .trainService .wrongState]
    else if intoService && s.isSilent (.train t) then s.send [noLine .trainService .nodeSilent]
    else
      let s :=
        if intoService then
          (s.onTrain t fun x => { x with state := .idle, lastClass := none }).grantScan
        else s.setTrainState t .outOfService
      s.send [okLine .trainService
        (field "train" (trainText t) ++ field "state" (inOut intoService))]

end Sys2Proof.Machine
end

