-- ==== Sys2Proof/Machine/Drains.lean ====
section
/-!
DEFINITION. A bank's cooling, defrost and drain (spec/07_condenser_banks_and_agent_attribution.md): the
opening of the drain, its end, the confirmation of its close, and the apportionment.
-/

namespace Sys2Proof.Machine

/-! ## Cooling and defrost (R138, R143) -/

/-- A bank enters COOLING (R138). -/
def State.enterCooling (s : State) (bk : BankId) : State :=
  (s.orderBank (.refrigerationStart bk)).onBank bk fun x =>
    { x with state := .cooling, coolDeadline := some (s.now + Config.coolTime) }

/-- A bank enters WARM, and goes on to COOLING once started is set, unless the line is HALTED (R138). -/
def State.enterWarm (s : State) (bk : BankId) : State :=
  let s := s.onBank bk fun x => { x with state := .warm }
  if s.condenser.started && !s.halted then s.enterCooling bk else s

/-- A bank enters DEFROST.  While HALTED it is paused with the whole of defrost-max left (R143, R155).
Swap pending ends with CONDENSING (R141). -/
def State.enterDefrost (s : State) (bk : BankId) : State :=
  let span := seconds s.limits.defrostMax
  let s := s.onBank bk fun x =>
    { x with
      state := .defrost
      swapPending := false
      drained := 0
      drainEnded := false
      overrunRaised := false
      defrostDeadline := some (s.now + span)
      defrostRemaining := if s.halted then some span else none
      paused := s.halted }
  if s.halted then s else s.orderBank (.heaterOn bk)

/-! ## Opening the drain (R144) -/

/-- A bank enters DRAIN_WAIT, or stays in it since the same moment (log 26). -/
def State.enterDrainWait (s : State) (bk : BankId) : State :=
  s.onBank bk fun x =>
    { x with
      state := .drainWait
      waitSince := some (x.waitSince.getD s.now)
      drainDeadline := none }

/-- A bank opens its drain to a slot (R144). -/
def State.openDrain (s : State) (bk : BankId) (k : SlotId) : State :=
  (s.orderBank (.bankDrainOpen bk k)).onBank bk fun x =>
    { x with
      state := .drain
      drainSlot := some k
      drainValve := .opening
      drainDeadline := some (s.now + Config.drainTime)
      seenNonzero := false
      waitSince := none
      drainOrder := none }

/-- AGENT_VESSEL_NONE, with the bank's drained total (R144, R146). -/
def State.raiseNoAgent (s : State) (bk : BankId) : State :=
  s.raise .agentVesselNone (.bank bk) (one (s.bank bk).drained)

/-- The tests of R144, in order. -/
def State.testDrain (s : State) (bk : BankId) : State :=
  if (s.bank (otherBank bk)).drainSlot.isSome then s.enterDrainWait bk
  else
    match s.chooseVessel .agent with
    | none => (s.enterDrainWait bk).raiseNoAgent bk
    | some k => s.openDrain bk k

/-- A bank in DRAIN_WAIT whose valve is not CLOSING makes the tests again (R144). -/
def State.retestDrain (s : State) (bk : BankId) : State :=
  if (s.bank bk).state == .drainWait && (s.bank bk).drainValve != .closing then s.testDrain bk else s

/-- The banks in the order in which they test: the earlier wait first, bank A on a tie (R144). -/
def State.waitOrder (s : State) : List BankId :=
  match s.condenser.bankA.waitSince, s.condenser.bankB.waitSince with
  | some x, some y => if y < x then [.b, .a] else [.a, .b]
  | none, some _ => [.b, .a]
  | _, none => [.a, .b]

/-- Each waiting bank tests R144; none while the line is HALTED. -/
def State.testWaiting (s : State) : State :=
  if s.halted then s else forAll s.waitOrder s State.retestDrain

/-! ## The end of an opening (R145) -/

/-- BANK_DRAIN close ordered, and the valve CLOSING. -/
def State.closeDrain (s : State) (bk : BankId) : State :=
  (s.orderBank (.bankDrainClose bk)).onBank bk fun x =>
    { x with drainValve := .closing, drainOrder := some s.orderNumber }

/-- The drain opening meets its end (R145). -/
def State.endOpening (s : State) (bk : BankId) : State :=
  (s.onBank bk fun x => { x with drainEnded := true, drainDeadline := none }).closeDrain bk

/-- The valve is OPENING or OPEN. -/
def Bank.drainOpened (x : Bank) : Bool := x.drainValve == .opening || x.drainValve == .opened

/-- The opening may meet its end (R145). -/
def Bank.mayEnd (x : Bank) : Bool :=
  x.state == .drain && !x.drainEnded && !x.paused && x.drainOpened

/-- The last drain bank (R136). -/
def State.setLastDrain (s : State) (bk : BankId) : State :=
  { s with condenser := { s.condenser with lastDrainBank := some bk } }

/-- The bank removes its drain slot, and is the last drain bank (R136). -/
def State.dropDrainSlot (s : State) (bk : BankId) : State :=
  if (s.bank bk).drainSlot.isSome then
    (s.onBank bk fun x => { x with drainSlot := none }).setLastDrain bk
  else s

/-! ## Apportionment (R148, R149) -/

/-- The foam of a window's entries, an absent one counting as 0 (R148). -/
def windowTotal (ws : List Cabinet) : Nat := (ws.map fun w => w.foam.getD 0).sum

/-- The floor shares of a drain of `d` grams: by foam, or equal where all foam is 0 (R148, R149). -/
def floorShares (d : Grams) (ws : List Cabinet) : List Grams :=
  if windowTotal ws = 0 then ws.map fun _ => d / ws.length
  else ws.map fun w => d * w.foam.getD 0 / windowTotal ws

/-- The largest foam of a window. -/
def largestFoam (ws : List Cabinet) : Nat := ws.foldl (fun m w => max m (w.foam.getD 0)) 0

/-- The place of the entry that takes the remainder: the earliest with the largest foam, which is the
first where all foam is 0 (R148, R149). -/
def remainderPlace (ws : List Cabinet) : Nat :=
  ws.findIdx fun w => w.foam.getD 0 == largestFoam ws

/-- Add to the number at a place of a list. -/
def addAt (g : Nat) : Nat → List Nat → List Nat
  | _, [] => []
  | 0, x :: xs => (x + g) :: xs
  | n + 1, x :: xs => x :: addAt g n xs

/-- The shares of a drain of `d` grams, in window order (R148, R149). -/
def shares (d : Grams) (ws : List Cabinet) : List Grams :=
  addAt (d - (floorShares d ws).sum) (remainderPlace ws) (floorShares d ws)

/-- One share written to its record; a record in ATTRIBUTION that is left fully attributed closes (R148,
R10). -/
def State.writeShare (bk : BankId) (allZero : Bool) (s : State) (w : Cabinet × Grams) : State :=
  let s := s.onUnit w.1.tag fun r => r.takeShare bk w.2 (allZero || w.1.foam.isNone)
  match s.findUnit w.1.tag with
  | some r =>
    if r.place == some .attribution && r.fullyAttributed then s.closeUnit r.tag .complete else s
  | none => s

/-- A bank apportions its drained total among its window's entries (R148, R149). -/
def State.apportion (s : State) (bk : BankId) : State :=
  let d := (s.bank bk).drained
  let ws := (s.bank bk).window
  if ws.isEmpty then
    if d = 0 then s else s.raise .unattributedDrain (.bank bk) (one d)
  else forAll (ws.zip (shares d ws)) s (State.writeShare bk (windowTotal ws == 0))

/-! ## The close confirmed (R147) -/

/-- A bank whose drain is over: it gives up its slot, apportions, and goes to WARM or FAULTED (R147). -/
def State.finishDrain (s : State) (bk : BankId) : State :=
  let s := (s.dropDrainSlot bk).apportion bk
  let s := s.onBank bk fun x => { x with window := [], load := 0, drainEnded := false }
  let s :=
    if (s.bank bk).faultAfterDrain then s.onBank bk fun x => { x with state := .faulted }
    else s.enterWarm bk
  s.testWaiting

/-- The BANK_DRAIN close is confirmed (R147). -/
def State.confirmClose (s : State) (bk : BankId) : State :=
  let s := s.onBank bk fun x => { x with drainValve := .closed, drainOrder := none }
  match (s.bank bk).state with
  | .drain => if (s.bank bk).drainEnded then s.finishDrain bk else s
  | .drainWait => (s.dropDrainSlot bk).testWaiting
  | _ => s

/-! ## A full AGENT vessel (R146) -/

/-- Re-route or end the drain whose AGENT vessel has become FULL; nothing while HALTED (R146). -/
def State.changeDrain (s : State) (k : SlotId) : State :=
  match s.drainHolder with
  | none => s
  | some bk =>
    if (s.bank bk).drainSlot == some k && !(s.bank bk).drainEnded && !s.halted then
      match s.chooseVessel .agent with
      | some k' =>
        (s.orderBank (.bankDrainOpen bk k')).onBank bk fun x => { x with drainSlot := some k' }
      | none =>
        ((s.closeDrain bk).enterDrainWait bk).raiseNoAgent bk
    else s

end Sys2Proof.Machine
end

