-- ==== Sys2Proof/Machine/Chamber.lean ====
section
/-!
DEFINITION. The Chamber Sequencer (spec/06_the_foam_chamber.md): permission and boundaries, airlock,
purge, shred and clear, the loss of the condensing bank, faults, and the chamber's part of a reset.
-/

namespace Sys2Proof.Machine

/-! ## The cabinet's windows (R7, R124, R140) -/

/-- A write to the record of the unit in the chamber. -/
def State.onChamberUnit (s : State) (f : UnitRecord → UnitRecord) : State :=
  match s.chamber.unit with
  | some tag => s.onUnit tag f
  | none => s

/-- The window of the CONDENSING bank takes a tag, with its foam absent; a window of 8 entries sets swap
pending (R140, R141). -/
def Bank.addCabinet (x : Bank) (tag : Tag) : Bank :=
  let window := x.window ++ [{ tag := tag, foam := none }]
  { x with
    window := window
    swapPending := x.swapPending || decide (Config.windowSize ≤ window.length) }

/-- The chamber hands its unit to the condensing bank, and the record gains a window entry (R124 steps 1
and 2). -/
def State.handCabinet (s : State) : State :=
  match s.chamber.unit, s.condensing with
  | some tag, some bk =>
    (s.onBank bk fun x => x.addCabinet tag).onUnit tag fun r => r.addWindow bk none
  | _, _ => s

/-- The foam of a tag in a bank's window (R140). -/
def Bank.writeFoam (x : Bank) (tag : Tag) (g : Grams) : Bank :=
  { x with window := x.window.map fun w => if w.tag == tag then { w with foam := some g } else w }

/-- Write the foam of the unit's last window entry, in the record and in the bank's window (R125,
R128). -/
def State.writeLastFoam (s : State) (tag : Tag) (g : Grams) : State :=
  match (s.findUnit tag).bind fun r => r.windows.getLast? with
  | none => s
  | some w =>
    (s.onUnit tag fun r => { r with windows := setLastFoam g r.windows }).onBank w.bank fun x =>
      x.writeFoam tag g

/-- The foam of all that has been shredded for the unit: scale less foam start, or 0 (R125). -/
def State.shredFoam (s : State) : Grams := s.foamScale - s.chamber.foamStart.getD 0

/-- Where the unit's last window entry has no foam, the foam so far is written to it (R128). -/
def State.recordFoam (s : State) : State :=
  match s.chamber.unit with
  | none => s
  | some tag =>
    match s.findUnit tag with
    | none => s
    | some r =>
      match r.windows.getLast? with
      | none => s
      | some w => if w.foam.isNone then s.writeLastFoam tag (s.shredFoam - r.earlierFoam) else s

/-! ## Beginning a phase (R121 to R127) -/

/-- The chamber begins PURGE, ordinary or as a re-purge (R123, R126). -/
def State.beginPurge (s : State) (repurge : Bool) : State :=
  let s := s.enterChamberPhase .purge
  (s.orderChamber (.nitrogen true)).onChamber fun c =>
    { c with
      repurge := repurge
      nitrogenOpen := true
      purgeEnd := some (s.now + seconds s.limits.purgeMax) }

/-- The chamber begins SHRED (R124). -/
def State.beginShred (s : State) : State :=
  let s := (s.enterChamberPhase .shred).handCabinet
  (s.onChamber fun c => { c with foamStart := some s.foamScale, emptyNoted := false }).orderChamber
    .shredderStart

/-- The chamber begins CLEAR (R127). -/
def State.beginClear (s : State) : State :=
  (s.enterChamberPhase .clear).onChamber fun c =>
    { c with clearEnd := some (s.now + Config.clearTime) }

/-- The chamber takes the head of the feed queue (R122). -/
def State.takeHead (s : State) (tag : Tag) (rest : List Tag) : State :=
  let s := s.onChamber fun c => { c with feed := rest, unit := some tag }
  let s := s.onUnit tag fun r => { r with place := some .chamber }
  let s := s.enterChamberPhase .airlock
  (s.orderChamber .doorCycle).onChamber fun c => { c with doorOrder := some s.orderNumber }

/-- The chamber at the boundary before SHRED, with permission: SHRED, PURGE in its place, or the wait
(R124). -/
def State.tryShred (s : State) : State :=
  if !s.mayShred then s
  else if s.chamberInert && s.limits.purgeO2 < s.oxygen then s.spendChamberCredit.beginPurge false
  else s.spendChamberCredit.beginShred

/-- The chamber in IDLE or at a boundary tests for permission (R121). -/
def State.testChamber (s : State) : State :=
  if s.chamberMay then
    match s.chamber.nextPhase with
    | some .purge => s.spendChamberCredit.beginPurge false
    | some .shred => s.tryShred
    | some .clear => s.spendChamberCredit.beginClear
    | some _ => s
    | none =>
      match s.chamber.phase, s.chamber.feed with
      | .idle, tag :: rest => s.spendChamberCredit.takeHead tag rest
      | _, _ => s
  else s

/-- A phase ends: the chamber stands at the boundary and tests for permission there (R121). -/
def State.endChamberPhase (s : State) (p : ChamberPhase) : State :=
  (s.onChamber fun c => { c with nextPhase := some p }).testChamber

/-! ## The end of a phase -/

/-- The airlock's door cycle is DONE (R122). -/
def State.endAirlock (s : State) : State :=
  s.endChamberPhase (if s.chamberInert then .purge else .shred)

/-- SHRED ends (R125). -/
def State.endShred (s : State) : State :=
  let foam := s.shredFoam
  let s := s.onChamberUnit fun r => { r with foam := some foam }
  let s :=
    match s.chamber.unit with
    | none => s
    | some tag =>
      match s.findUnit tag with
      | none => s
      | some r => s.writeLastFoam tag (foam - r.earlierFoam)
  (s.onChamber fun c => { c with foamStart := none }).endChamberPhase .clear

/-- The chamber returns to SHRED without permission; with empty noted it ends SHRED at once (R125,
R126, R129). -/
def State.returnToShred (s : State) : State :=
  let s := s.enterChamberPhase .shred
  if s.chamber.emptyNoted then s.endShred else s.orderChamber .shredderStart

/-- PURGE ends at a low enough O2 (R123). -/
def State.endPurgePhase (s : State) : State :=
  let again := s.chamber.repurge
  let s := (s.orderChamber (.nitrogen false)).onChamber fun c =>
    { c with nitrogenOpen := false, purgeEnd := none, repurge := false }
  if again then s.returnToShred else s.endChamberPhase .shred

/-- The oxygen pause (R126). -/
def State.pauseShred (s : State) (o2 : Nat) : State :=
  ((s.issueFor .chamberSequencer .chamber .shredderStop .oxygenPause).raise .chamberO2Pause .chamber (one o2)).beginPurge true

/-! ## Faults (R130) -/

/-- The chamber enters FAULTED with its fault action; a chamber that was IDLE takes no faulted phase
(R130). -/
def State.faultChamberIn (s : State) (p : ChamberPhase) : State :=
  let c := s.chamber
  let f := if c.phase == .idle && c.nextPhase.isNone then none else some p
  let s := (s.onChamber fun c => { c with faultedPhase := f }).enterChamberPhase .faulted
  let s := s.recordFoam
  let s := if s.shredderStopping then s else s.orderChamber .shredderStop
  s.onChamber fun c =>
    { c with
      repurge := false
      returnPhase := none
      purgeEnd := none
      clearEnd := none
      doorOrder := none }

/-- The chamber faults in the phase it stands in, or before which it stands (R130). -/
def State.faultChamber (s : State) : State :=
  s.faultChamberIn (s.chamber.nextPhase.getD s.chamber.phase)

/-- PURGE's end passes with O2 still high (R123). -/
def State.purgeTimedOut (s : State) : State :=
  (s.raise .purgeTimeout .chamber (one s.oxygen)).faultChamber

/-! ## Loss and return of the condensing bank (R128, R129) -/

/-- The chamber is SUSPENDED, to return to the phase it left (R128).  Re-purge becomes no with its purge
end, until R129 sets it again (log 25). -/
def State.suspendChamber (s : State) : State :=
  let c := s.chamber
  let s := (s.onChamber fun c => { c with returnPhase := some c.phase }).enterChamberPhase .suspended
  let s :=
    if c.phase == .shred && !c.emptyNoted then s.orderChamber .shredderStop else s
  s.onChamber fun c =>
    { c with repurge := false, purgeEnd := none, clearEnd := none }

/-- The unit in the chamber holds 2 window entries (R128). -/
def State.windowsExhausted (s : State) : Bool :=
  match s.chamber.unit.bind s.findUnit with
  | some r => Config.recordWindowLimit ≤ r.windows.length
  | none => false

/-- The condensing bank has left CONDENSING other than by a swap (R128).  A chamber already SUSPENDED
keeps its return phase. -/
def State.bankLost (s : State) : State :=
  if s.chamber.shredInProgress then
    let s := s.recordFoam
    if s.windowsExhausted then s.faultChamber
    else if s.chamber.phase == .suspended then s
    else s.suspendChamber
  else s

/-- A SUSPENDED chamber returns to its phase (R129). -/
def State.returnChamber (s : State) : State :=
  let back := s.chamber.returnPhase
  let s := (s.onChamber fun c => { c with returnPhase := none }).handCabinet
  match back with
  | some .shred => s.returnToShred
  | some .clear =>
    let s := s.beginClear
    match s.chamber.unit with
    | some tag => s.writeLastFoam tag 0
    | none => s
  | some .purge =>
    let s := s.enterChamberPhase .purge
    let s' := s.onChamber fun c =>
      { c with repurge := true, purgeEnd := some (s.now + seconds s.limits.purgeMax) }
    if s.chamber.nitrogenOpen then s'
    else
      (s'.orderChamber (.nitrogen true)).onChamber fun c => { c with nitrogenOpen := true }
  | _ => s

/-- A bank has entered CONDENSING: the chamber returns from SUSPENDED, or tests for permission (R129,
R121). -/
def State.bankCondenses (s : State) : State :=
  if s.chamber.phase == .suspended then
    if s.halted then s else s.returnChamber
  else s.testChamber

/-! ## The chamber's orders -/

/-- An order of the Chamber Sequencer reported DONE.  A door cycle does not move a frozen chamber
(R133). -/
def State.chamberOrderDone (s : State) (o : Order) : State :=
  match o.kind with
  | .doorCycle =>
    if s.chamber.doorOrder == some o.number && s.chamber.phase == .airlock then
      let s := s.onChamber fun c => { c with doorOrder := none }
      if s.halted then s else s.endAirlock
    else s
  | _ => s

/-- The faulted phase that the rule of a failed order names: AIRLOCK for the door cycle (R122), PURGE for
a purge's NITROGEN open (R123), SHRED for the start (R124), SUSPENDED for a stop that finds the chamber
SUSPENDED (R128), and PURGE for an oxygen pause's stop (R126).  Other failed orders fault the chamber
only while HALTED (R133; log 23). -/
def Order.chamberFault (o : Order) (c : Chamber) : Option ChamberPhase :=
  match o.kind with
  | .doorCycle => some .airlock
  | .nitrogen true => if o.cause == .halt then none else some .purge
  | .shredderStart => some .shred
  | .shredderStop =>
    if c.phase == .suspended then some .suspended
    else if o.cause == .oxygenPause then some .purge
    else none
  | _ => none

/-- An order of the Chamber Sequencer failed.  A FAULTED chamber stays as it stands (R130). -/
def State.chamberOrderFailed (s : State) (o : Order) : State :=
  if s.chamber.phase == .faulted then s
  else
    match o.chamberFault s.chamber with
    | some p => s.faultChamberIn p
    | none => if s.halted then s.faultChamber else s

/-- The silence of the chamber node, after its orders have failed (R130). -/
def State.chamberSilent (s : State) : State :=
  let c := s.chamber
  if !s.halted && !c.atBoundary && (c.phase == .airlock || c.phase == .purge || c.phase == .shred) then
    s.faultChamber
  else s

/-! ## A chamber answer's readings (R120, R123, R125, R126) -/

/-- LEL_WARN of a chamber answer (R120). -/
def State.warnLel (s : State) (lel : Nat) : State :=
  if s.limits.lelWarn ≤ lel then s.raise .lelWarn .chamber (one lel) else s

/-- The pause limit (R126). -/
def State.testPause (s : State) (o2 : Nat) : State :=
  if s.chamber.phase == .shred && !s.chamber.atBoundary && !s.chamber.repurge && s.chamberInert
      && !s.halted && s.limits.pauseO2 < o2 then
    s.pauseShred o2
  else s

/-- The high limit (R126). -/
def State.testHigh (s : State) (inProgress : Bool) (o2 : Nat) : State :=
  if inProgress && s.chamberInert && Config.o2High < o2 then
    s.raise .chamberO2High .chamber (one o2)
  else s

/-- The chamber cannot end SHRED now: it is in a re-purge, SUSPENDED, frozen, or a SHREDDER_STOP is
outstanding (R125, R133). -/
def State.cannotEndShred (s : State) : Bool :=
  s.halted || s.chamber.phase == .suspended || (s.chamber.phase == .purge && s.chamber.repurge)
    || s.shredderStopping

/-- The shredder's EMPTY report (R125).  In CLEAR, and with no shred in progress, it has no effect, in
HALTED as elsewhere (R133; log 22). -/
def State.takeEmpty (s : State) : State :=
  let c := s.chamber
  if !c.shredInProgress || c.phase == .clear then s
  else if s.cannotEndShred then s.onChamber fun c => { c with emptyNoted := true }
  else if c.phase == .shred then s.endShred
  else s

/-- PURGE ends at the first answer after it began with O2 at or below purge-o2 (R123). -/
def State.testPurgeEnd (s : State) (o2 : Nat) : State :=
  if s.chamber.phase == .purge && !s.chamber.atBoundary && !s.halted && o2 ≤ s.limits.purgeO2 then
    s.endPurgePhase
  else s

/-- The chamber was in PURGE, not at a boundary. -/
def Chamber.inPurge (c : Chamber) : Bool := c.phase == .purge && !c.atBoundary

/-- What a chamber answer's quantities do (R120, R126, R125, R123; log 22).  `before` is the chamber
before the answer's order reports: a PURGE that began with them ends at a later answer (R123), and a SHRED
that began with them ends at this answer's EMPTY (R125, R189). -/
def State.takeChamberReadings (s : State) (before : Chamber) (r : ChamberReadings) : State :=
  let inProgress := s.chamber.shredInProgress
  let s := (s.onChamber fun c => { c with readings := some r }).warnLel r.lel
  let s := (s.testPause r.o2).testHigh inProgress r.o2
  let s := if r.emptied then s.takeEmpty else s
  if before.inPurge then s.testPurgeEnd r.o2 else s

/-! ## The clear end (R127) and the resets (R134) -/

/-- The clear end passes: the chamber is IDLE and the record moves on (R127).  The swap test and the test
for permission follow. -/
def State.leaveClear (s : State) : State :=
  let tag := s.chamber.unit
  let s := s.onChamber fun c => { c with phase := .idle, nextPhase := none, unit := none, clearEnd := none }
  match tag with
  | some t => s.attributeOrClose t .complete
  | none => s

/-- The chamber's reset action (R134). -/
def State.resetChamber (s : State) : State :=
  if s.chamber.unit.isSome then
    if s.chamber.phase == .faulted then s.orderChamber .shredderStop else s.faultChamber
  else
    let s' := s.onChamber fun c =>
      { Chamber.reset with feed := c.feed, readings := c.readings }
    if s.chamber.nitrogenOpen then s'.orderChamber (.nitrogen false) else s'

/-! ## Commands -/

/-- A tag joins the feed queue (R70, R117, R121). -/
def State.joinFeed (s : State) (tag : Tag) : State :=
  s.onChamber fun c => { c with feed := c.feed ++ [tag] }

/-- RELEASE (R70): the UNCLAMP is ordered before the chamber tests for permission (log 42). -/
def doRelease (station : Nat) (s : State) : State :=
  match stationOf station with
  | none => s.send [noLine .release .range]
  | some i =>
    match (s.station i).unit with
    | none => s.send [noLine .release .wrongState]
    | some tag =>
      if (s.station i).phase != .done then s.send [noLine .release .wrongState]
      else if s.isSilent (.station i) then s.send [noLine .release .nodeSilent]
      else if Config.feedSize ≤ s.chamber.feed.length then s.send [noLine .release .queueFull]
      else
        let s := (s.joinFeed tag).onUnit tag fun r =>
          { r with place := some .queued, station := none }
        let s := (s.unclamp i).testChamber
        s.send [okLine .release (field "station" (stationText i) ++ field "tag" (numText tag))]

/-- WITHDRAW-FEED (R118). -/
def doWithdrawFeed (tag : Nat) (s : State) : State :=
  if tag = 0 then s.send [noLine .withdrawFeed .range]
  else
    match s.findInRegister tag with
    | none => s.send [noLine .withdrawFeed .noSuchUnit]
    | some r =>
      if r.place != some .queued then s.send [noLine .withdrawFeed .wrongState]
      else
        let s := s.onChamber fun c => { c with feed := c.feed.filter (· != tag) }
        (s.closeUnit tag .withdrawn).send [okLine .withdrawFeed (field "tag" (numText tag))]

/-- The unit of an aborted chamber: its foam, its disposition, and its move on (R131). -/
def State.abortUnit (s : State) (tag : Tag) : State :=
  let s := s.onUnit tag fun r =>
    { r with foam := some r.windowFoam, disposition := some .chamberAborted }
  s.attributeOrClose tag .chamberAborted

/-- The latest shredder state shows the shredder running (R131). -/
def Chamber.shredderRuns (c : Chamber) : Bool :=
  match c.readings with
  | some r => r.running
  | none => false

/-- ABORT-CHAMBER (R131). -/
def doAbortChamber (s : State) : State :=
  if s.halted then s.send [noLine .abortChamber .lineHalted]
  else if s.chamber.phase != .faulted || s.chamber.shredderRuns then
    s.send [noLine .abortChamber .wrongState]
  else
    let tag := s.chamber.unit
    let s := match tag with
      | some t => s.abortUnit t
      | none => s
    let s := if s.chamber.nitrogenOpen then s.orderChamber (.nitrogen false) else s
    let s := s.onChamber fun c =>
      { c with
        nitrogenOpen := false
        phase := .idle
        nextPhase := none
        unit := none
        faultedPhase := none
        foamStart := none
        emptyNoted := false }
    s.testChamber.send [okLine .abortChamber (optField "tag" (tag.map numText))]

end Sys2Proof.Machine
end

