-- ==== Sys2Proof/Machine/Vessels.lean ====
section
/-!
DEFINITION. The Vessel Table (spec/05_vessels_and_mass_booking.md): booking, the full and overfill tests,
a bay answer, and the four vessel commands.
-/

namespace Sys2Proof.Machine

/-! ## Booking (R102 to R105) -/

/-- A vessel has become FULL: VESSEL_FULL, and the changeover of its class's block (R105). -/
def State.vesselFilled (s : State) (k : SlotId) : State :=
  match (s.slot k).vessel with
  | none => s
  | some v =>
    let s := s.raise .vesselFull (.slot k) (one v.id)
    if v.cls == .agent then s.changeDrain k else s.changeTrains k

/-- The state of a vessel after a delta of more than 0 g (R104). -/
def Vessel.tested (v : Vessel) : Vessel :=
  match v.state with
  | .full => v
  | _ => { v with state := if v.fill ≤ v.booked + v.initial then .full else .filling }

/-- A delta added to a vessel's booked mass, with the test of R104. -/
def Vessel.book (v : Vessel) (d : Grams) : Vessel :=
  if d = 0 then v else { v with booked := v.booked + d }.tested

/-- Book a delta to the vessel in a slot; where that fills it, R105 follows. -/
def State.bookVessel (s : State) (k : SlotId) (d : Grams) : State :=
  let full := s.vesselIsFull k
  let s := s.onVessel k fun v => v.book d
  if s.vesselIsFull k && !full then s.vesselFilled k else s

/-- Book a train delta: to the latest entry of the tag's record and to that entry's vessel (R102).  A delta of
a CLOSING record is discarded (log 52). -/
def State.bookTrain (s : State) (tag : Tag) (d : Grams) : State :=
  match (s.findUnit tag).bind UnitRecord.latestEntry with
  | none => s
  | some e => (s.onUnit tag fun r => r.book d).bookVessel e.slot d

/-! ## The overfill test (R106) -/

/-- 100 times the gain over the initial content exceeds 105 times the capacity above it. -/
def overfilled (v : Vessel) (net : Grams) : Bool :=
  decide ((Config.overfillPercent : Int) * ((v.fill : Int) - (v.initial : Int))
    < 100 * ((net : Int) - (v.initial : Int))) && v.initial ≤ net

/-- The overfill test of one slot (R106). -/
def State.testOverfill (s : State) (k : SlotId) : State :=
  match (s.slot k).vessel, (s.slot k).platform with
  | some v, some p =>
    if s.hasFeeders k && overfilled v p.net then
      s.raise .vesselOverfill (.slot k) (one ((p.net : Int) - (v.initial : Int)))
    else s
  | _, _ => s

/-- The bay's readings written to a slot (R99). -/
def State.writePlatform (readings : Vector Platform 12) (s : State) (k : SlotId) : State :=
  s.setSlot k { s.slot k with platform := some (readings.get k) }

/-- What a bay answer does: every slot is written, and then every fed slot tested, slot 1 first (R99;
log 42). -/
def State.takeBayReadings (s : State) (a : BayAnswer) : State :=
  forAll slotIds (forAll slotIds s (State.writePlatform a.platforms)) State.testOverfill

/-! ## The commands -/

/-- A vessel of a class has become READY: trains resume, the grant scan is made, and for AGENT the
waiting banks test (R108). -/
def State.vesselReady (s : State) (cls : VesselClass) : State :=
  let s := (s.resumeTrains cls).grantScan
  if cls == .agent then s.testWaiting else s

/-- Another slot holds a vessel with this identifier (R107). -/
def State.vesselElsewhere (s : State) (k : SlotId) (id : Nat) : Bool :=
  slotIds.any fun j => j != k &&
    match (s.slot j).vessel with
    | some v => v.id == id
    | none => false

/-- The bay reports a vessel on the platform (R107). -/
def State.isPresent (s : State) (k : SlotId) : Bool :=
  match (s.slot k).platform with
  | some p => p.present
  | none => false

/-- INSERT-VESSEL (R107, R108). -/
def doInsertVessel (slot id : Nat) (cls : VesselClass) (tare initial fill : Nat) (s : State) : State :=
  match slotOf slot with
  | none => s.send [noLine .insertVessel .noSuchSlot]
  | some k =>
    if id = 0 || fill ≤ initial then s.send [noLine .insertVessel .range]
    else if (s.slot k).vessel.isSome then s.send [noLine .insertVessel .slotBusy]
    else if s.vesselElsewhere k id then s.send [noLine .insertVessel .duplicate]
    else if s.isSilent .bay then s.send [noLine .insertVessel .nodeSilent]
    else if !s.isPresent k then s.send [noLine .insertVessel .notPresent]
    else
      let v : Vessel :=
        { state := .ready, id := id, cls := cls, tare := tare, initial := initial, fill := fill
          booked := 0 }
      let s := (s.setSlot k { s.slot k with vessel := some v }).vesselReady cls
      s.send [okLine .insertVessel
        (field "slot" (slotText k) ++ field "id" (numText id) ++
          field "class" (ascii (vesselClassWord cls)))]

/-- CLOSE-VESSEL (R109). -/
def doCloseVessel (slot : Nat) (s : State) : State :=
  match slotOf slot with
  | none => s.send [noLine .closeVessel .noSuchSlot]
  | some k =>
    match (s.slot k).vessel with
    | none => s.send [noLine .closeVessel .wrongState]
    | some v =>
      let s :=
        if v.state == .full then s
        else (s.onVessel k fun v => { v with state := .full }).vesselFilled k
      s.send [okLine .closeVessel (field "slot" (slotText k) ++ field "id" (numText v.id))]

/-- The scale net of a slot; before the first bay answer the spec states none, and it is a free value
(log 9). -/
def State.scaleNet (s : State) (k : SlotId) : Grams :=
  match (s.slot k).platform with
  | some p => p.net
  | none => Config.freeScaleNet s.freeCount k

/-- The measured gain of a vessel (R111). -/
def Vessel.gain (v : Vessel) (net : Grams) : Int := (net : Int) - (v.initial : Int)

/-- The difference of R111, without its sign. -/
def Vessel.difference (v : Vessel) (net : Grams) : Nat := (v.gain net - (v.booked : Int)).natAbs

/-- A vessel is discrepant (R111). -/
def Vessel.discrepant (v : Vessel) (limits : Settings) (net : Grams) : Bool :=
  limits.discrepancyGrams < v.difference net &&
    limits.discrepancyPercent * v.booked < 100 * v.difference net

/-- REMOVE-VESSEL (R110 to R112). -/
def doRemoveVessel (slot : Nat) (s : State) : State :=
  match slotOf slot with
  | none => s.send [noLine .removeVessel .noSuchSlot]
  | some k =>
    match (s.slot k).vessel with
    | none => s.send [noLine .removeVessel .wrongState]
    | some v =>
      if v.state == .filling then s.send [noLine .removeVessel .wrongState]
      else if s.hasFeeders k then s.send [noLine .removeVessel .feeding]
      else if s.isSilent .bay then s.send [noLine .removeVessel .nodeSilent]
      else
        let gain := v.gain (s.scaleNet k)
        let bad := v.discrepant s.limits (s.scaleNet k)
        let s :=
          if bad then
            s.raise .vesselDiscrepancy (.slot k) { first := v.booked, second := some gain }
          else s
        (s.setSlot k { s.slot k with vessel := none }).send [okLine .removeVessel
          (field "slot" (slotText k) ++ field "id" (numText v.id) ++
            field "class" (ascii (vesselClassWord v.cls)) ++ field "booked" (numText v.booked) ++
            field "gain" (intText gain) ++ field "discrepant" (yesNo bad))]

/-- The fields of a vessel in a VESSEL line (R113). -/
def Vessel.fields (v : Vessel) : Text :=
  field "id" (numText v.id) ++ field "class" (ascii (vesselClassWord v.cls)) ++
    field "tare" (numText v.tare) ++ field "initial" (numText v.initial) ++
    field "fill" (numText v.fill) ++ field "booked" (numText v.booked)

/-- The word of a slot's state (R97). -/
def slotStateWord (x : Slot) : String :=
  match x.vessel with
  | some v => vesselStateWord v.state
  | none => "VACANT"

/-- The fields of a slot's VESSEL line (R198, R113). -/
def State.vesselFields (s : State) (k : SlotId) : Text :=
  let x := s.slot k
  field "slot" (slotText k) ++ field "state" (ascii (slotStateWord x)) ++
    (match x.vessel with
      | some v => v.fields
      | none => []) ++
    optField "present" (x.platform.map fun p => yesNo p.present) ++
    optField "net" (x.platform.map fun p => numText p.net) ++
    listField "feeders"
      ((s.trainFeeders k).map trainText ++ (s.bankFeeders k).map fun bk => ascii (bankWord bk))

/-- QUERY-VESSEL (R113). -/
def doQueryVessel (slot : Nat) (s : State) : State :=
  match slotOf slot with
  | none => s.send [noLine .queryVessel .noSuchSlot]
  | some k => s.send [okLine .queryVessel (s.vesselFields k)]

end Sys2Proof.Machine
end

