-- ==== Sys2Proof/Machine/Condenser.lean ====
section
/-!
DEFINITION. The Condenser (spec/07_condenser_banks_and_agent_attribution.md): condensing and
alternation, bank faults, a condenser answer, the expiries, the resets and the condenser commands.
-/

namespace Sys2Proof.Machine

/-! ## Condensing and the swap (R139, R141, R142) -/

/-- A bank enters CONDENSING, and the chamber is told (R139). -/
def State.enterCondensing (s : State) (bk : BankId) : State :=
  let s := (s.orderBank (.inletValve bk true)).onBank bk fun x =>
    { x with
      state := .condensing
      load := 0
      condensingTime := 0
      swapPending := false
      hardRaised := false
      window := [] }
  s.bankCondenses

/-- A COLD bank enters CONDENSING when no bank is CONDENSING and the line is not HALTED (R139). -/
def State.tryCondense (s : State) (bk : BankId) : State :=
  if (s.bank bk).state == .cold && s.condensing.isNone && !s.halted then s.enterCondensing bk else s

/-- The conditions of a swap from this bank (R142). -/
def State.swapDue (s : State) (bk : BankId) : Bool :=
  (s.bank bk).swapPending && (s.bank (otherBank bk)).state == .cold
    && !s.chamber.shredInProgress && !s.halted

/-- The swap is carried out (R142). -/
def State.swapBanks (s : State) (bk : BankId) : State :=
  let s := (s.orderBank (.inletValve bk false)).orderBank (.refrigerationStop bk)
  (s.enterDefrost bk).enterCondensing (otherBank bk)

/-- The swap test (R142). -/
def State.swapTest (s : State) : State :=
  match s.condensing with
  | some bk => if s.swapDue bk then s.swapBanks bk else s
  | none => s

/-- The hard load test, while swap pending is yes (R141). -/
def State.hardTest (s : State) (bk : BankId) : State :=
  let x := s.bank bk
  if x.swapPending && !x.hardRaised && s.limits.bankHardLoad ≤ x.load then
    (s.onBank bk fun x => { x with hardRaised := true }).raise .bankLoadHard (.bank bk) (one x.load)
  else s

/-- Swap pending becomes yes where a trigger holds (R141). -/
def State.setPendingIf (s : State) (bk : BankId) (trigger : Bool) : State :=
  s.onBank bk fun x => { x with swapPending := x.swapPending || trigger }

/-- The load trigger of R141. -/
def State.loadTrigger (s : State) (bk : BankId) : Bool :=
  s.limits.bankSwapLoad ≤ (s.bank bk).load

/-- The three triggers of R141. -/
def State.anyTrigger (s : State) (bk : BankId) : Bool :=
  s.loadTrigger bk || decide (seconds s.limits.bankMaxTime ≤ (s.bank bk).condensingTime)
    || decide (Config.windowSize ≤ (s.bank bk).window.length)

/-- A change of bank-swap-load or bank-max-time tests the condensing bank's triggers (R141, R179). -/
def State.testTriggers (s : State) : State :=
  match s.condensing with
  | some bk => (s.setPendingIf bk (s.anyTrigger bk)).swapTest
  | none => s

/-- A change of bank-hard-load tests the condensing bank's hard load (R141, R179). -/
def State.testHardLoad (s : State) : State :=
  match s.condensing with
  | some bk => s.hardTest bk
  | none => s

/-- A bank enters COLD (R138, R139, R142). -/
def State.enterCold (s : State) (bk : BankId) : State :=
  ((s.onBank bk fun x => { x with state := .cold, coolDeadline := none }).tryCondense bk).swapTest

/-- DEFROST ends by temperature, and the drain begins (R143, R144). -/
def State.endDefrost (s : State) (bk : BankId) : State :=
  ((s.orderBank (.heaterOff bk)).onBank bk fun x => { x with defrostDeadline := none }).testDrain bk

/-! ## Bank faults (R150) -/

/-- A CONDENSING bank faults: it is defrosted, the chamber is told of the loss, and a COLD other bank
enters CONDENSING (R150; log 25). -/
def State.loseBank (s : State) (bk : BankId) : State :=
  let s := s.raise .bankFault (.bank bk) (one (s.bank bk).load)
  let s := (s.orderBank (.inletValve bk false)).orderBank (.refrigerationStop bk)
  let s := (s.onBank bk fun x => { x with faultAfterDrain := true }).enterDefrost bk
  s.bankLost.tryCondense (otherBank bk)

/-- BANK_FAULT with the drained total, and fault after drain set (R147, R150). -/
def State.faultDrain (s : State) (bk : BankId) : State :=
  (s.raise .bankFault (.bank bk) (one (s.bank bk).drained)).onBank bk fun x =>
    { x with faultAfterDrain := true }

/-- A bank fault, by the bank's state (R150). -/
def State.faultBank (s : State) (bk : BankId) : State :=
  match (s.bank bk).state with
  | .condensing => s.loseBank bk
  | .cooling | .cold =>
    let s := s.raise .bankFault (.bank bk) (one (s.bank bk).load)
    (s.orderBank (.refrigerationStop bk)).onBank bk fun x =>
      { x with state := .faulted, coolDeadline := none }
  | .defrost | .drainWait | .drain => s.faultDrain bk
  | .warm => s.raise .bankFault (.bank bk) (one 0)
  | .faulted => s

/-- The bank that an order of the Condenser is for. -/
def OrderKind.bank : OrderKind → Option BankId
  | .refrigerationStart bk | .refrigerationStop bk | .heaterOn bk | .heaterOff bk
  | .inletValve bk _ | .bankDrainOpen bk _ | .bankDrainClose bk => some bk
  | _ => none

/-- The close that a bank waits for. -/
def State.awaitsDrainClose (s : State) (bk : BankId) (number : Nat) : Bool :=
  (s.bank bk).drainValve == .closing && (s.bank bk).drainOrder == some number

/-- An order of the Condenser reported DONE (R144, R147).  Any of the bank's opens makes an OPENING valve
OPEN (log 40). -/
def State.bankOrderDone (s : State) (o : Order) : State :=
  match o.kind with
  | .bankDrainOpen bk _ =>
    if (s.bank bk).drainValve == .opening then s.onBank bk fun x => { x with drainValve := .opened }
    else s
  | .bankDrainClose bk => if s.awaitsDrainClose bk o.number then s.confirmClose bk else s
  | _ => s

/-- An order of the Condenser failed (R147, R150). -/
def State.bankOrderFailed (s : State) (o : Order) : State :=
  match o.kind with
  | .bankDrainClose bk => if s.awaitsDrainClose bk o.number then s.faultDrain bk else s
  | .bankDrainOpen bk _ =>
    let s := s.faultBank bk
    if (s.bank bk).mayEnd then s.endOpening bk else s
  | kind =>
    match kind.bank with
    | some bk => s.faultBank bk
    | none => s

/-- The silence of the condenser node is a fault of each bank, bank A's taken whole before bank B's (R150;
log 25). -/
def State.condenserSilent (s : State) : State := forAll bankIds s State.faultBank

/-! ## A condenser answer (R137) -/

/-- The temperature tests of COOLING and DEFROST (R138, R143). -/
def State.testTemperature (s : State) (bk : BankId) (t : Int) : State :=
  match (s.bank bk).state with
  | .cooling => if t ≤ Config.coldTemperature then s.enterCold bk else s
  | .defrost =>
    if !(s.bank bk).paused && Config.warmTemperature ≤ t then s.endDefrost bk else s
  | _ => s

/-- The readings of one bank: refrigeration, temperature, drain valve (R137; log 24). -/
def State.takeBank (s : State) (bk : BankId) (r : BankReading) : State :=
  let st := (s.bank bk).state
  let s := if r.refrigeration == .failed then s.faultBank bk else s
  let s := if (s.bank bk).state == st then s.testTemperature bk r.temperature else s
  if (s.bank bk).drainValve == .closing && !r.drainOpen then s.confirmClose bk else s

/-- The inlet delta (R137 step 3, R141): the hard load is tested before the swap (log 42). -/
def State.takeInlet (s : State) (d : Grams) : State :=
  match s.condensing with
  | none => s
  | some bk =>
    let s := s.onBank bk fun x => { x with load := x.load + d }
    ((s.setPendingIf bk (s.loadTrigger bk)).hardTest bk).swapTest

/-- A nonzero drain delta of the present opening sets seen nonzero (R145). -/
def Bank.takeDelta (x : Bank) (d : Grams) : Bank :=
  { x with
    drained := x.drained + d
    seenNonzero := x.seenNonzero || (d != 0 && x.state == .drain && !x.drainEnded) }

/-- The drain delta (R145, R103).  The drained total grows before the vessel is booked (log 42). -/
def State.takeDrain (s : State) (d : Grams) : State :=
  match s.drainHolder with
  | none =>
    if d = 0 then s
    else
      s.raise .unattributedDrain
        (match s.condenser.lastDrainBank with
          | some bk => .bank bk
          | none => .node .condenser) (one d)
  | some bk =>
    let s := s.onBank bk fun x => x.takeDelta d
    if d = 0 then
      if (s.bank bk).mayEnd && (s.bank bk).seenNonzero then s.endOpening bk else s
    else
      match (s.bank bk).drainSlot with
      | some k => s.bookVessel k d
      | none => s

/-- What a condenser answer's quantities do, in the order of R137. -/
def State.takeCondenserReadings (s : State) (a : CondenserAnswer) : State :=
  let s := s.onBank .a fun x => { x with temperature := some a.bankA.temperature }
  let s := s.onBank .b fun x => { x with temperature := some a.bankB.temperature }
  let s := (s.takeBank .a a.bankA).takeBank .b a.bankB
  (s.takeInlet a.inlet).takeDrain a.drain

/-! ## Expiries -/

/-- The cool deadline passes (R138). -/
def State.coolTimedOut (s : State) (bk : BankId) : State :=
  let s := s.raise .bankCoolTimeout (.bank bk) (one (s.temperatureDetail bk))
  (s.orderBank (.refrigerationStop bk)).onBank bk fun x =>
    { x with state := .faulted, coolDeadline := none }

/-- The condensing time reaches bank-max-time (R141). -/
def State.maxTimeReached (s : State) (bk : BankId) : State := (s.setPendingIf bk true).swapTest

/-- The defrost deadline passes (R143). -/
def State.overrunDefrost (s : State) (bk : BankId) : State :=
  (s.onBank bk fun x => { x with overrunRaised := true }).raise .defrostOverrun (.bank bk)
    (one (s.temperatureDetail bk))

/-! ## The line's entry to RUN (R138) and the resets (R156, R157) -/

def State.startBank (s : State) (bk : BankId) : State :=
  if (s.bank bk).state == .warm then s.enterCooling bk else s

/-- The first entry to RUN after a power-on reset, bank A first (R138; log 15). -/
def State.startCondenser (s : State) : State :=
  if s.condenser.started then s
  else
    let s : State := { s with condenser := { s.condenser with started := true } }
    forAll bankIds s State.startBank

/-- A drain tested afresh at a reset: a bank that finds no vessel closes its valve (R156, R157;
log 27). -/
def State.redrain (s : State) (bk : BankId) : State :=
  let s := (s.onBank bk fun x => { x with paused := false, waitSince := none }).testDrain bk
  if (s.bank bk).state == .drainWait && (s.bank bk).drainOpened then s.closeDrain bk else s

/-- A bank's reset action (R156). -/
def State.resetBank (s : State) (bk : BankId) : State :=
  match (s.bank bk).state with
  | .defrost =>
    if (s.bank bk).paused then
      (s.orderBank (.heaterOn bk)).onBank bk fun x =>
        { x with
          paused := false
          defrostDeadline := some (s.now + x.defrostRemaining.getD 0)
          defrostRemaining := none }
    else s
  | .drain => if (s.bank bk).drainEnded then s else s.redrain bk
  | .drainWait => s.retestDrain bk
  | .warm => if s.condenser.started then s.enterCooling bk else s
  | .cold => s.tryCondense bk
  | .cooling | .condensing | .faulted => s

/-- The banks in the order of their reset actions: those that do not wait, bank A before bank B, and then
those in DRAIN_WAIT as R144 orders them (R156; log 28). -/
def State.resetOrder (s : State) : List BankId :=
  (bankIds.filter fun bk => (s.bank bk).state != .drainWait) ++
    s.waitOrder.filter fun bk => (s.bank bk).state == .drainWait

/-- The Condenser's reset actions: both drain slots go, each bank acts, and the swap test is made
(R156; log 28). -/
def State.resetCondenser (s : State) : State :=
  (forAll s.resetOrder (forAll bankIds s State.dropDrainSlot) State.resetBank).swapTest

/-- A clear reset empties every bank's window first (R157). -/
def State.emptyWindows (s : State) : State :=
  forAll bankIds s fun s bk => s.onBank bk fun x => { x with window := [] }

/-! ## Commands -/

/-- BANK-SERVICE (R151). -/
def doBankService (bk : BankId) (s : State) : State :=
  if (s.bank bk).state != .faulted || (s.bank bk).drainSlot.isSome then
    s.send [noLine .bankService .wrongState]
  else if s.isSilent .condenser then s.send [noLine .bankService .nodeSilent]
  else
    let s := (s.onBank bk fun x => { x with faultAfterDrain := false }).enterWarm bk
    s.send [okLine .bankService
      (field "bank" (ascii (bankWord bk)) ++
        field "state" (ascii (bankStateWord (s.bank bk).state)))]

/-- SWAP-BANKS (R152). -/
def doSwapBanks (s : State) : State :=
  match s.condensing with
  | none => s.send [noLine .swapBanks .wrongState]
  | some bk =>
    let s := ((s.setPendingIf bk true).hardTest bk).swapTest
    s.send [okLine .swapBanks
      (field "bank" (ascii (bankWord bk)) ++
        field "swapped" (yesNo ((s.bank bk).state != .condensing)))]

/-- The fields of a bank's BANK line (R153, R198).  A negative temperature has a leading minus sign
(log 49). -/
def State.bankFields (s : State) (bk : BankId) : Text :=
  let x := s.bank bk
  field "bank" (ascii (bankWord bk)) ++ field "state" (ascii (bankStateWord x.state)) ++
    optField "temp" (x.temperature.map intText) ++ field "load" (numText x.load) ++
    (if x.state == .condensing then
      field "time" (numText (x.condensingTime / 1000)) ++ field "swap" (yesNo x.swapPending)
    else []) ++
    listField "window" (x.window.map fun w => numText w.tag) ++
    field "drained" (numText x.drained) ++ optField "drain-slot" (x.drainSlot.map slotText) ++
    field "fault-after" (yesNo x.faultAfterDrain) ++ field "paused" (yesNo x.paused)

/-- QUERY-CONDENSER (R153). -/
def doQueryCondenser (bk : BankId) (s : State) : State :=
  s.send [okLine .queryCondenser (s.bankFields bk)]

end Sys2Proof.Machine
end

