-- ==== Sys2Proof/Machine/Operands.lean ====
section
/-!
DEFINITION. The text of a received line: its check and fields (R183, R184), the command it spells, the
row of a signature load it spells (R45), and the line that spells a command.
-/

namespace Sys2Proof.Machine

/-! ## The check (R183, test 2) -/

/-- The bytes of received characters; none where one has a framing error (R182). -/
def rxBytes : List RxChar → Option Text
  | [] => some []
  | .byte b :: cs => (rxBytes cs).map (b :: ·)
  | .framingError :: _ => none

/-- The characters before the `#`, where the line ends in `#` and the check taken over them. -/
def checkedBody (t : Text) : Option Text :=
  match t.reverse with
  | d4 :: d3 :: d2 :: d1 :: hash :: body =>
    if hash == chHash && [d1, d2, d3, d4] == hex4 (crc body.reverse) then some body.reverse else none
  | _ => none

/-- The checked characters of a line (R183, test 2).  A framing error fails the check (log 30). -/
def lineBody (l : Line) : Option Text := (rxBytes l.chars).bind checkedBody

/-! ## Fields (R184) -/

/-- The pieces of a text between separators: one more than there are separators. -/
def splitAt (sep : Byte) : Text → List Text
  | [] => [[]]
  | c :: cs =>
    if c == sep then [] :: splitAt sep cs
    else
      match splitAt sep cs with
      | [] => [[c]]
      | p :: ps => (c :: p) :: ps

/-- A field: a name and a value. -/
structure LineField where
  name : Text
  value : Text
  deriving DecidableEq, Repr

/-- A field of the form name, equals sign, value, with neither part empty. -/
def fieldOf (piece : Text) : Option LineField :=
  let name := piece.takeWhile (· != chEquals)
  match piece.dropWhile (· != chEquals) with
  | _ :: value => if name.isEmpty || value.isEmpty then none else some { name := name, value := value }
  | [] => none

/-- The fields of a list of pieces, where each is of the form. -/
def fieldsOf : List Text → Option (List LineField)
  | [] => some []
  | p :: ps =>
    match fieldOf p, fieldsOf ps with
    | some f, some fs => some (f :: fs)
    | _, _ => none

/-- The first word of a line: up to the first space (R183, test 3). -/
def firstWord (body : Text) : Text := body.takeWhile (· != chSpace)

/-- The fields after the first word: each preceded by one space, and then one space before the `#`
(R184; log 30). -/
def lineFields (body : Text) : Option (List LineField) :=
  match body.dropWhile (· != chSpace) with
  | [] => none
  | _ :: rest =>
    let pieces := splitAt chSpace rest
    if pieces.getLast? == some [] then fieldsOf pieces.dropLast else none

/-- The value of a named field. -/
def valueOf (fs : List LineField) (name : String) : Option Text :=
  (fs.find? fun f => f.name == ascii name).map (·.value)

/-- The names are all known, none is given twice, and the required ones are there (R184). -/
def namesFit (fs : List LineField) (required optional : List String) : Bool :=
  let names := fs.map (·.name)
  (names.all fun n => (required ++ optional).any fun k => n == ascii k) &&
    (required.all fun k => names.contains (ascii k)) &&
    (required ++ optional).all fun k => (names.filter fun n => n == ascii k).length ≤ 1

/-! ## Values (R184) -/

/-- The value of a decimal digit. -/
def digitOf (c : Byte) : Option Nat :=
  if 0x30 ≤ c.toNat && c.toNat ≤ 0x39 then some (c.toNat - 0x30) else none

/-- Decimal digits read after the number `n`. -/
def digitsFrom (n : Nat) : Text → Option Nat
  | [] => some n
  | c :: cs =>
    match digitOf c with
    | some d => digitsFrom (n * 10 + d) cs
    | none => none

/-- A number: decimal digits only, from 0 to 4,294,967,295. -/
def numberOf (t : Text) : Option Nat :=
  if t.isEmpty then none
  else
    match digitsFrom 0 t with
    | some n => if n ≤ maxNumber then some n else none
    | none => none

/-- Numbers separated by commas, at least one. -/
def numbersOf : List Text → Option (List Nat)
  | [] => some []
  | p :: ps =>
    match numberOf p, numbersOf ps with
    | some n, some ns => some (n :: ns)
    | _, _ => none

def listOf (t : Text) : Option (List Nat) := numbersOf (splitAt chComma t)

/-- The item whose word a value is. -/
def wordOf {α : Type} (items : List α) (word : α → String) (t : Text) : Option α :=
  items.find? fun x => ascii (word x) == t

def boolOf (yes no : String) (t : Text) : Option Bool :=
  if t == ascii yes then some true else if t == ascii no then some false else none

def refrigerants : List RefrigerantClass := [.none, .cfc, .hcfc, .hfc, .hc, .unknown]
def gases : List GasClass := [.cfc, .hcfc, .hfc, .hc, .unknown]
def vesselClasses : List VesselClass := [.cfc, .hcfc, .hfc, .hc, .mixed, .agent]

def phaseNames : List PhaseName :=
  [.empty, .clamping, .loaded, .pierce, .sampleWait, .sampling, .trainWait, .evacuate, .riseTest,
    .oilDrain, .done, .faulted, .idle, .airlock, .purge, .shred, .clear, .suspended]

def settingNames : List SettingName :=
  [.pierceEmpty, .evacTarget, .evacMax, .riseHold, .riseLimit, .evacAttempts, .oilSettle, .oilMax,
    .purgeO2, .pauseO2, .purgeMax, .lelWarn, .bankSwapLoad, .bankHardLoad, .bankMaxTime, .defrostMax,
    .trainPurge, .holdMax, .discrepancyGrams, .discrepancyPercent]

def commandWords : List CommandWord :=
  [.admitUnit, .queryUnit, .takeClosed, .loadSignatures, .signatureDigest, .clearSignatures,
    .release, .retire, .resume, .setPaths, .trainService, .insertVessel, .closeVessel, .removeVessel,
    .queryVessel, .withdrawFeed, .abortChamber, .swapBanks, .bankService, .queryCondenser, .setMasks,
    .report, .start, .stop, .step, .setWatch, .clearWatch, .status, .setLimit, .getLimit, .reset]

def bankOf (t : Text) : Option BankId := wordOf [.a, .b] bankWord t

/-! ## Reading a command (R183, tests 4 and 5) -/

/-- The fields of a command's Format line: required, then optional.  CLEAR-WATCH's combinations are
R176's. -/
def formatOf : CommandWord → List String × List String
  | .admitUnit => (["tag", "station"], ["refrigerant", "foam"])
  | .queryUnit => (["tag"], ["final"])
  | .takeClosed => (["count"], [])
  | .loadSignatures => (["rows"], [])
  | .release | .retire | .resume => (["station"], [])
  | .setPaths => (["station", "trains"], [])
  | .trainService => (["train", "state"], [])
  | .insertVessel => (["slot", "id", "class", "tare", "initial", "fill"], [])
  | .closeVessel | .removeVessel | .queryVessel => (["slot"], [])
  | .withdrawFeed => (["tag"], [])
  | .bankService | .queryCondenser => (["bank"], [])
  | .setMasks => (["supply", "process", "condenser", "accounting", "operator"], [])
  | .setWatch => (["tag", "phase"], [])
  | .clearWatch => ([], ["tag", "phase", "all"])
  | .setLimit => (["name", "value"], [])
  | .getLimit => (["name"], [])
  | .reset => (["kind"], [])
  | .signatureDigest | .clearSignatures | .abortChamber | .swapBanks | .report | .start | .stop
  | .step | .status => ([], [])

/-- CLEAR-WATCH carries both tag and phase, or all=yes alone (R176).  That all=no is BAD FIELD, and all
with any other word BAD VALUE, is the model's (log 30). -/
def clearWatchFits (fs : List LineField) : Bool :=
  match valueOf fs "tag", valueOf fs "phase", valueOf fs "all" with
  | some _, some _, none => true
  | none, none, some v => v != ascii "no"
  | _, _, _ => false

/-- The fields are well formed and complete for the command (R184). -/
def fieldsFit (w : CommandWord) (fs : List LineField) : Bool :=
  namesFit fs (formatOf w).1 (formatOf w).2 &&
    match w with
    | .clearWatch => clearWatchFits fs
    | _ => true

/-- A number field. -/
def numberIn (fs : List LineField) (name : String) : Option Nat := (valueOf fs name).bind numberOf

/-- An optional field: absent, or parsed. -/
def optionalIn {α : Type} (fs : List LineField) (name : String) (read : Text → Option α) :
    Option (Option α) :=
  match valueOf fs name with
  | none => some none
  | some v => (read v).map some

/-- The five masks of SET-MASKS. -/
def masksIn (fs : List LineField) : Option Masks :=
  let mask (name : String) : Option Bool := (valueOf fs name).bind (boolOf "on" "off")
  match mask "supply", mask "process", mask "condenser", mask "accounting", mask "operator" with
  | some a, some b, some c, some d, some e =>
    some { supply := a, process := b, condenser := c, accounting := d, operator := e }
  | _, _, _, _, _ => none

/-- The fields of INSERT-VESSEL. -/
def vesselIn (fs : List LineField) : Option Command :=
  match numberIn fs "slot", numberIn fs "id",
    (valueOf fs "class").bind (wordOf vesselClasses vesselClassWord), numberIn fs "tare",
    numberIn fs "initial", numberIn fs "fill" with
  | some k, some id, some c, some t, some i, some f => some (.insertVessel k id c t i f)
  | _, _, _, _, _, _ => none

/-- The fields of ADMIT. -/
def admitIn (fs : List LineField) : Option Command :=
  match numberIn fs "tag", numberIn fs "station",
    optionalIn fs "refrigerant" (wordOf refrigerants refrigerantWord),
    optionalIn fs "foam" (wordOf gases gasWord) with
  | some t, some st, some r, some f => some (.admitUnit t st r f)
  | _, _, _, _ => none

/-- The tag and phase of SET-WATCH and CLEAR-WATCH. -/
def watchIn (fs : List LineField) : Option (Nat × PhaseName) :=
  match numberIn fs "tag", (valueOf fs "phase").bind (wordOf phaseNames phaseNameWord) with
  | some t, some p => some (t, p)
  | _, _ => none

/-- The choice of CLEAR-WATCH. -/
def clearWatchIn (fs : List LineField) : Option Command :=
  match valueOf fs "all" with
  | some v => if v == ascii "yes" then some (.clearWatch .all) else none
  | none => (watchIn fs).map fun w => .clearWatch (.entry w.1 w.2)

/-- The command that a word and its fields spell, where each value parses (R184). -/
def commandOf (w : CommandWord) (fs : List LineField) : Option Command :=
  match w with
  | .admitUnit => admitIn fs
  | .queryUnit =>
    match numberIn fs "tag", optionalIn fs "final" (boolOf "yes" "no") with
    | some t, some f => some (.queryUnit t (f.getD false))
    | _, _ => none
  | .takeClosed => (numberIn fs "count").map .takeClosed
  | .loadSignatures => (numberIn fs "rows").map .loadSignatures
  | .signatureDigest => some .signatureDigest
  | .clearSignatures => some .clearSignatures
  | .release => (numberIn fs "station").map .release
  | .retire => (numberIn fs "station").map .retire
  | .resume => (numberIn fs "station").map .resume
  | .setPaths =>
    match numberIn fs "station", (valueOf fs "trains").bind listOf with
    | some st, some ts => some (.setPaths st ts)
    | _, _ => none
  | .trainService =>
    match numberIn fs "train", (valueOf fs "state").bind (boolOf "in" "out") with
    | some t, some x => some (.trainService t x)
    | _, _ => none
  | .insertVessel => vesselIn fs
  | .closeVessel => (numberIn fs "slot").map .closeVessel
  | .removeVessel => (numberIn fs "slot").map .removeVessel
  | .queryVessel => (numberIn fs "slot").map .queryVessel
  | .withdrawFeed => (numberIn fs "tag").map .withdrawFeed
  | .abortChamber => some .abortChamber
  | .swapBanks => some .swapBanks
  | .bankService => ((valueOf fs "bank").bind bankOf).map .bankService
  | .queryCondenser => ((valueOf fs "bank").bind bankOf).map .queryCondenser
  | .setMasks => (masksIn fs).map .setMasks
  | .report => some .report
  | .start => some .start
  | .stop => some .stop
  | .step => some .step
  | .setWatch => (watchIn fs).map fun w => .setWatch w.1 w.2
  | .clearWatch => clearWatchIn fs
  | .status => some .status
  | .setLimit =>
    match (valueOf fs "name").bind (wordOf settingNames settingWord), numberIn fs "value" with
    | some n, some v => some (.setLimit n v)
    | _, _ => none
  | .getLimit => ((valueOf fs "name").bind (wordOf settingNames settingWord)).map .getLimit
  | .reset => ((valueOf fs "kind").bind (wordOf [.line, .clear] resetKindWord)).map .reset

/-- What the tests of R183 make of a line: the reply of the first that fails, or the command. -/
inductive LineReading where
  | framing (reply : FramingReply)
  | command (c : Command)
  deriving DecidableEq, Repr

/-- Tests 3 to 5 of R183 on the checked characters. -/
def readBody (body : Text) : LineReading :=
  match wordOf commandWords commandText (firstWord body) with
  | none => .framing .what
  | some w =>
    match lineFields body with
    | none => .framing .badField
    | some fs =>
      if !fieldsFit w fs then .framing .badField
      else
        match commandOf w fs with
        | none => .framing .badValue
        | some c => .command c

/-- The five tests of R183, in order. -/
def readLine (l : Line) : LineReading :=
  if l.overLength then .framing .badLength
  else
    match lineBody l with
    | none => .framing .badCheck
    | some body => readBody body

/-! ## Reading a row of a load (R45, R198) -/

/-- What a good row of a load writes: an entry made invalid, or a full entry. -/
structure RowEntry where
  index : SignatureId
  entry : Option Signature
  deriving DecidableEq, Repr

/-- A signature index, where it lies in 0 to 15. -/
def signatureOf (n : Nat) : Option SignatureId := if h : n < 16 then some ⟨n, h⟩ else none

/-- A band number, where it lies in 1 to 6. -/
def bandOf (n : Nat) : Option Band :=
  if h : 1 ≤ n ∧ n ≤ 6 then some ⟨n - 1, by omega⟩ else none

/-- A low:high item: neither above 4095, and low not above high. -/
def windowOf (t : Text) : Option BandWindow :=
  match splitAt chColon t with
  | [l, h] =>
    match numberOf l, numberOf h with
    | some l, some h => if l ≤ h && h ≤ 4095 then some { low := l, high := h } else none
    | _, _ => none
  | _ => none

/-- The items of a list field; an absent field is the empty list. -/
def itemsIn (fs : List LineField) (name : String) : List Text :=
  match valueOf fs name with
  | none => []
  | some v => splitAt chComma v

/-- Pair bands with windows, in the order in which the row lists them; none where an item is bad, a band
is named twice, or the lists differ in length (R45, R198). -/
def pairWindows (ws : Vector (Option BandWindow) 6) :
    List Text → List Text → Option (Vector (Option BandWindow) 6)
  | [], [] => some ws
  | b :: bs, w :: rest =>
    match (numberOf b).bind bandOf, windowOf w with
    | some i, some x =>
      if (ws.get i).isSome then none else pairWindows (ws.set i.val (some x) i.isLt) bs rest
    | _, _ => none
  | _, _ => none

/-- A full row's entry. -/
def fullEntry (fs : List LineField) : Option Signature :=
  match (valueOf fs "class").bind (wordOf gases gasWord),
    pairWindows (Vector.replicate 6 none) (itemsIn fs "bands") (itemsIn fs "windows"),
    (valueOf fs "invert").bind (boolOf "yes" "no") with
  | some c, some ws, some inv => some { cls := c, windows := ws, invert := inv }
  | _, _, _ => none

/-- A row's fields, read as an invalidating row or a full row (R45; an unknown or repeated field makes
the row invalid, log 30). -/
def rowOf (fs : List LineField) : Option RowEntry :=
  match (numberIn fs "index").bind signatureOf, optionalIn fs "valid" (boolOf "yes" "no") with
  | some i, some (some false) =>
    if namesFit fs ["index", "valid"] [] then some { index := i, entry := none } else none
  | some i, some _ =>
    if namesFit fs ["index", "class", "invert"] ["valid", "bands", "windows"] then
      (fullEntry fs).map fun e => { index := i, entry := some e }
    else none
  | _, _ => none

/-- A completed line read as a row of a load: none where the row is invalid (R45). -/
def readRow (l : Line) : Option RowEntry :=
  if l.overLength then none
  else
    match lineBody l with
    | none => none
    | some body =>
      if firstWord body == ascii "SIG" then (lineFields body).bind rowOf else none

/-! ## The line that spells a command -/

/-- A number field of a command line. -/
def numField (name : String) (n : Nat) : Text := field name (numText n)

/-- A word field of a command line. -/
def wordField (name value : String) : Text := field name (ascii value)

/-- The word of a command. -/
def wordFor : Command → CommandWord
  | .admitUnit .. => .admitUnit
  | .queryUnit .. => .queryUnit
  | .takeClosed _ => .takeClosed
  | .loadSignatures _ => .loadSignatures
  | .signatureDigest => .signatureDigest
  | .clearSignatures => .clearSignatures
  | .release _ => .release
  | .retire _ => .retire
  | .resume _ => .resume
  | .setPaths .. => .setPaths
  | .trainService .. => .trainService
  | .insertVessel .. => .insertVessel
  | .closeVessel _ => .closeVessel
  | .removeVessel _ => .removeVessel
  | .queryVessel _ => .queryVessel
  | .withdrawFeed _ => .withdrawFeed
  | .abortChamber => .abortChamber
  | .bankService _ => .bankService
  | .swapBanks => .swapBanks
  | .queryCondenser _ => .queryCondenser
  | .setMasks _ => .setMasks
  | .report => .report
  | .start => .start
  | .stop => .stop
  | .step => .step
  | .setWatch .. => .setWatch
  | .clearWatch _ => .clearWatch
  | .status => .status
  | .setLimit .. => .setLimit
  | .getLimit _ => .getLimit
  | .reset _ => .reset

/-- The fields of a command, in the order of its Format line. -/
def commandFields : Command → Text
  | .admitUnit tag station r f =>
    numField "tag" tag ++ numField "station" station ++
      optField "refrigerant" (r.map fun c => ascii (refrigerantWord c)) ++
      optField "foam" (f.map fun c => ascii (gasWord c))
  | .queryUnit tag final => numField "tag" tag ++ (if final then wordField "final" "yes" else [])
  | .takeClosed count => numField "count" count
  | .loadSignatures rows => numField "rows" rows
  | .release station | .retire station | .resume station => numField "station" station
  | .setPaths station trains =>
    numField "station" station ++ listField "trains" (trains.map numText)
  | .trainService train x => numField "train" train ++ field "state" (inOut x)
  | .insertVessel slot id cls tare initial fill =>
    numField "slot" slot ++ numField "id" id ++ wordField "class" (vesselClassWord cls) ++
      numField "tare" tare ++ numField "initial" initial ++ numField "fill" fill
  | .closeVessel slot | .removeVessel slot | .queryVessel slot => numField "slot" slot
  | .withdrawFeed tag => numField "tag" tag
  | .bankService bk | .queryCondenser bk => wordField "bank" (bankWord bk)
  | .setMasks m =>
    field "supply" (onOff m.supply) ++ field "process" (onOff m.process) ++
      field "condenser" (onOff m.condenser) ++ field "accounting" (onOff m.accounting) ++
      field "operator" (onOff m.operator)
  | .setWatch tag phase => numField "tag" tag ++ wordField "phase" (phaseNameWord phase)
  | .clearWatch (.entry tag phase) =>
    numField "tag" tag ++ wordField "phase" (phaseNameWord phase)
  | .clearWatch .all => wordField "all" "yes"
  | .setLimit name value => wordField "name" (settingWord name) ++ numField "value" value
  | .getLimit name => wordField "name" (settingWord name)
  | .reset kind => wordField "kind" (resetKindWord kind)
  | .signatureDigest | .clearSignatures | .abortChamber | .swapBanks | .report | .start | .stop
  | .step | .status => []

/-- The characters of a command line before its `#`. -/
def commandBody (c : Command) : Text :=
  ascii (commandText (wordFor c)) ++ commandFields c ++ [chSpace]

/-- A received line of characters, cut at 400 with the over-length mark (R182). -/
def assembled (chars : List RxChar) : Line where
  chars := chars.take Config.lineLimit
  overLength := Config.lineLimit < chars.length

/-- The line that spells a command, as the plant controller sends it (R184). -/
def commandLine (c : Command) : Line :=
  assembled ((commandBody c ++ chHash :: hex4 (crc (commandBody c))).map RxChar.byte)

end Sys2Proof.Machine
end

