-- ==== Sys2Proof/Machine/Classifier.lean ====
section
/-!
DEFINITION. The Classifier (spec/02_gas_classification.md): the scan of the signature table, the
effective class, the analyser queue and grant, and the table's digest and clearing.  The sample cycle's
orders stand in Sampling.lean, behind the stations' phases.
-/

namespace Sys2Proof.Machine

/-! ## Matching (R30, R31) -/

/-- The window test on one band: true for a band that is not enabled. -/
def bandInside (w : Option BandWindow) (reading : Nat) : Bool :=
  match w with
  | none => true
  | some w => w.low ≤ reading && reading ≤ w.high

/-- The window test over the enabled bands (R30). -/
def Signature.windowTest (e : Signature) (readings : Vector Nat 6) : Bool :=
  bandIds.all fun i => bandInside (e.windows.get i) (readings.get i)

/-- A valid entry matches a sample (R30). -/
def Signature.matchesSample (e : Signature) (readings : Vector Nat 6) : Bool :=
  e.windowTest readings != e.invert

/-- An entry of the table is valid and matches. -/
def entryMatches (e : Option Signature) (readings : Vector Nat 6) : Bool :=
  match e with
  | some e => e.matchesSample readings
  | none => false

/-- The scan: the first matching entry in ascending index order (R31). -/
def Classifier.scan (c : Classifier) (readings : Vector Nat 6) : Option SignatureId :=
  signatureIds.find? fun i => entryMatches (c.table.get i) readings

/-- The measured class that a scan gives (R31). -/
def Classifier.measured (c : Classifier) (hit : Option SignatureId) : RefrigerantClass :=
  match hit.bind fun i => c.table.get i with
  | some e => gasRefrigerant e.cls
  | none => .unknown

/-- The effective class of a sampled unit, and whether declared and measured class disagree (R42). -/
def effectiveClass (declared : Option RefrigerantClass) (measured : RefrigerantClass) :
    RefrigerantClass × Bool :=
  if measured == .unknown then (.unknown, false)
  else
    match declared with
    | none => (measured, false)
    | some d => if d == measured then (measured, false) else (.unknown, true)

/-- The classification fields that a sample writes (R3, R36, R37). -/
def UnitRecord.classify (r : UnitRecord) (measured : RefrigerantClass)
    (bands : Option (Vector Nat 6)) (hit : Option SignatureId) : UnitRecord :=
  let e := effectiveClass r.refrigerant measured
  { r with
    measured := some measured
    bands := bands
    signature := hit
    effective := some e.1
    flags := { r.flags with classDisagree := r.flags.classDisagree || e.2 } }

/-- The condition that R42 names for a sample, with the station as origin and the tag as detail. -/
def State.raiseClass (s : State) (i : StationId) (tag : Tag)
    (declared : Option RefrigerantClass) (measured : RefrigerantClass) : State :=
  if measured == .unknown then s.raise .classUnknown (.station i) (one tag)
  else if (effectiveClass declared measured).2 then
    s.raise .classDisagree (.station i) (one tag)
  else s

/-- A sample's classification of a unit, with its condition (R36 step 3, R37). -/
def State.classifyUnit (s : State) (i : StationId) (tag : Tag) (measured : RefrigerantClass)
    (bands : Option (Vector Nat 6)) (hit : Option SignatureId) : State :=
  match s.findUnit tag with
  | none => s
  | some r =>
    (s.onUnit tag fun r => r.classify measured bands hit).raiseClass i tag r.refrigerant measured

/-! ## The queue and the grant (R32, R34) -/

/-- The cycle of a grant: OPENING, both marks no (R34). -/
def SampleCycle.begin (i : StationId) (tag : Tag) (openOrder : Nat) : SampleCycle where
  stage := .opening
  station := i
  tag := tag
  outstanding := false
  abandoned := false
  openOrder := some openOrder
  sampleOrder := none
  closeOrder := none
  closeDone := false
  blocked := false

/-- The analyser is granted to the head of the queue where the conditions of R34 hold. -/
def State.grantAnalyser (s : State) : State :=
  match s.classifier.cycle, s.classifier.queue with
  | none, i :: rest =>
    if s.running && !s.isSilent .analyser then
      let tag := (s.station i).unit.getD 0
      let n := s.orderNumber
      let s := (s.setQueue rest).orderSampleValve i true
      (s.setCycle (some (SampleCycle.begin i tag n))).enterPhase i .sampling
    else s
  | _, _ => s

/-- A station joins the tail of the queue (R32, R55). -/
def State.joinQueue (s : State) (i : StationId) : State :=
  (s.setQueue
    (if s.classifier.queue.contains i then s.classifier.queue else s.classifier.queue ++ [i]))
    |>.grantAnalyser

/-! ## The table's text (R198, R47) -/

/-- The enabled bands of an entry, ascending. -/
def Signature.bandTexts (e : Signature) : List Text :=
  bandIds.filterMap fun i => (e.windows.get i).map fun _ => numText (i.val + 1)

def Signature.windowTexts (e : Signature) : List Text :=
  bandIds.filterMap fun i =>
    (e.windows.get i).map fun w => compound [numText w.low, numText w.high]

/-- The canonical SIG line of an entry, without a check (R198). -/
def signatureLine (i : SignatureId) (e : Option Signature) : Text :=
  let head := ascii "SIG" ++ field "index" (numText i.val)
  match e with
  | none => head ++ field "valid" (yesNo false)
  | some e =>
    head ++ field "valid" (yesNo true) ++ field "class" (ascii (gasWord e.cls)) ++
      (if e.bandTexts.isEmpty then []
        else listField "bands" e.bandTexts ++ listField "windows" e.windowTexts) ++
      field "invert" (yesNo e.invert)

/-- The text over which SIGNATURE-DIGEST is taken: every entry's line and one LF (R47). -/
def Classifier.tableText (c : Classifier) : Text :=
  signatureIds.flatMap fun i => signatureLine i (c.table.get i) ++ [chLF]

def Classifier.validCount (c : Classifier) : Nat :=
  (signatureIds.filter fun i => (c.table.get i).isSome).length

/-- SIGNATURE-DIGEST (R47). -/
def doSignatureDigest (s : State) : State :=
  s.send [okLine .signatureDigest
    (field "valid" (numText s.classifier.validCount) ++
      field "digest" (hex4 (crc s.classifier.tableText)))]

/-- Any station is in SAMPLING (R44, R48). -/
def State.anySampling (s : State) : Bool :=
  stationIds.any fun i => (s.station i).phase == .sampling

/-- CLEAR-SIGNATURES (R48). -/
def doClearSignatures (s : State) : State :=
  if s.control.line != .stopped || s.anySampling then s.send [noLine .clearSignatures .wrongState]
  else
    let s : State :=
      { s with classifier := { s.classifier with table := Vector.replicate 16 none } }
    s.send [okLine .clearSignatures []]

/-- LOAD-SIGNATURES opens a load, and then no reply is sent (R44). -/
def doLoadSignatures (rows : Nat) (s : State) : State :=
  if !(1 ≤ rows && rows ≤ 16) then s.send [noLine .loadSignatures .range]
  else if s.control.line != .stopped || s.anySampling then
    s.send [noLine .loadSignatures .wrongState]
  else s.setLink (.loading { expected := rows, badRow := false, lastRow := none })

end Sys2Proof.Machine
end

