-- ==== Sys2Proof/Machine/Phases.lean ====
section
/-!
DEFINITION. The phases of a station (spec/03_evacuation_stations.md): permission and boundaries (R50),
what each phase does when it begins, the completion of the station's orders, what an answer's readings
do, silence, and the commands ADMIT, RETIRE and RESUME.
-/

namespace Sys2Proof.Machine

/-! ## Beginning a phase (R50) -/

/-- A station begins PIERCE (R53). -/
def State.beginPierce (s : State) (i : StationId) : State :=
  let s := s.enterPhase i .pierce
  (s.orderStation i .pierce).onStation i fun x =>
    { x with workOrder := some s.orderNumber, pierceDone := false }

/-- A station begins TRAIN_WAIT with a new request (R56). -/
def State.beginTrainWait (s : State) (i : StationId) : State :=
  let s := s.enterPhase i .trainWait
  (s.onStation i fun x => { x with requestTime := some s.now, clock := 0 }).joinRequests i s.now

/-- A station begins RISE_TEST from a boundary: the rise entry is yet to be taken (R63). -/
def State.beginRiseTest (s : State) (i : StationId) : State :=
  (s.enterPhase i .riseTest).onStation i fun x =>
    { x with riseEntry := none, holdEnd := some (s.now + seconds s.limits.riseHold) }

/-- A station begins OIL_DRAIN (R65). -/
def State.beginOilDrain (s : State) (i : StationId) : State :=
  let s := s.enterPhase i .oilDrain
  (s.orderStation i (.drainValve true)).onStation i fun x =>
    { x with drainOrder := some s.orderNumber }

/-- A station that has permission begins a phase, spending its credit (R50, R172).  Only five phases are
begun so. -/
def State.beginPhase (s : State) (i : StationId) (p : StationPhase) : State :=
  let s := s.spendCredit i
  match p with
  | .pierce => s.beginPierce i
  | .sampleWait => (s.enterPhase i .sampleWait).joinQueue i
  | .trainWait => s.beginTrainWait i
  | .riseTest => s.beginRiseTest i
  | .oilDrain => s.beginOilDrain i
  | .empty | .clamping | .loaded | .sampling | .evacuate | .done | .faulted => s

/-- A station tests for permission: at a boundary, in LOADED, or in a suspended EVACUATE (R50, R75). -/
def State.testStation (s : State) (i : StationId) : State :=
  if s.stationMay i then
    match (s.station i).nextPhase with
    | some p => s.beginPhase i p
    | none =>
      match (s.station i).phase with
      | .loaded => s.beginPhase i .pierce
      | .evacuate =>
        if (s.station i).suspended then (s.spendCredit i).clearSuspension i else s
      | _ => s
  else s

/-- A phase ends: the station stands at the boundary and tests for permission there (R50). -/
def State.endPhase (s : State) (i : StationId) (p : StationPhase) : State :=
  (s.onStation i fun x => { x with nextPhase := some p }).testStation i

/-- A station enters LOADED and tests for permission (R52). -/
def State.enterLoaded (s : State) (i : StationId) : State :=
  (s.enterPhase i .loaded).testStation i

/-- A station enters CLAMPING and orders CLAMP (R52). -/
def State.enterClamping (s : State) (i : StationId) : State :=
  let s := s.enterPhase i .clamping
  (s.orderStation i .clamp).onStation i fun x => { x with workOrder := some s.orderNumber }

/-! ## The station's orders -/

/-- CLAMP, PIERCE or UNCLAMP reported DONE (R52, R53, R71).  While HALTED a clamp does not move the
station on (R76). -/
def State.workDone (s : State) (i : StationId) (kind : OrderKind) : State :=
  match kind with
  | .clamp =>
    let s := s.onStation i fun x => { x with workOrder := none }
    if (s.station i).phase == .clamping && !s.halted then s.enterLoaded i else s
  | .pierce =>
    s.onStation i fun x => { x with workOrder := none, pierceDone := x.phase == .pierce }
  | .unclamp => s.emptyStation i
  | _ => s

/-- EVAC_VALVE reported DONE (R58). -/
def State.evacDone (s : State) (i : StationId) : State :=
  match (s.station i).evacValve with
  | .opening => s.onStation i fun x => { x with evacValve := .opened, evacOrder := none }
  | .closing =>
    (s.onStation i fun x => { x with evacValve := .closed, evacOrder := none }).openEvac i
  | _ => s

/-- DRAIN_VALVE reported DONE: the open takes the reference and the deadline, the close ends the phase
(R65, R66).  `oil` is the oil scale reading of the answer that reported it. -/
def State.drainDone (s : State) (i : StationId) (toOpen : Bool) (oil : Grams) : State :=
  let s := s.onStation i fun x => { x with drainOrder := none }
  if (s.station i).phase != .oilDrain || s.halted then s
  else if toOpen then
    s.onStation i fun x =>
      { x with
        oilReference := some oil
        oilDeadline := some (s.now + seconds s.limits.oilMax)
        oilReadings := [{ moment := s.now, grams := oil }] }
  else s.enterPhase i .done

/-- An order of the Station Controller reported DONE in an answer with this oil scale reading. -/
def State.stationOrderDone (s : State) (i : StationId) (o : Order) (oil : Grams) : State :=
  let s := s.onStation i fun x => x.closedByOrder o.number
  let x := s.station i
  match o.kind with
  | .clamp | .pierce | .unclamp =>
    if x.workOrder == some o.number then s.workDone i o.kind else s
  | .evacValve _ => if x.evacOrder == some o.number then s.evacDone i else s
  | .drainValve toOpen =>
    if x.drainOrder == some o.number then s.drainDone i toOpen oil else s
  | _ => s

/-- An order closes a valve. -/
def OrderKind.isClose : OrderKind → Bool
  | .evacValve toOpen => !toOpen
  | .drainValve toOpen => !toOpen
  | .sampleValve toOpen => !toOpen
  | _ => false

/-- The order is one that the station awaits: its failure faults the station (R52, R53, R58, R65, R66).
While HALTED every close does so (R76; log 35). -/
def State.awaited (s : State) (i : StationId) (o : Order) : Bool :=
  let x := s.station i
  x.workOrder == some o.number || x.evacOrder == some o.number || x.drainOrder == some o.number
    || (s.halted && o.kind.isClose)

/-- An order of the Station Controller failed (R52 to R66, R69, R71, R76). -/
def State.stationOrderFailed (s : State) (i : StationId) (o : Order) : State :=
  let s := s.onStation i fun x => x.closeFailed o.number
  if o.kind == .unclamp then
    if (s.station i).workOrder == some o.number then s.unclampFailed i else s
  else if (s.station i).phase == .empty || (s.station i).phase == .faulted then s
  else if s.awaited i o then s.failStation i
  else s

/-! ## A station answer's readings (R53 to R66) -/

/-- The reading of R54 ends PIERCE. -/
def State.readPierce (s : State) (i : StationId) (pressure : Nat) : State :=
  let s := s.onStation i fun x => { x with pierceDone := false }
  if pressure < s.limits.pierceEmpty then
    (s.onStationUnit i fun r =>
      { r with measured := some .none, effective := some .none }).endPhase i .oilDrain
  else s.endPhase i .sampleWait

/-- An evacuation reaches its target (R59). -/
def State.reachTarget (s : State) (i : StationId) (pressure : Nat) : State :=
  let s := (s.closeEvac i).tailFor i
  let s := s.onStation i fun x =>
    { x with
      riseEntry := some pressure
      holdEnd := some (s.now + seconds s.limits.riseHold) }
  s.enterPhase i .riseTest

/-- The rise test ends with a latched pressure (R63, R64). -/
def State.latchRise (s : State) (i : StationId) (entry pressure : Nat) : State :=
  let s := s.onStationUnit i fun r => { r with rise := some pressure }
  let s := s.onStation i fun x => { x with riseEntry := none, holdEnd := none }
  let rise : Int := (pressure : Int) - (entry : Int)
  let evacuations :=
    match (s.station i).unit.bind s.findUnit with
    | some r => r.evacuations
    | none => 0
  if rise ≤ (s.limits.riseLimit : Int) then s.endPhase i .oilDrain
  else if evacuations < s.limits.evacAttempts then s.endPhase i .trainWait
  else
    let s := s.onStationUnit i fun r => { r with flags := { r.flags with leakSuspect := true } }
    (s.raise .riseFailed (.station i) (one rise)).endPhase i .oilDrain

/-- A reading in RISE_TEST: the rise entry where it is yet to be taken, and the end at or after the hold
end (R63). -/
def State.readRise (s : State) (i : StationId) (pressure : Nat) : State :=
  let entry := (s.station i).riseEntry.getD pressure
  let s := s.onStation i fun x => { x with riseEntry := some entry }
  match (s.station i).holdEnd with
  | some h => if h ≤ s.now then s.latchRise i entry pressure else s
  | none => s

/-- A reading of the oil scale while the drain valve is open (R66). -/
def State.readOil (s : State) (i : StationId) (oil : Grams) : State :=
  let kept := pruneReadings s.now (s.station i).oilReadings
  let s' := s.onStation i fun x =>
    { x with oilReadings := kept ++ [{ moment := s.now, grams := oil }] }
  if settled s.now s.limits.oilSettle kept oil then s'.endDrain i else s'

/-- What an answer's pressure and oil reading do, by the phase in which the answer found the station:
`before` is the station before the answer's order reports (log 21).  A frozen station acts on no reading
(R76). -/
def State.takeStationReadings (s : State) (i : StationId) (before : Station) (a : StationAnswer) :
    State :=
  let x := s.station i
  if s.halted || x.atBoundary then s
  else
    match x.phase with
    | .pierce => if x.pierceDone && before.pierceDone then s.readPierce i a.pressure else s
    | .evacuate =>
      if x.evacValve == .opened && !x.suspended && !x.awaitingVessel
          && a.pressure ≤ s.limits.evacTarget then
        s.reachTarget i a.pressure
      else s
    | .riseTest => if before.phase == .riseTest then s.readRise i a.pressure else s
    | .oilDrain =>
      if x.oilReference.isSome && before.oilReference.isSome then s.readOil i a.oil else s
    | _ => s

/-! ## Silence (R68) -/

/-- The phase waits on answers, so silence faults the station (R68). -/
def Station.waitsOnAnswers (x : Station) : Bool :=
  !x.atBoundary &&
    match x.phase with
    | .evacuate | .riseTest | .oilDrain => true
    | .pierce => x.pierceDone
    | _ => false

/-- The silence of a station's node, after its orders have failed (R68). -/
def State.stationSilent (s : State) (i : StationId) : State :=
  if !s.halted && (s.station i).waitsOnAnswers then s.failStation i else s

/-! ## Expiries -/

/-- The evacuation clock reaches evac-max (R60). -/
def State.evacOvertime (s : State) (i : StationId) : State :=
  let tag := (s.station i).unit.getD 0
  (s.raise .evacOvertime (.station i) (one tag)).faultStation i (.phase .evacuate) true

/-! ## A line reset (R77) -/

/-- A station at a line reset.  A watched FAULTED that it enters here is a hit (R175; log 28). -/
def State.resetStation (s : State) (i : StationId) : State :=
  let x := s.station i
  let s :=
    if x.phase == .faulted then s.closeValves i
    else if x.unit.isSome then s.faultStation i (.phase x.workPhase) false
    else s
  s.dropTrain i

/-! ## ADMIT, RETIRE, RESUME -/

/-- ADMIT (R15, R16). -/
def doAdmit (tag station : Nat) (refrigerant : Option RefrigerantClass) (foam : Option GasClass)
    (s : State) : State :=
  match stationOf station with
  | none => s.send [noLine .admitUnit .range]
  | some i =>
    if tag = 0 then s.send [noLine .admitUnit .range]
    else if (s.findInRegister tag).isSome then s.send [noLine .admitUnit .duplicate]
    else if Config.registerSize ≤ s.registerCount then s.send [noLine .admitUnit .full]
    else if (s.station i).phase != .empty then s.send [noLine .admitUnit .stationBusy]
    else if s.isSilent (.station i) then s.send [noLine .admitUnit .nodeSilent]
    else if s.halted then s.send [noLine .admitUnit .lineHalted]
    else
      let s := s.addUnit (UnitRecord.create tag i refrigerant foam)
      let s := (s.onStation i fun x => { x with unit := some tag }).enterClamping i
      s.send [okLine .admitUnit (field "tag" (numText tag) ++ field "station" (stationText i))]

/-- The second condition of R72: a RETIRE in a wrong state. -/
def Station.retireBlocked (x : Station) : Bool :=
  !(x.phase == .done || x.phase == .faulted) || (x.phase == .done && x.unit.isNone)
    || x.unclamping || x.train.isSome || !x.isSecured

/-- RETIRE (R72). -/
def doRetire (station : Nat) (s : State) : State :=
  match stationOf station with
  | none => s.send [noLine .retire .range]
  | some i =>
    if (s.station i).retireBlocked then s.send [noLine .retire .wrongState]
    else if s.isSilent (.station i) then s.send [noLine .retire .nodeSilent]
    else
      match (s.station i).unit with
      | some tag =>
        ((s.closeUnit tag .retired).unclamp i).send
          [okLine .retire (field "station" (stationText i) ++ field "tag" (numText tag))]
      | none => (s.unclamp i).send [okLine .retire (field "station" (stationText i))]

/-- A station placed at a boundary by RESUME shows the phase it is to begin (R73). -/
def State.resumeAt (s : State) (i : StationId) (p : StationPhase) : State :=
  (s.onStation i fun x => { x with phase := p }).endPhase i p

/-- Where RESUME places a station, by its faulted phase (R73). -/
def State.resumeFrom (s : State) (i : StationId) (p : StationPhase) : State :=
  match p with
  | .clamping => s.enterClamping i
  | .loaded | .pierce => s.enterLoaded i
  | .sampleWait | .sampling => s.resumeAt i .sampleWait
  | .trainWait | .evacuate => s.resumeAt i .trainWait
  | .riseTest => s.resumeAt i .riseTest
  | .oilDrain => s.resumeAt i .oilDrain
  | .done => s.enterPhase i .done
  | .empty | .faulted => s

/-- The third condition of R73: a RESUME in a wrong state. -/
def Station.resumeBlocked (x : Station) : Bool :=
  x.phase != .faulted || x.unit.isNone || x.train.isSome || !x.isSecured

/-- RESUME (R73). -/
def doResume (station : Nat) (s : State) : State :=
  match stationOf station with
  | none => s.send [noLine .resume .range]
  | some i =>
    if s.halted then s.send [noLine .resume .lineHalted]
    else if (s.station i).resumeBlocked then s.send [noLine .resume .wrongState]
    else if s.isSilent (.station i) then s.send [noLine .resume .nodeSilent]
    else
      let f := (s.station i).faultedPhase
      let s := s.onStationUnit i fun r => { r with faultedPhase := none }
      let s := s.onStation i fun x => { x with faultedPhase := none }
      let s := match f with
        | some (.phase p) => s.resumeFrom i p
        | _ => s
      s.send [okLine .resume (field "station" (stationText i))]

end Sys2Proof.Machine
end

