-- ==== Sys2Proof/Machine/Sampling.lean ====
section
/-!
DEFINITION. The sample cycle (R33 to R39): the completion of its open, sample and close orders, the
blocked manifold, and the writing of a load's rows.
-/

namespace Sys2Proof.Machine

/-- Change the running cycle. -/
def State.onCycle (s : State) (f : SampleCycle → SampleCycle) : State :=
  s.setCycle (s.classifier.cycle.map f)

/-- In CLOSING, with the close done and no sample outstanding, the stage becomes FREE, and R34 is tested
(R38). -/
def State.freeCycle (s : State) : State :=
  match s.classifier.cycle with
  | none => s
  | some c =>
    if c.stage == .closing && c.closeDone && !c.outstanding then (s.setCycle none).grantAnalyser
    else s

/-- The open order reported DONE (R35). -/
def State.sampleOpenDone (s : State) (c : SampleCycle) : State :=
  if c.abandoned then s.onCycle fun c => { c with openOrder := none }
  else
    (s.issue .classifier .analyser .startSample).onCycle fun c =>
      { c with
        openOrder := none
        stage := .measuring
        outstanding := true
        sampleOrder := some s.orderNumber }

/-- The open order failed: the station faults in SAMPLING, and the cycle is abandoned (R35, R55).  A station
that has left SAMPLING stays as it stands (log 43). -/
def State.sampleOpenFailed (s : State) (c : SampleCycle) : State :=
  let s := s.onCycle fun c => { c with openOrder := none }
  if (s.station c.station).phase == .sampling && !(s.station c.station).atBoundary then
    s.faultStation c.station (.phase .sampling) true
  else s

/-- Steps 4 and 5 of R36: the close is ordered, and the end of SAMPLING reported. -/
def State.closeSample (s : State) (c : SampleCycle) : State :=
  let s := (s.orderSampleValve c.station false).onCycle fun c =>
    { c with stage := .closing, closeOrder := some s.orderNumber }
  if (s.station c.station).phase == .sampling && !(s.station c.station).atBoundary then
    s.endPhase c.station .trainWait
  else s

/-- The sample's order is no longer outstanding. -/
def State.sampleOver (s : State) : State :=
  s.onCycle fun c => { c with outstanding := false, sampleOrder := none }

/-- A sample ends with a result (R36). -/
def State.sampleResult (s : State) (c : SampleCycle) (readings : Vector Nat 6) : State :=
  let s := s.sampleOver
  if c.abandoned then s.freeCycle
  else
    let hit := s.classifier.scan readings
    (s.classifyUnit c.station c.tag (s.classifier.measured hit) (some readings) hit).closeSample c

/-- A sample ends without a result (R37). -/
def State.sampleLost (s : State) (c : SampleCycle) : State :=
  let s := s.sampleOver.raise .analyserFault (.node .analyser) (one (c.station.val + 1))
  if c.abandoned then s.freeCycle
  else (s.classifyUnit c.station c.tag .unknown none none).closeSample c

/-- A close that the cycle waits for is done (R38). -/
def State.sampleClosed (s : State) : State :=
  (s.onCycle fun c => { c with closeDone := true, closeOrder := none, blocked := false }).freeCycle

/-- A SAMPLE_VALVE order of a station's node reported DONE, whoever issued it (R35, R38, R39). -/
def State.sampleValveDone (s : State) (i : StationId) (number : Nat) : State :=
  match s.classifier.cycle with
  | none => s
  | some c =>
    if c.station != i then s
    else if c.openOrder == some number then s.sampleOpenDone c
    else if c.closeOrder == some number then s.sampleClosed
    else s

/-- A SAMPLE_VALVE order of a station's node failed; a failed close blocks the manifold (R35, R38).  An
open whose cycle is over has no effect on its station (log 43). -/
def State.sampleValveFailed (s : State) (i : StationId) (number : Nat) : State :=
  match s.classifier.cycle with
  | none => s
  | some c =>
    if c.station != i then s
    else if c.openOrder == some number then s.sampleOpenFailed c
    else if c.closeOrder == some number then
      s.onCycle fun c => { c with closeOrder := none, blocked := true }
    else s

/-- While the manifold is blocked, a station answer that shows the sample valve closed counts as the
close (R38). -/
def State.unblock (s : State) (i : StationId) (sampleOpen : Bool) : State :=
  match s.classifier.cycle with
  | none => s
  | some c => if c.station == i && c.blocked && !sampleOpen then s.sampleClosed else s

/-- START_SAMPLE reported DONE, with or without the fault indication (R36, R37). -/
def State.startSampleDone (s : State) (number : Nat) (a : AnalyserAnswer) : State :=
  match s.classifier.cycle with
  | none => s
  | some c =>
    if c.sampleOrder == some number then
      if a.fault then s.sampleLost c else s.sampleResult c a.bands
    else s

/-- START_SAMPLE failed (R37). -/
def State.startSampleFailed (s : State) (number : Nat) : State :=
  match s.classifier.cycle with
  | none => s
  | some c => if c.sampleOrder == some number then s.sampleLost c else s

/-- The table with one entry replaced. -/
def Classifier.write (c : Classifier) (e : RowEntry) : Classifier :=
  { c with table := c.table.set e.index.val e.entry e.index.isLt }

/-- The load's single reply (R46). -/
def loadReply (l : Load) : Text :=
  if l.badRow then
    sealLine (ascii "NO LOAD-SIGNATURES" ++ field "reason" (ascii (reasonWord .badRow)) ++
      field "last" (match l.lastRow with
        | some i => numText i.val
        | none => ascii "none"))
  else
    okLine .loadSignatures (field "last" (match l.lastRow with
      | some i => numText i.val
      | none => ascii "none"))

/-- One row of a load, parsed or not (R45).  The last row closes the load, and its reply is sent
(R46). -/
def State.takeRow (s : State) (l : Load) (row : Option RowEntry) : State :=
  let s' :=
    match l.badRow, row with
    | false, some e => { s with classifier := s.classifier.write e }
    | _, _ => s
  let l' : Load :=
    { expected := l.expected - 1
      badRow := l.badRow || row.isNone
      lastRow := match l.badRow, row with
        | false, some e => some e.index
        | _, _ => l.lastRow }
  if l'.expected = 0 then (s'.setLink .ready).send [loadReply l'] else s'.setLink (.loading l')

end Sys2Proof.Machine
end

