-- ==== Sys2Proof/Machine/LineControl.lean ====
section
/-!
DEFINITION. Line Control and the Condition Monitor's commands (spec/09_line_control_and_settings.md,
spec/08_conditions.md): the entry to RUN and STEP, credits and the end of a step, START, STOP and STEP,
the watch list, STATUS, the settings, REPORT and SET-MASKS, and the line and clear resets.
-/

namespace Sys2Proof.Machine

/-! ## The entry to RUN or STEP (R169) -/

/-- The blocks answer the line's entry to RUN or STEP: stations in ascending order, the chamber, the
analyser's grant and the grant scan (R50, R121, R34, R84; log 15). -/
def State.lineEntered (s : State) : State :=
  ((forAll stationIds s State.testStation).testChamber.grantAnalyser).grantScan

def State.setLine (s : State) (l : LineState) : State := s.setControl { s.control with line := l }

/-! ## Credits and the end of a step (R172, R173) -/

/-- A station keeps a credit while it holds a unit and stands in neither FAULTED nor DONE (R172). -/
def Station.keepsCredit (x : Station) : Bool :=
  x.unit.isSome && x.phase != .faulted && x.phase != .done

/-- The chamber stands IDLE with an empty feed queue. -/
def Chamber.isIdleEmpty (c : Chamber) : Bool := c.phase == .idle && c.feed.isEmpty

/-- The chamber keeps a credit unless it is FAULTED, or IDLE with an empty feed queue (R172). -/
def Chamber.keepsCredit (c : Chamber) : Bool := c.phase != .faulted && !c.isIdleEmpty

/-- Every credit that R172 would withdraw is withdrawn. -/
def State.withdrawCredits (s : State) : State :=
  s.setControl
    { s.control with
      credits := s.control.credits.filter fun i => (s.station i).keepsCredit
      chamberCredit := s.control.chamberCredit && s.chamber.keepsCredit }

/-- The step ends when no holder holds a credit and every holder is at rest (R173). -/
def State.testStepEnd (s : State) : State :=
  if s.control.line == .step && s.noCredits && s.holdersAtRest then
    s.lineStop.raise .stepDone .line (one 0)
  else s

/-- What is tested at the end of every event: the swap, the withdrawal of credits, and the end of the
step (R142, R172, R173; log 19). -/
def State.settleBlocks (s : State) : State := s.swapTest.withdrawCredits.testStepEnd

/-! ## START, STOP and STEP (R170, R171) -/

def lineField (w : CommandWord) (l : LineState) : Text :=
  okLine w (field "line" (ascii (lineStateWord l)))

/-- START (R170). -/
def doStart (s : State) : State :=
  match s.control.line with
  | .stopped => ((s.setLine .run).lineEntered.startCondenser).send [lineField .start .run]
  | .run => s.send [lineField .start .run]
  | .step => s.send [noLine .start .wrongState]
  | .halted => s.send [noLine .start .lineHalted]

/-- STOP (R170). -/
def doStop (s : State) : State :=
  match s.control.line with
  | .stopped => s.send [lineField .stop .stopped]
  | .run | .step => s.lineStop.send [lineField .stop .stopped]
  | .halted => s.send [noLine .stop .lineHalted]

/-- Credits to each station that holds a unit and is not FAULTED, and to the chamber unless it is IDLE
with an empty feed queue (R171 steps 1 and 2). -/
def State.giveCredits (s : State) : State :=
  let holders := stationIds.filter fun i =>
    (s.station i).unit.isSome && (s.station i).phase != .faulted
  let chamber := !s.chamber.isIdleEmpty
  s.setControl
    { s.control with
      credits := holders, holders := holders, chamberCredit := chamber, chamberHolder := chamber }

/-- The number of credits held. -/
def State.creditCount (s : State) : Nat :=
  s.control.credits.length + if s.control.chamberCredit then 1 else 0

/-- STEP (R171). -/
def doStep (s : State) : State :=
  match s.control.line with
  | .run | .step => s.send [noLine .step .wrongState]
  | .halted => s.send [noLine .step .lineHalted]
  | .stopped =>
    let s := s.giveCredits.withdrawCredits
    let n := s.creditCount
    let s := (s.setLine .step).lineEntered.settleBlocks
    s.send [okLine .step
      (field "line" (ascii (lineStateWord s.control.line)) ++ field "credits" (numText n))]

/-! ## The watch list (R175, R176) -/

/-- The phases that are watch phases (R175). -/
def isWatchPhase : PhaseName → Bool
  | .empty | .idle => false
  | _ => true

/-- SET-WATCH (R175). -/
def doSetWatch (tag : Nat) (phase : PhaseName) (s : State) : State :=
  let w : WatchEntry := { tag := tag, phase := phase }
  if tag = 0 || !isWatchPhase phase then s.send [noLine .setWatch .range]
  else if s.control.watch.contains w then s.send [noLine .setWatch .duplicate]
  else if Config.watchSize ≤ s.control.watch.length then s.send [noLine .setWatch .full]
  else
    let s := s.setControl { s.control with watch := s.control.watch ++ [w] }
    s.send [okLine .setWatch
      (field "tag" (numText tag) ++ field "phase" (ascii (phaseNameWord phase)) ++
        field "count" (numText s.control.watch.length))]

/-- The watch list after a CLEAR-WATCH (R176). -/
def clearedWatch (ws : List WatchEntry) : WatchChoice → List WatchEntry
  | .entry tag phase => ws.filter fun w => w != { tag := tag, phase := phase }
  | .all => []

/-- CLEAR-WATCH (R176). -/
def doClearWatch (which : WatchChoice) (s : State) : State :=
  let left := clearedWatch s.control.watch which
  (s.setControl { s.control with watch := left }).send [okLine .clearWatch
    (field "removed" (numText (s.control.watch.length - left.length)))]

/-! ## STATUS (R177) -/

/-- A station or chamber item: the phase name, the boundary form, or the faulted form. -/
def itemText (phase : String) (next faulted : Option String) : Text :=
  match next, faulted with
  | some n, _ => ascii phase ++ 0x3E#8 :: ascii n
  | none, some f => ascii phase ++ chColon :: ascii f
  | none, none => ascii phase

def Station.item (x : Station) : Text :=
  itemText (stationPhaseWord x.phase) (x.nextPhase.map stationPhaseWord)
    (if x.phase == .faulted then x.faultedPhase.map stationFaultWord else none)

def Chamber.item (c : Chamber) : Text :=
  itemText (chamberPhaseWord c.phase) (c.nextPhase.map chamberPhaseWord)
    (if c.phase == .faulted then c.faultedPhase.map chamberPhaseWord else none)

/-- The test field: the watch list is not empty, or the line is in STEP. -/
def State.testFlag (s : State) : Bool := !s.control.watch.isEmpty || s.control.line == .step

/-- The holders that hold a credit, C for the chamber. -/
def State.creditTexts (s : State) : List Text :=
  (stationIds.filter s.control.credits.contains).map stationText ++
    if s.control.chamberCredit then [ascii "C"] else []

/-- The fields of STATUS, in order, by R177's table; a pending swap is not among them, as R153 says and
R142 does not (log 46). -/
def State.statusFields (s : State) : Text :=
  field "line" (ascii (lineStateWord s.control.line)) ++
    field "test" (yesNo s.testFlag) ++
    field "overflow" (yesNo s.monitor.overflow) ++
    field "units" (numText s.registerCount) ++
    field "closed" (numText s.register.log.length) ++
    field "queue" (numText s.chamber.feed.length) ++
    listField "credits" s.creditTexts ++
    listField "stations" (stationIds.map fun i => (s.station i).item) ++
    listField "trains" (trainIds.map fun t => ascii (trainStateWord (s.train t).state)) ++
    listField "banks" (bankIds.map fun bk => ascii (bankStateWord (s.bank bk).state)) ++
    field "chamber" s.chamber.item

/-- STATUS (R177). -/
def doStatus (s : State) : State := s.send [okLine .status s.statusFields]

/-! ## Settings (R178, R179) -/

def readSetting (c : Settings) : SettingName → Nat
  | .pierceEmpty => c.pierceEmpty
  | .evacTarget => c.evacTarget
  | .evacMax => c.evacMax
  | .riseHold => c.riseHold
  | .riseLimit => c.riseLimit
  | .evacAttempts => c.evacAttempts
  | .oilSettle => c.oilSettle
  | .oilMax => c.oilMax
  | .purgeO2 => c.purgeO2
  | .pauseO2 => c.pauseO2
  | .purgeMax => c.purgeMax
  | .lelWarn => c.lelWarn
  | .bankSwapLoad => c.bankSwapLoad
  | .bankHardLoad => c.bankHardLoad
  | .bankMaxTime => c.bankMaxTime
  | .defrostMax => c.defrostMax
  | .trainPurge => c.trainPurge
  | .holdMax => c.holdMax
  | .discrepancyGrams => c.discrepancyGrams
  | .discrepancyPercent => c.discrepancyPercent

def writeSetting (c : Settings) (name : SettingName) (v : Nat) : Settings :=
  match name with
  | .pierceEmpty => { c with pierceEmpty := v }
  | .evacTarget => { c with evacTarget := v }
  | .evacMax => { c with evacMax := v }
  | .riseHold => { c with riseHold := v }
  | .riseLimit => { c with riseLimit := v }
  | .evacAttempts => { c with evacAttempts := v }
  | .oilSettle => { c with oilSettle := v }
  | .oilMax => { c with oilMax := v }
  | .purgeO2 => { c with purgeO2 := v }
  | .pauseO2 => { c with pauseO2 := v }
  | .purgeMax => { c with purgeMax := v }
  | .lelWarn => { c with lelWarn := v }
  | .bankSwapLoad => { c with bankSwapLoad := v }
  | .bankHardLoad => { c with bankHardLoad := v }
  | .bankMaxTime => { c with bankMaxTime := v }
  | .defrostMax => { c with defrostMax := v }
  | .trainPurge => { c with trainPurge := v }
  | .holdMax => { c with holdMax := v }
  | .discrepancyGrams => { c with discrepancyGrams := v }
  | .discrepancyPercent => { c with discrepancyPercent := v }

/-- The least value a SET-LIMIT of a name would accept (R178, R179). -/
def settingLow (c : Settings) : SettingName → Nat
  | .pierceEmpty => 50
  | .evacTarget => 5
  | .evacMax => 300
  | .riseHold => 30
  | .riseLimit => 2
  | .evacAttempts => 1
  | .oilSettle => 1
  | .oilMax => 60
  | .purgeO2 => 10
  | .pauseO2 => c.purgeO2 + 5
  | .purgeMax => 60
  | .lelWarn => 5
  | .bankSwapLoad => 500
  | .bankHardLoad => c.bankSwapLoad + 100
  | .bankMaxTime => 600
  | .defrostMax => 300
  | .trainPurge => 30
  | .holdMax => 5
  | .discrepancyGrams => 10
  | .discrepancyPercent => 1

/-- The greatest value a SET-LIMIT of a name would accept (R178, R179). -/
def settingHigh (c : Settings) : SettingName → Nat
  | .pierceEmpty => 300
  | .evacTarget => 100
  | .evacMax => 3600
  | .riseHold => 600
  | .riseLimit => 50
  | .evacAttempts => 5
  | .oilSettle => 50
  | .oilMax => 900
  | .purgeO2 => min 60 (c.pauseO2 - 5)
  | .pauseO2 => 70
  | .purgeMax => 900
  | .lelWarn => 15
  | .bankSwapLoad => min 2000 (c.bankHardLoad - 100)
  | .bankHardLoad => 2500
  | .bankMaxTime => 3600
  | .defrostMax => 1800
  | .trainPurge => 300
  | .holdMax => 120
  | .discrepancyGrams => 500
  | .discrepancyPercent => 10

/-- The tests that blocks make on a change of a setting (R179). -/
def State.settingChanged (s : State) (name : SettingName) : State :=
  match name with
  | .bankSwapLoad | .bankMaxTime => s.testTriggers
  | .bankHardLoad => s.testHardLoad
  | _ => s

/-- SET-LIMIT (R179). -/
def doSetLimit (name : SettingName) (v : Nat) (s : State) : State :=
  match s.control.line with
  | .halted => s.send [noLine .setLimit .lineHalted]
  | .run | .step => s.send [noLine .setLimit .wrongState]
  | .stopped =>
    if settingLow s.limits name ≤ v && v ≤ settingHigh s.limits name then
      let s := s.setControl
        { s.control with settings := writeSetting s.control.settings name v }
      (s.settingChanged name).send [okLine .setLimit
        (field "name" (ascii (settingWord name)) ++ field "value" (numText v))]
    else s.send [noLine .setLimit .range]

/-- GET-LIMIT (R179). -/
def doGetLimit (name : SettingName) (s : State) : State :=
  s.send [okLine .getLimit
    (field "name" (ascii (settingWord name)) ++
      field "value" (numText (readSetting s.limits name)) ++
      field "low" (numText (settingLow s.limits name)) ++
      field "high" (numText (settingHigh s.limits name)))]

/-! ## SET-MASKS and REPORT (R165 to R167) -/

/-- SET-MASKS (R165). -/
def doSetMasks (m : Masks) (s : State) : State :=
  (s.setMonitor { s.monitor with masks := m }).send [okLine .setMasks
    (field "supply" (onOff m.supply) ++ field "process" (onOff m.process) ++
      field "condenser" (onOff m.condenser) ++ field "accounting" (onOff m.accounting) ++
      field "operator" (onOff m.operator))]

/-- An origin as a COND line writes it (R198). -/
def originText : Origin → Text
  | .station i => ascii "station:" ++ stationText i
  | .train t => ascii "train:" ++ trainText t
  | .slot k => ascii "slot:" ++ slotText k
  | .bank bk => ascii "bank:" ++ ascii (bankWord bk)
  | .node n => ascii "node:" ++ numText (nodeAddress n)
  | .chamber => ascii "chamber"
  | .line => ascii "line"

/-- A detail: one number, or two separated by a comma (R198). -/
def detailText (d : Detail) : Text :=
  joinText chComma (intText d.first :: (d.second.map intText).toList)

/-- A COND line (R198). -/
def ConditionEntry.line (e : ConditionEntry) : Text :=
  sealLine (ascii "COND" ++ field "kind" (ascii (conditionWord e.kind)) ++
    field "class" (ascii (conditionClassWord e.cls)) ++ field "origin" (originText e.origin) ++
    field "detail" (detailText e.detail) ++ field "count" (numText e.count))

/-- The entries that a REPORT takes: reportable ones first, then masked ones carried along, up to 8
(R166). -/
def takenEntries (m : Masks) (es : List ConditionEntry) : List ConditionEntry :=
  let first := (es.filter (ConditionEntry.reportable m)).take Config.reportSize
  first ++ (es.filter fun e => !e.reportable m).take (Config.reportSize - first.length)

/-- A list without its first `r` reportable entries and its first `k` masked ones, in its order. -/
def dropEntries (m : Masks) : Nat → Nat → List ConditionEntry → List ConditionEntry
  | _, _, [] => []
  | r, k, e :: es =>
    if e.reportable m then
      match r with
      | 0 => e :: dropEntries m 0 k es
      | r + 1 => dropEntries m r k es
    else
      match k with
      | 0 => e :: dropEntries m r 0 es
      | k + 1 => dropEntries m r k es

/-- The entries that stay after a REPORT (R166). -/
def leftEntries (m : Masks) (es : List ConditionEntry) : List ConditionEntry :=
  let first := (es.filter (ConditionEntry.reportable m)).take Config.reportSize
  dropEntries m Config.reportSize (Config.reportSize - first.length) es

/-- REPORT (R166, R167). -/
def doReport (s : State) : State :=
  let m := s.monitor.masks
  let es := s.monitor.entries
  if es.any (ConditionEntry.reportable m) then
    let taken := takenEntries m es
    let left := leftEntries m es
    (s.setMonitor { s.monitor with entries := left, overflow := false }).send
      (okLine .report
        (field "count" (numText taken.length) ++
          field "more" (numText (left.filter (ConditionEntry.reportable m)).length) ++
          field "overflow" (yesNo s.monitor.overflow)) ::
        taken.map ConditionEntry.line)
  else
    s.send [okLine .report
      (field "count" (numText 0) ++ field "overflow" (yesNo s.monitor.overflow))]

/-! ## The resets (R180) -/

/-- RESET: the reply, and then the interface waits for the reset (R180, R186). -/
def doReset (kind : ResetKind) (s : State) : State :=
  (s.send [okLine .reset (field "kind" (ascii (resetKindWord kind)))]).setLink (.resetting kind)

/-- A train at a line reset (R95). -/
def State.resetTrain (s : State) (t : TrainId) : State :=
  let idle (y : Train) : Train := { y.released with lastClass := none, state := .idle }
  match (s.train t).state with
  | .outOfService => s
  | .purging | .drawing | .paused | .waitVessel | .tailing => (s.stopTrain t).onTrain t idle
  | .idle | .faulted => s.onTrain t idle

/-- Every open allocation entry of the register is closed (R26). -/
def State.closeAllEntries (s : State) : State :=
  { s with register := { s.register with units := s.register.units.map UnitRecord.closeEntry } }

/-- Line Control's part of a reset: STOPPED, no credits, the HALT pin released (R180). -/
def State.resetLine (s : State) : State :=
  s.setControl { s.control.clearStep with line := .stopped, haltPin := false }

/-- What a line reset and a clear reset do alike, up to the Condenser's actions: the stations, the
Classifier, the trains, the register's open entries (R77, R41, R95, R26), stations and trains each in
ascending order (log 28). -/
def State.resetBlocks (s : State) : State :=
  let s := (forAll stationIds s.resetLine State.resetStation).abandonCycle none
  (forAll trainIds s State.resetTrain).closeAllEntries

/-- The line reset (R180, R26, R41, R77, R95, R134, R156). -/
def State.lineResetAction (s : State) : State := s.resetBlocks.resetChamber.resetCondenser

/-- A vessel slot after a clear reset: VACANT, with what the bay reported kept (R116). -/
def Slot.cleared (x : Slot) : Slot := { x with vessel := none }

/-- What a clear reset empties before the chamber and the Condenser act (R27, R41, R96, R116, R117,
R157). -/
def State.emptyTables (s : State) : State :=
  let s : State :=
    { s with register := { units := [], closing := [], log := [], logFull := false } }
  let s := forAll slotIds s fun s k => s.setSlot k (s.slot k).cleared
  ((s.setQueue []).setRequests []).onChamber fun c => { c with feed := [] }

/-- The units' tags leave the stations and the chamber (R78, R135). -/
def State.dropUnits (s : State) : State :=
  (forAll stationIds s fun s i => s.onStation i fun x => { x with unit := none }).onChamber fun c =>
    { c with unit := none }

/-- The clear reset (R180, R27, R168, R175, R78, R96, R116, R135, R157).  The pending list and the watch
list are emptied first. -/
def State.clearResetAction (s : State) : State :=
  let s := s.setMonitor { s.monitor with entries := [], overflow := false }
  let s := s.setControl { s.control with watch := [] }
  (s.resetBlocks.emptyTables.resetChamber.emptyWindows).resetCondenser.dropUnits

end Sys2Proof.Machine
end

