-- ==== Sys2Proof/Machine/CommandLine.lean ====
section
/-!
DEFINITION. The Command Line (spec/10_the_command_line.md): a command handed to its owner, a completed
line by the interface's state, the buffer, the end of a held reply, and what closes every event.
-/

namespace Sys2Proof.Machine

/-- A command that has passed the tests of R183 is carried out or refused by its owner. -/
def perform (c : Command) (s : State) : State :=
  match c with
  | .admitUnit tag station r f => doAdmit tag station r f s
  | .queryUnit tag final => doQueryUnit tag final s
  | .takeClosed count => doTakeClosed count s
  | .loadSignatures rows => doLoadSignatures rows s
  | .signatureDigest => doSignatureDigest s
  | .clearSignatures => doClearSignatures s
  | .release station => doRelease station s
  | .retire station => doRetire station s
  | .resume station => doResume station s
  | .setPaths station trains => doSetPaths station trains s
  | .trainService train x => doTrainService train x s
  | .insertVessel slot id cls tare initial fill => doInsertVessel slot id cls tare initial fill s
  | .closeVessel slot => doCloseVessel slot s
  | .removeVessel slot => doRemoveVessel slot s
  | .queryVessel slot => doQueryVessel slot s
  | .withdrawFeed tag => doWithdrawFeed tag s
  | .abortChamber => doAbortChamber s
  | .bankService bk => doBankService bk s
  | .swapBanks => doSwapBanks s
  | .queryCondenser bk => doQueryCondenser bk s
  | .setMasks m => doSetMasks m s
  | .report => doReport s
  | .start => doStart s
  | .stop => doStop s
  | .step => doStep s
  | .setWatch tag phase => doSetWatch tag phase s
  | .clearWatch which => doClearWatch which s
  | .status => doStatus s
  | .setLimit name v => doSetLimit name v s
  | .getLimit name => doGetLimit name s
  | .reset kind => doReset kind s

/-- A line taken as a command: the reply of the first test that fails, or its owner's (R183). -/
def State.takeLine (s : State) (l : Line) : State :=
  match readLine l with
  | .framing f => s.send [framingLine f]
  | .command c => perform c s

/-- A line completed in HELD or RESETTING: kept, or discarded with LINK_OVERRUN (R187). -/
def State.bufferLine (s : State) (l : Line) : State :=
  match s.link.buffer with
  | none => { s with link := { s.link with buffer := some l } }
  | some _ => s.raise .linkOverrun .line (one 0)

/-- A completed line, by the state of the interface (R186). -/
def State.receive (s : State) (l : Line) : State :=
  match s.link.state with
  | .ready => s.takeLine l
  | .held _ | .resetting _ => s.bufferLine l
  | .loading load => s.takeRow load (readRow l)

/-- A command completed at the part: in READY it goes to its owner; in another state its line is buffered
or taken as a row (R186; log 4). -/
def submit (c : Command) (s : State) : State :=
  match s.link.state with
  | .ready => perform c s
  | _ => s.receive (commandLine c)

/-- The characters received up to a line feed complete the line in assembly: CR is discarded, and an
empty line is none (R182). -/
def completeLine (received : List RxChar) (s : State) : State :=
  let chars := s.link.assembly.chars ++ received.filter (· != RxChar.byte chCR)
  let tooLong := s.link.assembly.overLength
  let s : State := { s with link := { s.link with assembly := emptyLine } }
  if chars.isEmpty then s
  else
    let l := assembled chars
    s.receive { l with overLength := tooLong || l.overLength }

/-- The interface becomes READY and takes the buffered line (R187). -/
def State.takeBuffered (s : State) : State :=
  let s := s.setLink .ready
  match s.link.buffer with
  | none => s
  | some l =>
    let s : State := { s with link := { s.link with buffer := none } }
    s.takeLine l

/-- The held reply is formed, and the interface goes on (R21, R22, R187). -/
def State.answerHeld (s : State) (q : HeldQuery) (final : Bool) : State :=
  (s.send [s.queryReply q.tag final]).takeBuffered

/-- Where an event leaves the held query's unit with no open accumulation, its reply is sent and the
buffered line taken (R21, R187). -/
def State.endHeld (s : State) : State :=
  match s.link.state with
  | .held q =>
    if s.openAccumulation q.tag then s else (s.answerHeld q true).settleBlocks
  | _ => s

/-- The holds that an event ends (R21).  A line taken from the buffer may hold a query in its turn, which
R21 asks of as well; the buffer is empty then, so there is no third. -/
def State.endHold (s : State) : State := s.endHeld.endHeld

/-- The end of an event: the ATTN pin is set (R164), and the model's own fields of one event move on. -/
def State.finish (s : State) : State :=
  { s with
    freeCount := s.freeCount + 1
    monitor := { s.monitor with attn := s.attnLevel }
    control := { s.control with hitTop := none } }

/-- What every event ends with: the swap, the credits and the end of the step (R142, R172, R173), the end
of a hold (R21), and the ATTN pin (R164). -/
def State.afterEvent (s : State) : State := s.settleBlocks.endHold.finish

/-- An event: its effect, and what every event ends with.  While the RESET pin is asserted no event has
an effect (R181; log 6). -/
def event (f : State → State) (s : State) : State := if s.resetPin then s else (f s).afterEvent

/-- The RESET pin is asserted: the pins are released (R181). -/
def State.assertReset (s : State) : State :=
  { s with
    resetPin := true
    monitor := { s.monitor with attn := false }
    control := { s.control with haltPin := false } }

/-- The RESET pin is released: every block takes its power-on state (R181).  The queue of commands is the
sender's, and the index of free values goes on (log 9). -/
def State.powerOn (s : State) : State :=
  { State.reset with pending := s.pending, freeCount := s.freeCount + 1 }

/-- The reset that a RESET command brings, once its reply has been sent (R180, R188). -/
def State.takeReset (s : State) (kind : ResetKind) (act : State → State) : State :=
  if s.link.state == .resetting kind then (act s).settleBlocks.takeBuffered else s

end Sys2Proof.Machine
end

