-- ==== Sys2Proof/Machine/Commands.lean ====
section
/-!
DEFINITION. The meanings of the rows that are commands of the command line.  Each stands for a well-formed
line of that command, completed at the part: `submit` gives it to its owner (the `do` definition of the
owner's file), or to the buffer or the load, by the state of the interface (R183, R186; log 4).
-/

namespace Sys2Proof.Machine

/-- ADMIT (R15, R16). -/
def execAdmitUnit (tag station : Nat) (refrigerant : Option RefrigerantClass)
    (foam : Option GasClass) (s : State) :
    Host.Outcome State Fault Refusal :=
  .next (event (submit (.admitUnit tag station refrigerant foam)) s)

/-- QUERY_UNIT (R17 to R20). -/
def execQueryUnit (tag : Nat) (final : Bool) (s : State) :
    Host.Outcome State Fault Refusal :=
  .next (event (submit (.queryUnit tag final)) s)

/-- TAKE_CLOSED (R24, R14). -/
def execTakeClosed (count : Nat) (s : State) :
    Host.Outcome State Fault Refusal :=
  .next (event (submit (.takeClosed count)) s)

/-- LOAD_SIGNATURES (R44). -/
def execLoadSignatures (rows : Nat) (s : State) :
    Host.Outcome State Fault Refusal :=
  .next (event (submit (.loadSignatures rows)) s)

/-- SIGNATURE_DIGEST (R47). -/
def execSignatureDigest (s : State) :
    Host.Outcome State Fault Refusal :=
  .next (event (submit .signatureDigest) s)

/-- CLEAR_SIGNATURES (R48). -/
def execClearSignatures (s : State) :
    Host.Outcome State Fault Refusal :=
  .next (event (submit .clearSignatures) s)

/-- RELEASE (R70). -/
def execRelease (station : Nat) (s : State) :
    Host.Outcome State Fault Refusal :=
  .next (event (submit (.release station)) s)

/-- RETIRE (R72). -/
def execRetire (station : Nat) (s : State) :
    Host.Outcome State Fault Refusal :=
  .next (event (submit (.retire station)) s)

/-- RESUME (R73). -/
def execResume (station : Nat) (s : State) :
    Host.Outcome State Fault Refusal :=
  .next (event (submit (.resume station)) s)

/-- SET_PATHS (R82). -/
def execSetPaths (station : Nat) (trains : List Nat) (s : State) :
    Host.Outcome State Fault Refusal :=
  .next (event (submit (.setPaths station trains)) s)

/-- TRAIN_SERVICE (R93). -/
def execTrainService (train : Nat) (intoService : Bool) (s : State) :
    Host.Outcome State Fault Refusal :=
  .next (event (submit (.trainService train intoService)) s)

/-- INSERT_VESSEL (R107, R108). -/
def execInsertVessel (slot id : Nat) (cls : VesselClass) (tare initial fill : Nat) (s : State) :
    Host.Outcome State Fault Refusal :=
  .next (event (submit (.insertVessel slot id cls tare initial fill)) s)

/-- CLOSE_VESSEL (R109). -/
def execCloseVessel (slot : Nat) (s : State) :
    Host.Outcome State Fault Refusal :=
  .next (event (submit (.closeVessel slot)) s)

/-- REMOVE_VESSEL (R110 to R112). -/
def execRemoveVessel (slot : Nat) (s : State) :
    Host.Outcome State Fault Refusal :=
  .next (event (submit (.removeVessel slot)) s)

/-- QUERY_VESSEL (R113). -/
def execQueryVessel (slot : Nat) (s : State) :
    Host.Outcome State Fault Refusal :=
  .next (event (submit (.queryVessel slot)) s)

/-- WITHDRAW_FEED (R118). -/
def execWithdrawFeed (tag : Nat) (s : State) :
    Host.Outcome State Fault Refusal :=
  .next (event (submit (.withdrawFeed tag)) s)

/-- ABORT_CHAMBER (R131). -/
def execAbortChamber (s : State) :
    Host.Outcome State Fault Refusal :=
  .next (event (submit .abortChamber) s)

/-- BANK_SERVICE (R151). -/
def execBankService (bk : BankId) (s : State) :
    Host.Outcome State Fault Refusal :=
  .next (event (submit (.bankService bk)) s)

/-- SWAP_BANKS (R152). -/
def execSwapBanks (s : State) :
    Host.Outcome State Fault Refusal :=
  .next (event (submit .swapBanks) s)

/-- QUERY_CONDENSER (R153). -/
def execQueryCondenser (bk : BankId) (s : State) :
    Host.Outcome State Fault Refusal :=
  .next (event (submit (.queryCondenser bk)) s)

/-- SET_MASKS (R165). -/
def execSetMasks (masks : Masks) (s : State) :
    Host.Outcome State Fault Refusal :=
  .next (event (submit (.setMasks masks)) s)

/-- REPORT (R166, R167). -/
def execReport (s : State) :
    Host.Outcome State Fault Refusal :=
  .next (event (submit .report) s)

/-- START (R170). -/
def execStart (s : State) :
    Host.Outcome State Fault Refusal :=
  .next (event (submit .start) s)

/-- STOP (R170). -/
def execStop (s : State) :
    Host.Outcome State Fault Refusal :=
  .next (event (submit .stop) s)

/-- STEP (R171). -/
def execStep (s : State) :
    Host.Outcome State Fault Refusal :=
  .next (event (submit .step) s)

/-- SET_WATCH (R175). -/
def execSetWatch (tag : Nat) (phase : PhaseName) (s : State) :
    Host.Outcome State Fault Refusal :=
  .next (event (submit (.setWatch tag phase)) s)

/-- CLEAR_WATCH (R176). -/
def execClearWatch (which : WatchChoice) (s : State) :
    Host.Outcome State Fault Refusal :=
  .next (event (submit (.clearWatch which)) s)

/-- STATUS (R177). -/
def execStatus (s : State) :
    Host.Outcome State Fault Refusal :=
  .next (event (submit .status) s)

/-- SET_LIMIT (R179). -/
def execSetLimit (name : SettingName) (value : Nat) (s : State) :
    Host.Outcome State Fault Refusal :=
  .next (event (submit (.setLimit name value)) s)

/-- GET_LIMIT (R179). -/
def execGetLimit (name : SettingName) (s : State) :
    Host.Outcome State Fault Refusal :=
  .next (event (submit (.getLimit name)) s)

/-- RESET (R180). -/
def execReset (kind : ResetKind) (s : State) :
    Host.Outcome State Fault Refusal :=
  .next (event (submit (.reset kind)) s)

end Sys2Proof.Machine
end

