-- ==== Sys2Proof/Machine/FieldLoop.lean ====
section
/-!
DEFINITION. The Field Loop (spec/11_the_field_loop.md): time, the polling round, order reports and ends,
silence, and the answers of the seven kinds of node.
-/

namespace Sys2Proof.Machine

/-! ## Time (log 1, log 2) -/

/-- The station's evacuation clock counts (R60). -/
def State.clockRuns (s : State) (i : StationId) : Bool :=
  let x := s.station i
  x.phase == .evacuate && !x.suspended && !x.awaitingVessel && !s.halted

def State.tickStation (dt : Moment) (s : State) (i : StationId) : State :=
  if s.clockRuns i then s.onStation i fun x => { x with clock := x.clock + dt } else s

def State.tickBank (dt : Moment) (s : State) (bk : BankId) : State :=
  if (s.bank bk).state == .condensing then
    s.onBank bk fun x => { x with condensingTime := x.condensingTime + dt }
  else s

/-- Time passes: the running clocks count (R60, R140). -/
def State.advance (s : State) (dt : Moment) : State :=
  let s := forAll stationIds s (State.tickStation dt)
  let s := forAll bankIds s (State.tickBank dt)
  { s with now := s.now + dt }

/-- Time passes up to a moment; an earlier moment leaves it as it is. -/
def State.advanceTo (s : State) (t : Moment) : State := s.advance (t - s.now)

/-! ## Orders end (R193, R194) -/

/-- The order is no longer outstanding, nor any other of its node and number (log 51). -/
def State.removeOrder (s : State) (o : Order) : State :=
  s.setOrders (s.loop.orders.filter fun p => !(p.node == o.node && p.number == o.number))

/-- The order is acknowledged (R193). -/
def State.acknowledge (s : State) (o : Order) : State :=
  s.setOrders (s.loop.orders.map fun p =>
    if p.node == o.node && p.number == o.number then { p with acknowledged := true } else p)

/-- A station node's order failed: its issuer acts, and the Classifier on a sample valve (R35, R38,
R39). -/
def State.stationNodeFailed (s : State) (i : StationId) (o : Order) : State :=
  let s := if o.issuer == .stationController then s.stationOrderFailed i o else s
  match o.kind with
  | .sampleValve _ => s.sampleValveFailed i o.number
  | _ => s

/-- The issuing block is told that an order failed. -/
def State.orderFails (s : State) (o : Order) : State :=
  match o.node with
  | .station i => s.stationNodeFailed i o
  | .analyser => s.startSampleFailed o.number
  | .train t => s.faultTrain t
  | .chamber => s.chamberOrderFailed o
  | .condenser => s.bankOrderFailed o
  | .bay | .safety => s

/-- An order ends as failed: by its report, by silence (ORDER_FAILED) or by its time-out (ORDER_TIMEOUT)
(R193, R194). -/
def State.endFailed (s : State) (kind : ConditionKind) (o : Order) : State :=
  ((s.removeOrder o).raise kind (.node o.node) (one o.number)).orderFails o

/-- One order report of an answer; `done` tells the issuer that the order completed (R193). -/
def State.takeReport (n : Node) (done : State → Order → State) (s : State) (r : OrderReport) : State :=
  match s.findOrder n r.number with
  | none => s
  | some o =>
    match r.status with
    | .running => s.acknowledge o
    | .done => done (s.removeOrder o) o
    | .failed => s.endFailed .orderFailed o

/-! ## Answers (R189, R191) -/

/-- The clearing of a node's silence, reported to its owner (R191, R50, R34, R84, R121). -/
def State.silenceCleared (s : State) (n : Node) : State :=
  match n with
  | .station i => s.testStation i
  | .analyser => s.grantAnalyser
  | .train t => if (s.train t).state == .idle then s.grantScan else s
  | .chamber => s.testChamber
  | .bay | .condenser | .safety => s

/-- A node that has answered (R189, R191). -/
def answered : NodeState := { misses := 0, silent := false, previousTaken := true }

/-- An answer is taken: the miss count is 0, the order reports come first, then the quantities, and the
clearing of a silence last (R189, R191). -/
def State.takeAnswer (s : State) (n : Node) (moment : Moment) (reports : List OrderReport)
    (done : State → Order → State) (quantities : State → State) : State :=
  let s := s.advanceTo moment
  let wasSilent := s.isSilent n
  let s := forAll reports (s.setNode n answered) (State.takeReport n done)
  let s := quantities s
  if wasSilent then s.silenceCleared n else s

/-- An order of a station's node reported DONE in an answer (R35, R38, R52 to R71). -/
def stationNodeDone (i : StationId) (a : StationAnswer) (s : State) (o : Order) : State :=
  let s := if o.issuer == .stationController then s.stationOrderDone i o a.oil else s
  match o.kind with
  | .sampleValve _ => s.sampleValveDone i o.number
  | _ => s

/-- What a station answer's quantities do: the valve states, then pressure and oil (R38, R69, R53 to
R66).  The valve states count for a fault action that the same answer's order report brought (log 29). -/
def stationQuantities (i : StationId) (before : Station) (a : StationAnswer) (s : State) : State :=
  let s := s.onStation i fun x => x.closedByAnswer a
  (s.unblock i a.sampleOpen).takeStationReadings i before a

/-- A station node's answer (R189, R53 to R69). -/
def takeStation (i : StationId) (a : StationAnswer) (s : State) : State :=
  s.takeAnswer (.station i) a.moment a.reports (stationNodeDone i a)
    (stationQuantities i (s.station i) a)

/-- The analyser's answer (R36, R37). -/
def takeAnalyser (a : AnalyserAnswer) (s : State) : State :=
  s.takeAnswer .analyser a.moment a.reports (fun s o => s.startSampleDone o.number a) id

/-- A train books mass in four states (R81). -/
def booksMass : TrainState → Bool
  | .drawing | .paused | .waitVessel | .tailing => true
  | _ => false

/-- The discharge pressure of a train answer (R81). -/
def State.testDischarge (s : State) (t : TrainId) (discharge : Nat) : State :=
  if Config.overpressure < discharge then
    s.raise .manifoldOverpressure (.train t) (one discharge)
  else s

/-- The mass delta of a train answer (R81, R102). -/
def State.takeDelta (s : State) (t : TrainId) (d : Grams) : State :=
  match (s.train t).tag with
  | some tag => if booksMass (s.train t).state then s.bookTrain tag d else s
  | none => s

/-- What a train answer's quantities do: discharge pressure, delta, the end of a tail, compressor state
(R81, R89; the places of the first and of the last are the model's, log 42).  `before` is the train's
state before the answer. -/
def trainQuantities (t : TrainId) (before : TrainState) (a : TrainAnswer) (s : State) : State :=
  let s := (s.testDischarge t a.discharge).takeDelta t a.delta
  let s :=
    if before == .tailing && (s.train t).state == .tailing && a.delta == 0 then s.endTail t else s
  if a.compressor == .failed then s.faultTrain t else s

/-- A train node's answer (R81, R89). -/
def takeTrain (t : TrainId) (a : TrainAnswer) (s : State) : State :=
  s.takeAnswer (.train t) a.moment a.reports (fun s _ => s)
    (trainQuantities t (s.train t).state a)

/-- The vessel bay's answer, which carries no order reports (R99). -/
def takeBay (a : BayAnswer) (s : State) : State :=
  s.takeAnswer .bay a.moment [] (fun s _ => s) fun s => s.takeBayReadings a

/-- The chamber node's answer (R120). -/
def takeChamber (a : ChamberAnswer) (s : State) : State :=
  s.takeAnswer .chamber a.moment a.reports State.chamberOrderDone fun s' =>
    s'.takeChamberReadings s.chamber a.readings

/-- The condenser node's answer (R137). -/
def takeCondenser (a : CondenserAnswer) (s : State) : State :=
  s.takeAnswer .condenser a.moment a.reports State.bankOrderDone fun s =>
    s.takeCondenserReadings a

/-- The gas reading of a safety answer (R159). -/
def State.testGas (s : State) (lel : Nat) : State :=
  if Config.lelHigh ≤ lel then s.raise .lelHigh (.node .safety) (one lel)
  else if s.limits.lelWarn ≤ lel then s.raise .lelWarn (.node .safety) (one lel)
  else s

/-- The emergency stop of a safety answer (R159). -/
def State.testStopInput (s : State) (active doorOpen : Bool) : State :=
  if active then
    s.raise .emergencyStop (.node .safety) (one (if doorOpen then 1 else 0))
  else s

/-- The safety node's answer, which carries no order reports: the gas reading, then the emergency stop
(R159; log 42). -/
def takeSafety (a : SafetyAnswer) (s : State) : State :=
  s.takeAnswer .safety a.moment [] (fun s _ => s) fun s =>
    (s.testGas a.lel).testStopInput a.emergencyStop a.doorOpen

/-! ## Missed answers and silence (R191) -/

/-- The silence of a node, reported to the block that owns it (R68, R90, R130, R150). -/
def State.ownerSilent (s : State) (n : Node) : State :=
  match n with
  | .station i => s.stationSilent i
  | .train t => s.faultTrain t
  | .chamber => s.chamberSilent
  | .condenser => s.condenserSilent
  | .analyser | .bay | .safety => s

/-- One of a silent node's orders ends as failed, if it is outstanding still. -/
def State.failBySilence (s : State) (o : Order) : State :=
  if (s.findOrder o.node o.number).isSome then s.endFailed .orderFailed o else s

/-- A node becomes silent: the condition, its orders in the order of issue, its owner (R191). -/
def State.declareSilent (s : State) (n : Node) : State :=
  let s := s.setNode n { s.node n with silent := true }
  let s :=
    if n == .safety then s.raise .safetySilent (.node .safety) (one 0)
    else s.raise .nodeSilent (.node n) (one 0)
  let orders := s.loop.orders.filter fun o => o.node == n
  (forAll orders s State.failBySilence).ownerSilent n

/-- A missed answer (R189, R191). -/
def missAnswer (n : Node) (moment : Moment) (s : State) : State :=
  let s := s.advanceTo moment
  let x := s.node n
  let s := s.setNode n { x with misses := x.misses + 1, previousTaken := false }
  if !x.silent && Config.silenceMisses ≤ x.misses + 1 then s.declareSilent n else s

/-! ## The poll (R189) -/

/-- The node after another in the round; after address 31 comes address 1. -/
def nextInRound (k : Fin 17) : Fin 17 := if h : k.val + 1 < 17 then ⟨k.val + 1, h⟩ else 0

/-- The next node is polled: its unacknowledged orders, in order of issue, and the acknowledgement mark
(R189, R192). -/
def pollNext (moment : Moment) (s : State) : State :=
  let s := s.advanceTo moment
  let n := nodeAt s.loop.nextPoll
  { s with loop :=
    { s.loop with
      nextPoll := nextInRound s.loop.nextPoll
      lastPoll := some
        { node := n
          orders := s.loop.orders.filter fun o => o.node == n && !o.acknowledged
          previousTaken := (s.node n).previousTaken } } }

/-! ## Expiries (log 2, log 5) -/

/-- Time passes to a deadline, and its effect comes about; without one the event cannot occur. -/
def State.expire (s : State) (deadline : Option Moment) (f : State → State) : State :=
  match deadline with
  | some d => f (s.advanceTo d)
  | none => s

/-- An outstanding order's deadline passes (R194): of several with one number, the earliest issued (log 51). -/
def timeOutOrder (number : Nat) (s : State) : State :=
  match s.loop.orders.find? fun o => o.number == number with
  | some o => (s.advanceTo o.deadline).endFailed .orderTimeout o
  | none => s

/-- The held query's expiry passes (R22). -/
def expireHold (s : State) : State :=
  match s.link.state with
  | .held q => (s.advanceTo q.expiry).answerHeld q false
  | _ => s

/-- The evacuation clock reaches evac-max (R60). -/
def overtime (i : StationId) (s : State) : State :=
  if s.clockRuns i then
    (s.advance (seconds s.limits.evacMax - (s.station i).clock)).evacOvertime i
  else s

/-- The oil deadline passes (R66). -/
def oilDeadlinePasses (i : StationId) (s : State) : State :=
  let x := s.station i
  if x.phase == .oilDrain && !x.atBoundary && !s.halted then
    s.expire x.oilDeadline fun s => s.endDrain i
  else s

/-- A train's purge end passes (R86, R94). -/
def purgeEndPasses (t : TrainId) (s : State) : State :=
  if (s.train t).state == .purging && !s.halted then
    s.expire (s.train t).purgeEnd fun s => s.endPurge t
  else s

/-- A train's tail end passes (R89). -/
def tailEndPasses (t : TrainId) (s : State) : State :=
  if (s.train t).state == .tailing then s.expire (s.train t).tailEnd fun s => s.endTail t else s

/-- The chamber's purge end passes (R123, R133). -/
def chamberPurgePasses (s : State) : State :=
  if s.chamber.inPurge && !s.halted then s.expire s.chamber.purgeEnd State.purgeTimedOut else s

/-- The chamber's clear end passes, and then the swap test and the test for permission (R127, R142). -/
def clearEndPasses (s : State) : State :=
  if s.chamber.phase == .clear && !s.chamber.atBoundary && !s.halted then
    s.expire s.chamber.clearEnd fun s => s.leaveClear.swapTest.testChamber
  else s

/-- A bank's cool deadline passes (R138). -/
def coolDeadlinePasses (bk : BankId) (s : State) : State :=
  if (s.bank bk).state == .cooling then
    s.expire (s.bank bk).coolDeadline fun s => s.coolTimedOut bk
  else s

/-- A bank's condensing time reaches bank-max-time (R141). -/
def maxTimePasses (bk : BankId) (s : State) : State :=
  if (s.bank bk).state == .condensing then
    (s.advance (seconds s.limits.bankMaxTime - (s.bank bk).condensingTime)).maxTimeReached bk
  else s

/-- A bank's defrost deadline passes (R143). -/
def defrostDeadlinePasses (bk : BankId) (s : State) : State :=
  if (s.bank bk).state == .defrost && !(s.bank bk).paused && !(s.bank bk).overrunRaised then
    s.expire (s.bank bk).defrostDeadline fun s => s.overrunDefrost bk
  else s

/-- A bank's drain deadline passes (R145). -/
def drainDeadlinePasses (bk : BankId) (s : State) : State :=
  if (s.bank bk).mayEnd then s.expire (s.bank bk).drainDeadline fun s => s.endOpening bk else s

end Sys2Proof.Machine
end

