-- ==== Sys2Proof/Machine/Events.lean ====
section
/-!
DEFINITION. The meanings of the rows that are events: the pins, lines, answers, polls, missed answers and
expiries.  Each runs whole, with what is tested at the end of every event (`event`).
-/

namespace Sys2Proof.Machine

/-- RESET_PIN_ASSERTED: the RESET pin is asserted (R181). -/
def execResetPinAsserted (s : State) :
    Host.Outcome State Fault Refusal :=
  .next s.assertReset

/-- POWER_ON_RESET: the RESET pin is released (R181). -/
def execPowerOnReset (s : State) :
    Host.Outcome State Fault Refusal :=
  .next s.powerOn

/-- LINE_COMPLETED: a line feed completes the characters received since the last (R182, R186). -/
def execLineCompleted (received : List RxChar) (s : State) :
    Host.Outcome State Fault Refusal :=
  .next (event (completeLine received) s)

/-- HELD_QUERY_EXPIRY: the held query expires (R22). -/
def execHeldQueryExpiry (s : State) :
    Host.Outcome State Fault Refusal :=
  .next (event expireHold s)

/-- SIG_ROW: a completed line, which a load takes as a row (R45, R46). -/
def execSigRow (row : Line) (s : State) :
    Host.Outcome State Fault Refusal :=
  .next (event (fun s => s.receive row) s)

/-- STATION_ANSWER: a station node's answer (R189). -/
def execStationAnswer (i : StationId) (a : StationAnswer) (s : State) :
    Host.Outcome State Fault Refusal :=
  .next (event (takeStation i a) s)

/-- EVAC_OVERTIME: the evacuation clock reaches evac-max (R60). -/
def execEvacOvertime (i : StationId) (s : State) :
    Host.Outcome State Fault Refusal :=
  .next (event (overtime i) s)

/-- OIL_DEADLINE: the oil deadline passes (R66). -/
def execOilDeadline (i : StationId) (s : State) :
    Host.Outcome State Fault Refusal :=
  .next (event (oilDeadlinePasses i) s)

/-- TRAIN_ANSWER: a train node's answer (R81). -/
def execTrainAnswer (t : TrainId) (a : TrainAnswer) (s : State) :
    Host.Outcome State Fault Refusal :=
  .next (event (takeTrain t a) s)

/-- TRAIN_PURGE_END: a train's purge end passes (R86). -/
def execTrainPurgeEnd (t : TrainId) (s : State) :
    Host.Outcome State Fault Refusal :=
  .next (event (purgeEndPasses t) s)

/-- TRAIN_TAIL_EXPIRY: a train's tail end passes (R89). -/
def execTrainTailExpiry (t : TrainId) (s : State) :
    Host.Outcome State Fault Refusal :=
  .next (event (tailEndPasses t) s)

/-- BAY_ANSWER: the vessel bay's answer (R99). -/
def execBayAnswer (a : BayAnswer) (s : State) :
    Host.Outcome State Fault Refusal :=
  .next (event (takeBay a) s)

/-- CHAMBER_ANSWER: the chamber node's answer (R120). -/
def execChamberAnswer (a : ChamberAnswer) (s : State) :
    Host.Outcome State Fault Refusal :=
  .next (event (takeChamber a) s)

/-- PURGE_TIMEOUT: the chamber's purge end passes (R123). -/
def execPurgeTimeout (s : State) :
    Host.Outcome State Fault Refusal :=
  .next (event chamberPurgePasses s)

/-- CLEAR_END: the chamber's clear end passes (R127). -/
def execClearEnd (s : State) :
    Host.Outcome State Fault Refusal :=
  .next (event clearEndPasses s)

/-- CONDENSER_ANSWER: the condenser node's answer (R137). -/
def execCondenserAnswer (a : CondenserAnswer) (s : State) :
    Host.Outcome State Fault Refusal :=
  .next (event (takeCondenser a) s)

/-- BANK_COOL_TIMEOUT: a bank's cool deadline passes (R138). -/
def execBankCoolTimeout (bk : BankId) (s : State) :
    Host.Outcome State Fault Refusal :=
  .next (event (coolDeadlinePasses bk) s)

/-- BANK_MAX_TIME: a bank's condensing time reaches bank-max-time (R141). -/
def execBankMaxTime (bk : BankId) (s : State) :
    Host.Outcome State Fault Refusal :=
  .next (event (maxTimePasses bk) s)

/-- DEFROST_OVERRUN: a bank's defrost deadline passes (R143). -/
def execDefrostOverrun (bk : BankId) (s : State) :
    Host.Outcome State Fault Refusal :=
  .next (event (defrostDeadlinePasses bk) s)

/-- DRAIN_DEADLINE: a bank's drain deadline passes (R145). -/
def execDrainDeadline (bk : BankId) (s : State) :
    Host.Outcome State Fault Refusal :=
  .next (event (drainDeadlinePasses bk) s)

/-- SAFETY_ANSWER: the safety node's answer (R159). -/
def execSafetyAnswer (a : SafetyAnswer) (s : State) :
    Host.Outcome State Fault Refusal :=
  .next (event (takeSafety a) s)

/-- LINE_RESET: the line reset takes effect (R180). -/
def execLineReset (s : State) :
    Host.Outcome State Fault Refusal :=
  .next (event (fun s => s.takeReset .line State.lineResetAction) s)

/-- CLEAR_RESET: the clear reset takes effect (R180). -/
def execClearReset (s : State) :
    Host.Outcome State Fault Refusal :=
  .next (event (fun s => s.takeReset .clear State.clearResetAction) s)

/-- POLL: the next node is polled (R189). -/
def execPoll (moment : Moment) (s : State) :
    Host.Outcome State Fault Refusal :=
  .next (event (pollNext moment) s)

/-- MISSED_ANSWER: an answer is missed (R189, R191). -/
def execMissedAnswer (n : Node) (moment : Moment) (s : State) :
    Host.Outcome State Fault Refusal :=
  .next (event (missAnswer n moment) s)

/-- ORDER_TIMEOUT: an outstanding order's deadline passes (R194). -/
def execOrderTimeout (number : Nat) (s : State) :
    Host.Outcome State Fault Refusal :=
  .next (event (timeOutOrder number) s)

/-- ANALYSER_ANSWER: the analyser's answer (R36, R37). -/
def execAnalyserAnswer (a : AnalyserAnswer) (s : State) :
    Host.Outcome State Fault Refusal :=
  .next (event (takeAnalyser a) s)

end Sys2Proof.Machine
end

