-- ==== Sys2Proof/Machine/Dispatch.lean ====
section
/-!
DEFINITION. `exec`: one arm for each constructor of `Instr`, in the order of spec/opcode_table.json.
-/

namespace Sys2Proof.Machine

def exec (i : Instr) (s : State) : Host.Outcome State Fault Refusal :=
  match i with
  | .resetPinAsserted => Sys2Proof.Machine.execResetPinAsserted s
  | .powerOnReset => Sys2Proof.Machine.execPowerOnReset s
  | .lineCompleted received => Sys2Proof.Machine.execLineCompleted received s
  | .admitUnit tag station refrigerant foam => Sys2Proof.Machine.execAdmitUnit tag station refrigerant foam s
  | .queryUnit tag final => Sys2Proof.Machine.execQueryUnit tag final s
  | .heldQueryExpiry => Sys2Proof.Machine.execHeldQueryExpiry s
  | .takeClosed count => Sys2Proof.Machine.execTakeClosed count s
  | .loadSignatures rows => Sys2Proof.Machine.execLoadSignatures rows s
  | .sigRow row => Sys2Proof.Machine.execSigRow row s
  | .signatureDigest => Sys2Proof.Machine.execSignatureDigest s
  | .clearSignatures => Sys2Proof.Machine.execClearSignatures s
  | .stationAnswer n a => Sys2Proof.Machine.execStationAnswer n a s
  | .evacOvertime n => Sys2Proof.Machine.execEvacOvertime n s
  | .oilDeadline n => Sys2Proof.Machine.execOilDeadline n s
  | .release station => Sys2Proof.Machine.execRelease station s
  | .retire station => Sys2Proof.Machine.execRetire station s
  | .resume station => Sys2Proof.Machine.execResume station s
  | .trainAnswer t a => Sys2Proof.Machine.execTrainAnswer t a s
  | .trainPurgeEnd t => Sys2Proof.Machine.execTrainPurgeEnd t s
  | .trainTailExpiry t => Sys2Proof.Machine.execTrainTailExpiry t s
  | .setPaths station trains => Sys2Proof.Machine.execSetPaths station trains s
  | .trainService train intoService => Sys2Proof.Machine.execTrainService train intoService s
  | .bayAnswer a => Sys2Proof.Machine.execBayAnswer a s
  | .insertVessel slot id cls tare initial fill => Sys2Proof.Machine.execInsertVessel slot id cls tare initial fill s
  | .closeVessel slot => Sys2Proof.Machine.execCloseVessel slot s
  | .removeVessel slot => Sys2Proof.Machine.execRemoveVessel slot s
  | .queryVessel slot => Sys2Proof.Machine.execQueryVessel slot s
  | .chamberAnswer a => Sys2Proof.Machine.execChamberAnswer a s
  | .purgeTimeout => Sys2Proof.Machine.execPurgeTimeout s
  | .clearEnd => Sys2Proof.Machine.execClearEnd s
  | .withdrawFeed tag => Sys2Proof.Machine.execWithdrawFeed tag s
  | .abortChamber => Sys2Proof.Machine.execAbortChamber s
  | .condenserAnswer a => Sys2Proof.Machine.execCondenserAnswer a s
  | .bankCoolTimeout bk => Sys2Proof.Machine.execBankCoolTimeout bk s
  | .bankMaxTime bk => Sys2Proof.Machine.execBankMaxTime bk s
  | .defrostOverrun bk => Sys2Proof.Machine.execDefrostOverrun bk s
  | .drainDeadline bk => Sys2Proof.Machine.execDrainDeadline bk s
  | .bankService bk => Sys2Proof.Machine.execBankService bk s
  | .swapBanks => Sys2Proof.Machine.execSwapBanks s
  | .queryCondenser bk => Sys2Proof.Machine.execQueryCondenser bk s
  | .safetyAnswer a => Sys2Proof.Machine.execSafetyAnswer a s
  | .setMasks masks => Sys2Proof.Machine.execSetMasks masks s
  | .report => Sys2Proof.Machine.execReport s
  | .start => Sys2Proof.Machine.execStart s
  | .stop => Sys2Proof.Machine.execStop s
  | .step => Sys2Proof.Machine.execStep s
  | .setWatch tag phase => Sys2Proof.Machine.execSetWatch tag phase s
  | .clearWatch which => Sys2Proof.Machine.execClearWatch which s
  | .status => Sys2Proof.Machine.execStatus s
  | .setLimit name value => Sys2Proof.Machine.execSetLimit name value s
  | .getLimit name => Sys2Proof.Machine.execGetLimit name s
  | .reset kind => Sys2Proof.Machine.execReset kind s
  | .lineReset => Sys2Proof.Machine.execLineReset s
  | .clearReset => Sys2Proof.Machine.execClearReset s
  | .poll moment => Sys2Proof.Machine.execPoll moment s
  | .missedAnswer n moment => Sys2Proof.Machine.execMissedAnswer n moment s
  | .orderTimeout number => Sys2Proof.Machine.execOrderTimeout number s
  | .analyserAnswer a => Sys2Proof.Machine.execAnalyserAnswer a s

end Sys2Proof.Machine
end

