-- ==== Sys2Proof/Machine/Step.lean ====
section
/-!
DEFINITION. `step`: the command at the front of the queue is taken, and `exec` run on it with the queue's
rest.  On an empty queue a millisecond passes (log 1).
-/

namespace Sys2Proof.Machine

/-- The state with a queue. -/
def State.setPending (s : State) (q : List Instr) : State := { s with pending := q }

/-- A step on an empty queue: time passes by one millisecond, and nothing does while the RESET pin is
asserted. -/
def State.idle (s : State) : State := if s.resetPin then s else s.advance 1

/-- One step. -/
def step (s : State) : Host.Outcome State Fault Refusal :=
  match s.pending with
  | [] => .next s.idle
  | c :: rest => exec c (s.setPending rest)

/-- The state with the command that a table word spells at the front of its queue; no word spells one
(log 33). -/
def State.withFetchWord (s : State) (nbits w : Nat) : State :=
  match decodeTableWord nbits w with
  | some c => s.setPending (c :: s.pending)
  | none => s

end Sys2Proof.Machine
end

