-- ==== Sys2Proof/Safety.lean ====
section
/-!
DEFINITION. The vocabulary of claims about the HB-740: when the part takes a command at once, when
nothing is left to be done between two events, and what the spec says of its tables at every moment.
No step of the model faults or refuses, so a run is safe when these hold of its states.
-/

namespace Sys2Proof.Machine

/-- The part takes a completed line as a command at once: the RESET pin is released and the interface is
READY (R181, R186). -/
def State.takesCommand (s : State) : Prop := s.resetPin = false ∧ s.link.state = .ready

/-- The row that stands for a command of the command line. -/
def rowFor : Command → Instr
  | .admitUnit tag station r f => .admitUnit tag station r f
  | .queryUnit tag final => .queryUnit tag final
  | .takeClosed count => .takeClosed count
  | .loadSignatures rows => .loadSignatures rows
  | .signatureDigest => .signatureDigest
  | .clearSignatures => .clearSignatures
  | .release station => .release station
  | .retire station => .retire station
  | .resume station => .resume station
  | .setPaths station trains => .setPaths station trains
  | .trainService train x => .trainService train x
  | .insertVessel slot id cls tare initial fill => .insertVessel slot id cls tare initial fill
  | .closeVessel slot => .closeVessel slot
  | .removeVessel slot => .removeVessel slot
  | .queryVessel slot => .queryVessel slot
  | .withdrawFeed tag => .withdrawFeed tag
  | .abortChamber => .abortChamber
  | .bankService bk => .bankService bk
  | .swapBanks => .swapBanks
  | .queryCondenser bk => .queryCondenser bk
  | .setMasks m => .setMasks m
  | .report => .report
  | .start => .start
  | .stop => .stop
  | .step => .step
  | .setWatch tag phase => .setWatch tag phase
  | .clearWatch which => .clearWatch which
  | .status => .status
  | .setLimit name v => .setLimit name v
  | .getLimit name => .getLimit name
  | .reset kind => .reset kind

/-- The reason of the first condition of a refusal table that holds. -/
def firstRefusal : List (Bool × Reason) → Option Reason
  | [] => none
  | (holds, reason) :: rest => if holds then some reason else firstRefusal rest

/-- A table of refusals refuses a command with the reason of the first condition that holds: the reply is
sent, and nothing else is done (R185). -/
def State.refuses (s : State) (c : Instr) (w : CommandWord) (table : List (Bool × Reason)) : Prop :=
  ∀ r, firstRefusal table = some r → exec c s = .next (s.send [noLine w r]).afterEvent

/-- Every credit stands with a holder that R172 lets keep it. -/
def State.creditsKept (s : State) : Prop :=
  (∀ i ∈ s.control.credits, (s.station i).keepsCredit = true) ∧
    (s.control.chamberCredit = true → s.chamber.keepsCredit = true)

/-- No swap is due (R142). -/
def State.noSwapDue (s : State) : Prop :=
  ∀ bk, s.condensing = some bk → s.swapDue bk = false

/-- The step is over: no credit is held and every holder is at rest (R173). -/
def State.stepOver (s : State) : Prop :=
  s.control.line = .step ∧ s.noCredits = true ∧ s.holdersAtRest = true

/-- Nothing that R142, R172 or R173 tests at the end of an event is due. -/
def State.nothingDue (s : State) : Prop := s.noSwapDue ∧ s.creditsKept ∧ ¬ s.stepOver

/-- Every setting lies in its range, with the two pairs that bound one another (R178). -/
def State.settingsInBounds (s : State) : Prop :=
  ∀ name, settingLow s.limits name ≤ readSetting s.limits name ∧
    readSetting s.limits name ≤ settingHigh s.limits name

/-- The pending list holds at most 32 entries, never two with the same kind and origin, and each repeat
count is 1 to 255 (R161). -/
def Monitor.sound (m : Monitor) : Prop :=
  m.entries.length ≤ Config.conditionSize ∧
    (m.entries.map fun e => (e.kind, e.origin)).Nodup ∧
    ∀ e ∈ m.entries, 1 ≤ e.count ∧ e.count ≤ Config.countLimit

/-- The HALT pin is asserted while the line is HALTED, and the ATTN pin at its level; both are released
while the RESET pin is asserted (R164, R169, R181). -/
def State.pinsAgree (s : State) : Prop :=
  (s.resetPin = true → s.control.haltPin = false ∧ s.monitor.attn = false) ∧
    (s.resetPin = false → s.control.haltPin = s.halted ∧ s.monitor.attn = s.attnLevel)

/-- Credits and holders stand in STEP only (R171). -/
def LineControl.stepOnly (c : LineControl) : Prop :=
  c.line ≠ .step →
    c.credits = [] ∧ c.chamberCredit = false ∧ c.holders = [] ∧ c.chamberHolder = false

/-- The watch list holds at most 4 entries, each with a tag and a watch phase, and never two alike
(R175). -/
def LineControl.watchSound (c : LineControl) : Prop :=
  c.watch.length ≤ Config.watchSize ∧ c.watch.Nodup ∧
    ∀ w ∈ c.watch, w.tag ≠ 0 ∧ isWatchPhase w.phase = true

/-- Every path list holds 1 to 4 distinct trains (R82). -/
def Arbiter.pathsSound (a : Arbiter) : Prop :=
  ∀ i, a.paths.get i ≠ [] ∧ (a.paths.get i).length ≤ 4 ∧ (a.paths.get i).Nodup

/-- The request list is in order of request time, earliest at the head, with at most one request for each
station, so at most 8 (R83). -/
def Arbiter.requestsSound (a : Arbiter) : Prop :=
  (a.requests.Pairwise fun p q => p.time ≤ q.time) ∧ (a.requests.map (·.station)).Nodup

/-- At most one bank is CONDENSING, and at most one holds a drain slot (R139; The Drain). -/
def Condenser.oneEach (c : Condenser) : Prop :=
  ¬ (c.bankA.state = .condensing ∧ c.bankB.state = .condensing) ∧
    ¬ (c.bankA.drainSlot.isSome = true ∧ c.bankB.drainSlot.isSome = true)

/-- The grams of a record's allocation entries. -/
def UnitRecord.booked (r : UnitRecord) : Grams := (r.allocations.map (·.grams)).sum

/-- The shares present in a record's window entries. -/
def UnitRecord.shared (r : UnitRecord) : Grams := (r.windows.map fun w => w.share.getD 0).sum

/-- A record's refrigerant total is the sum of its allocation entries' grams, of which there are at most
4 and at most one is open; its agent is the sum of its shares; its evacuations are at most 5 (R4, R6,
R7). -/
def UnitRecord.sound (r : UnitRecord) : Prop :=
  r.total = r.booked ∧ r.allocations.length ≤ Config.allocationLimit ∧
    r.allocations.countP (·.isOpen) ≤ 1 ∧ r.agent = r.shared ∧
    r.evacuations ≤ Config.evacuationsLimit

/-- A closed record: a disposition, no station, and the digest of its canonical line (R11). -/
def UnitRecord.closedRight (r : UnitRecord) : Prop :=
  r.disposition.isSome = true ∧ r.station = none ∧ r.digest = some (crc r.canonical)

/-- Every record keeps its books (R6, R7). -/
def UnitRegister.booksSound (u : UnitRegister) : Prop :=
  ∀ r ∈ u.units ++ u.closing ++ u.log, r.sound

/-- Every closed record carries its digest; a CLOSING one its place, a logged one none (R11, R12). -/
def UnitRegister.closedSound (u : UnitRegister) : Prop :=
  (∀ r ∈ u.closing, r.closedRight ∧ r.place = some .closing) ∧
    ∀ r ∈ u.log, r.closedRight ∧ r.place = none

/-- At most 48 records with distinct tags, at most 32 in the log, and records wait in CLOSING only behind
a full log, under the log-full mark (R8, R12, R13). -/
def UnitRegister.sizesSound (u : UnitRegister) : Prop :=
  u.units.length + u.closing.length ≤ Config.registerSize ∧
    ((u.units ++ u.closing).map (·.tag)).Nodup ∧
    u.log.length ≤ Config.logSize ∧
    (u.closing ≠ [] → u.log.length = Config.logSize ∧ u.logFull = true)

/-- The feed queue holds at most 6 tags (R117). -/
def Chamber.feedSound (c : Chamber) : Prop := c.feed.length ≤ Config.feedSize

/-- The feed queue holds a tag at most once, and each block that holds a unit holds a record in its place: a
tag of the feed queue QUEUED, a station's unit STATION at that station, the chamber's CHAMBER (R9, R117). -/
def State.placesSound (s : State) : Prop :=
  s.chamber.feed.Nodup ∧
    (∀ tag ∈ s.chamber.feed, ∃ r, s.findUnit tag = some r ∧ r.place = some .queued) ∧
    (∀ i tag, (s.station i).unit = some tag →
      ∃ r, s.findUnit tag = some r ∧ r.place = some .station ∧ r.station = some i) ∧
    ∀ tag, s.chamber.unit = some tag → ∃ r, s.findUnit tag = some r ∧ r.place = some .chamber

/-- The analyser queue holds each station at most once (R32). -/
def Classifier.queueSound (c : Classifier) : Prop := c.queue.Nodup

/-- Order numbers run from 1 to 255 (R192). -/
def FieldLoop.numbersSound (l : FieldLoop) : Prop :=
  (1 ≤ l.nextNumber ∧ l.nextNumber ≤ Config.lastOrderNumber) ∧
    ∀ o ∈ l.orders, 1 ≤ o.number ∧ o.number ≤ Config.lastOrderNumber

end Sys2Proof.Machine
end

