-- ==== Sys2Proof/WellFormed.lean ====
section
/-!
DEFINITION. The ranges that a command's operands keep (Introduction, Units and ranges; R184, R192).

A number of a command line parses only up to 4,294,967,295 (R184), and a node's quantity lies in its
unit's range.  `exec` is total and does not ask for these ranges (log 38).
-/

namespace Sys2Proof

def fitsNumber (n : Nat) : Bool := n ≤ maxNumber
def fitsPressure (n : Nat) : Bool := n ≤ 4000
def fitsOxygen (n : Nat) : Bool := n ≤ 1000
def fitsPercent (n : Nat) : Bool := n ≤ 100
def fitsTemperature (t : Int) : Bool := -200 ≤ t && t ≤ 150
def fitsBand (n : Nat) : Bool := n ≤ 4095

/-- Order numbers run from 1 to 255 (R192). -/
def OrderReport.wf (r : OrderReport) : Bool := 1 ≤ r.number && r.number ≤ 255

def StationAnswer.wf (a : StationAnswer) : Bool :=
  a.reports.all OrderReport.wf && fitsPressure a.pressure && fitsNumber a.oil

def AnalyserAnswer.wf (a : AnalyserAnswer) : Bool :=
  a.reports.all OrderReport.wf && a.bands.toList.all fitsBand

def TrainAnswer.wf (a : TrainAnswer) : Bool :=
  a.reports.all OrderReport.wf && fitsPressure a.suction && fitsPressure a.discharge
    && fitsNumber a.delta

def BayAnswer.wf (a : BayAnswer) : Bool :=
  a.platforms.toList.all fun p => fitsNumber p.net

def ChamberReadings.wf (r : ChamberReadings) : Bool :=
  fitsOxygen r.o2 && fitsNumber r.foam && fitsPercent r.lel

def ChamberAnswer.wf (a : ChamberAnswer) : Bool :=
  a.reports.all OrderReport.wf && a.readings.wf

def CondenserAnswer.wf (a : CondenserAnswer) : Bool :=
  a.reports.all OrderReport.wf && fitsTemperature a.bankA.temperature
    && fitsTemperature a.bankB.temperature && fitsNumber a.inlet && fitsNumber a.drain

def SafetyAnswer.wf (a : SafetyAnswer) : Bool := fitsPercent a.lel

/-- A line holds at most 400 characters and no CR or LF (R182). -/
def Line.wf (l : Line) : Bool :=
  l.chars.length ≤ 400 &&
    l.chars.all fun c => c != RxChar.byte 0x0D#8 && c != RxChar.byte 0x0A#8

/-- The characters received before a line feed hold no line feed (R182). -/
def fitsReceived (received : List RxChar) : Bool :=
  received.all fun c => c != RxChar.byte 0x0A#8

/-- The numbers of a command parse (R184), and the list of SET-PATHS is not empty. -/
def Command.wf : Command → Bool
  | .admitUnit tag station _ _ => fitsNumber tag && fitsNumber station
  | .queryUnit tag _ => fitsNumber tag
  | .takeClosed count => fitsNumber count
  | .loadSignatures rows => fitsNumber rows
  | .release station => fitsNumber station
  | .retire station => fitsNumber station
  | .resume station => fitsNumber station
  | .setPaths station trains => fitsNumber station && trains.all fitsNumber && !trains.isEmpty
  | .trainService train _ => fitsNumber train
  | .insertVessel slot id _ tare initial fill =>
    fitsNumber slot && fitsNumber id && fitsNumber tare && fitsNumber initial && fitsNumber fill
  | .closeVessel slot => fitsNumber slot
  | .removeVessel slot => fitsNumber slot
  | .queryVessel slot => fitsNumber slot
  | .withdrawFeed tag => fitsNumber tag
  | .setWatch tag _ => fitsNumber tag
  | .clearWatch (.entry tag _) => fitsNumber tag
  | .clearWatch .all => true
  | .setLimit _ value => fitsNumber value
  | .signatureDigest | .clearSignatures | .abortChamber | .bankService _ | .swapBanks
  | .queryCondenser _ | .setMasks _ | .report | .start | .stop | .step | .status | .getLimit _
  | .reset _ => true

/-- The operands of a command or event lie in their ranges. -/
def Instr.wf : Instr → Bool
  | .lineCompleted received => fitsReceived received
  | .sigRow row => row.wf
  | .admitUnit tag station r f => (Command.admitUnit tag station r f).wf
  | .queryUnit tag final => (Command.queryUnit tag final).wf
  | .takeClosed count => (Command.takeClosed count).wf
  | .loadSignatures rows => (Command.loadSignatures rows).wf
  | .stationAnswer _ a => a.wf
  | .release station => (Command.release station).wf
  | .retire station => (Command.retire station).wf
  | .resume station => (Command.resume station).wf
  | .trainAnswer _ a => a.wf
  | .setPaths station trains => (Command.setPaths station trains).wf
  | .trainService train state => (Command.trainService train state).wf
  | .bayAnswer a => a.wf
  | .insertVessel slot id cls tare initial fill =>
    (Command.insertVessel slot id cls tare initial fill).wf
  | .closeVessel slot => (Command.closeVessel slot).wf
  | .removeVessel slot => (Command.removeVessel slot).wf
  | .queryVessel slot => (Command.queryVessel slot).wf
  | .chamberAnswer a => a.wf
  | .withdrawFeed tag => (Command.withdrawFeed tag).wf
  | .condenserAnswer a => a.wf
  | .safetyAnswer a => a.wf
  | .setWatch tag phase => (Command.setWatch tag phase).wf
  | .clearWatch which => (Command.clearWatch which).wf
  | .setLimit name value => (Command.setLimit name value).wf
  | .orderTimeout number => 1 ≤ number && number ≤ 255
  | .analyserAnswer a => a.wf
  | .resetPinAsserted | .powerOnReset | .heldQueryExpiry | .signatureDigest | .clearSignatures
  | .evacOvertime _ | .oilDeadline _ | .trainPurgeEnd _ | .trainTailExpiry _ | .purgeTimeout
  | .clearEnd | .abortChamber | .bankCoolTimeout _ | .bankMaxTime _ | .defrostOverrun _
  | .drainDeadline _ | .bankService _ | .swapBanks | .queryCondenser _ | .setMasks _ | .report
  | .start | .stop | .step | .status | .getLimit _ | .reset _ | .lineReset | .clearReset
  | .poll _ | .missedAnswer _ _ => true

end Sys2Proof
end

