-- ==== Sys2Proof/Certificates/Slice0/Obligations.lean ====
section
/-!
DEFINITION. The statements for the provers: what the rules of the spec say that the commands and events of
the HB-740 do, and what holds of its state at every moment.

A statement of what a command does has the form `exec c s = .next u.afterEvent`: `u` is the state that the
rule gives, and `afterEvent` is what every event ends with, which `EventEndSetsAttnAndEndsHolds` says whole.
The shared operations that `u` names (`raise`, `halt`, `issue`, `watchEntry`, `closeUnit`, `faultStation`
and others) have statements of their own.
-/

open Sys2Proof Sys2Proof.Machine

/-! ## The machine, its time and its resets -/

/-- A step runs the command at the front of the queue, on the state with the queue's rest. -/
def Obligations.StepRunsFrontCommand : Prop :=
  ∀ (c : Instr) (s : State) (q : List Instr),
    step (s.setPending (c :: q)) = exec c (s.setPending q)

/-- What passes with time (R60, R140): the moment, the evacuation clocks that run, and the condensing
time of a CONDENSING bank; nothing else.  That a step on an empty queue lets a millisecond pass, and the
millisecond itself, are the model's choice (log 1, log 7). -/
def Obligations.EmptyQueueLetsTimePass : Prop :=
  ∀ s : State,
    (s.pending = [] → s.resetPin = false → step s = .next (s.advance 1)) ∧
    (s.pending = [] → s.resetPin = true → step s = .next s) ∧
    ∀ dt : Moment, ∃ (clock : Vector Station 8) (time : BankId → Bank),
      s.advance dt =
        { s with
          now := s.now + dt
          stations := clock
          condenser := { s.condenser with bankA := time .a, bankB := time .b } } ∧
      (∀ i : StationId, clock.get i =
        { s.station i with
          clock := (s.station i).clock +
            if (s.station i).phase = .evacuate ∧ (s.station i).suspended = false ∧
              (s.station i).awaitingVessel = false ∧ s.control.line ≠ .halted then dt else 0 }) ∧
      ∀ bk, time bk =
        { s.bank bk with
          condensingTime := (s.bank bk).condensingTime +
            if (s.bank bk).state = .condensing then dt else 0 }

/-- Every command answers a next state, and leaves the queue as its sender filled it.  Only the two rows
of the RESET pin change the pin. -/
def Obligations.EveryCommandAnswersAndKeepsQueue : Prop :=
  ∀ (c : Instr) (s : State), ∃ t, exec c s = .next t ∧ t.pending = s.pending ∧
    (c ≠ .resetPinAsserted → c ≠ .powerOnReset → t.resetPin = s.resetPin)

/-- What every event ends with.  First the swap of R142, if it is due.  Then the credits of R172, and no
others, are withdrawn: of a station that holds no unit or stands in FAULTED or DONE, and of a chamber that
is FAULTED, or IDLE with an empty feed queue.  If the line is then in STEP, no credit is held and every
holder is at rest (R51), the line stops and STEP_DONE is raised with origin line and detail 0 (R173); else
nothing more is done.  That the three tests come at the end of every event, in that order, is log 19, and
that a station which takes a new unit within the step is a holder still is log 47 (both DEDUCED).  With no
hold to end, the ATTN pin is then set (R164), and the model's own two fields of one event move on (log 9,
log 20).
An event that leaves the held query's unit with no open accumulation ends the hold: the reply carries
`final=yes` and the record as the event leaves it (R21), and the interface becomes READY; a line in the
buffer is then taken as a command in the same event (R187), which ends as that command's own event does. -/
def Obligations.EventEndSetsAttnAndEndsHolds : Prop :=
  ((∀ (u w x : State) (ended : Prop), w = u.swapTest →
     x = w.setControl { w.control with
       credits := w.control.credits.filter fun i => decide ((w.station i).unit ≠ none ∧
         (w.station i).phase ≠ .faulted ∧ (w.station i).phase ≠ .done)
       chamberCredit := w.control.chamberCredit && decide (w.chamber.phase ≠ .faulted ∧
         ¬ (w.chamber.phase = .idle ∧ w.chamber.feed = [])) } →
     (ended ↔ x.control.line = .step ∧ x.control.credits = [] ∧ x.control.chamberCredit = false ∧
       (∀ i ∈ x.control.holders, (x.station i).nextPhase ≠ none ∨
         (x.station i).phase ∈ [.empty, .faulted, .loaded, .done, .sampleWait, .trainWait] ∨
         (x.station i).phase = .evacuate ∧
           ((x.station i).suspended = true ∨ (x.station i).awaitingVessel = true)) ∧
       (x.control.chamberHolder = true →
         x.chamber.nextPhase ≠ none ∨ x.chamber.phase ∈ [.idle, .faulted, .suspended])) →
     (ended → u.settleBlocks = x.lineStop.raise .stepDone .line { first := 0, second := none }) ∧
     (¬ ended → u.settleBlocks = x)) ∧
   (∀ u : State, (∀ bk, (u.bank bk).state ≠ .condensing) → u.swapTest = u) ∧
   (∀ u : State, u.nothingDue → u.settleBlocks = u) ∧
   ∀ u v : State, v = u.settleBlocks →
     (∀ q, v.link.state = .held q → v.openAccumulation q.tag = true) →
     u.afterEvent =
       { v with
         freeCount := v.freeCount + 1
         monitor := { v.monitor with
           attn := decide (∃ e ∈ v.monitor.entries,
             classEnabled v.monitor.masks (kindClass e.kind) = true) ||
             v.control.line == .halted }
         control := { v.control with hitTop := none } }) ∧
  ∀ (u v : State) (q : HeldQuery) (r : UnitRecord), v = u.settleBlocks → v.link.state = .held q →
    v.openAccumulation q.tag = false → v.queriedUnit q.tag = some r →
    ∃ w : State,
      w = { v with link := { v.link with
        state := .ready
        buffer := none
        sent := v.link.sent ++
          [okLine .queryUnit (field "final" (ascii "yes") ++ r.allFields)] } } ∧
      (v.link.buffer = none → u.afterEvent = w.afterEvent) ∧
      (∀ l f, v.link.buffer = some l → readLine l = .framing f →
        u.afterEvent = (w.send [framingLine f]).afterEvent) ∧
      ∀ l c, v.link.buffer = some l → readLine l = .command c → v.resetPin = false →
        exec (rowFor c) w = .next u.afterEvent

/-- Between two events no swap is due (R142), no credit stands that R172 withdraws, and no step is over
(R173).  That a holder station which takes a new unit within the step is a holder still is log 47
(DEDUCED). -/
def Obligations.NothingIsDueBetweenEvents : Prop :=
  ∀ s t : State, s.nothingDue → step s = .next t → t.nothingDue

/-- The asserted RESET pin releases the two pins (R181, R188).  That while it is asserted no command but
its release has any effect is the model's (log 6, DEDUCED).
The released RESET pin gives every block its power-on state (R181 and the power-on rule of each
block).  The queue is the sender's, and the index of free values goes on (log 9); the values of
`now`, `freeCount`, `hitTop`, `lastPoll` and the fields of log 13 are the model's (log 41). -/
def Obligations.ResetPinStopsAndRestoresThePart : Prop :=
  ((∀ s : State, exec .resetPinAsserted s =
     .next
       { s with
         resetPin := true
         monitor := { s.monitor with attn := false }
         control := { s.control with haltPin := false } }) ∧
   ∀ (c : Instr) (s : State), s.resetPin = true → c ≠ .resetPinAsserted → c ≠ .powerOnReset →
     exec c s = .next s) ∧
  ∀ s : State, ∃ t, exec .powerOnReset s = .next t ∧
    t.pending = s.pending ∧ t.resetPin = false ∧ t.now = 0 ∧ t.freeCount = s.freeCount + 1 ∧
    t.register = { units := [], closing := [], log := [], logFull := false } ∧
    ((∀ i, t.classifier.table.get i = none) ∧ t.classifier.queue = [] ∧ t.classifier.cycle = none) ∧
    (∀ i, t.station i =
      { phase := .empty, nextPhase := none, unit := none, faultedPhase := none, unclamping := false
        train := none, requestTime := none, clock := 0, evacValve := .closed, suspended := false
        awaitingVessel := false, riseEntry := none, holdEnd := none, oilReference := none
        oilDeadline := none, oilReadings := [], unsecured := [], pierceDone := false
        workOrder := none, evacOrder := none, drainOrder := none }) ∧
    ((∀ i, t.train i =
      { state := .idle, lastClass := none, carried := none, station := none, tag := none, slot := none
        purgeEnd := none, tailEnd := none }) ∧
      (∀ i, t.arbiter.paths.get i = [0, 1, 2, 3]) ∧ t.arbiter.requests = []) ∧
    (∀ k, t.slot k = { vessel := none, platform := none }) ∧
    t.chamber =
      { feed := [], phase := .idle, nextPhase := none, unit := none, repurge := false
        returnPhase := none, faultedPhase := none, foamStart := none, emptyNoted := false
        purgeEnd := none, clearEnd := none, nitrogenOpen := false, readings := none
        doorOrder := none } ∧
    ((∀ bk, t.bank bk =
      { state := .warm, temperature := none, load := 0, condensingTime := 0, swapPending := false
        hardRaised := false, window := [], drained := 0, drainSlot := none, drainValve := .closed
        drainEnded := false, drainDeadline := none, seenNonzero := false, coolDeadline := none
        defrostDeadline := none, defrostRemaining := none, overrunRaised := false, waitSince := none
        paused := false, faultAfterDrain := false, drainOrder := none }) ∧
      t.condenser.started = false ∧ t.condenser.lastDrainBank = none) ∧
    (t.monitor.entries = [] ∧ t.monitor.overflow = false ∧ t.monitor.attn = false ∧
      t.monitor.masks =
        { supply := true, process := false, condenser := false, accounting := true
          operator := false }) ∧
    (t.control.line = .stopped ∧ t.control.credits = [] ∧ t.control.chamberCredit = false ∧
      t.control.holders = [] ∧ t.control.chamberHolder = false ∧ t.control.hitTop = none ∧
      t.control.watch = [] ∧ t.control.haltPin = false ∧
      t.control.settings =
        { pierceEmpty := 120, evacTarget := 30, evacMax := 1200, riseHold := 120, riseLimit := 15
          evacAttempts := 3, oilSettle := 5, oilMax := 300, purgeO2 := 40, pauseO2 := 50
          purgeMax := 300, lelWarn := 10, bankSwapLoad := 1800, bankHardLoad := 2200
          bankMaxTime := 2400, defrostMax := 900, trainPurge := 90, holdMax := 30
          discrepancyGrams := 50, discrepancyPercent := 2 }) ∧
    t.link = { state := .ready, assembly := { chars := [], overLength := false }, buffer := none, sent := [] } ∧
    ((∀ n, t.node n = { misses := 0, silent := false, previousTaken := true }) ∧
      t.loop.orders = [] ∧ t.loop.nextNumber = 1 ∧ t.loop.nextPoll = 0 ∧ t.loop.lastPoll = none)

/-! ## What holds at every moment -/

/-- The power-on state keeps everything that the spec says of the part at every moment. -/
def Obligations.PowerOnStateIsSound : Prop :=
  State.reset.settingsInBounds ∧ State.reset.monitor.sound ∧ State.reset.pinsAgree ∧
    State.reset.register.booksSound ∧ State.reset.register.closedSound ∧
    State.reset.register.sizesSound ∧ State.reset.control.stepOnly ∧
    State.reset.control.watchSound ∧ State.reset.arbiter.pathsSound ∧
    State.reset.arbiter.requestsSound ∧ State.reset.classifier.queueSound ∧
    State.reset.chamber.feedSound ∧ State.reset.placesSound ∧ State.reset.condenser.oneEach ∧
    State.reset.loop.numbersSound ∧ State.reset.nothingDue

/-- Every setting stays in its range, with the two pairs that bound one another (R178).
The pending list holds at most 32 entries and never two with the same kind and origin, and each
repeat count is 1 to 255 (R161).
The HALT pin is asserted exactly in HALTED and the ATTN pin at its level, and both are released
while the RESET pin is asserted (R164, R169, R181). -/
def Obligations.SettingsListAndPinsStaySound : Prop :=
  (∀ s t : State, s.settingsInBounds → step s = .next t → t.settingsInBounds) ∧
  (∀ s t : State, s.monitor.sound → step s = .next t → t.monitor.sound) ∧
  ∀ s t : State, s.pinsAgree → step s = .next t → t.pinsAgree

/-- Every record keeps its books: the total is the sum of the entries' grams, the agent field the sum of
the shares, at most 4 entries and at most one open (R6, R7); closed records keep the digest of their
canonical line (R11); the register and the log keep their sizes and the register its distinct tags, and
records wait in CLOSING behind a full log only (R8, R12, R13). -/
def Obligations.RecordBooksStaySound : Prop :=
  ∀ s t : State,
    s.register.booksSound ∧ s.register.closedSound ∧ s.register.sizesSound →
    step s = .next t →
    t.register.booksSound ∧ t.register.closedSound ∧ t.register.sizesSound

/-- Credits and holders stand in STEP only (R171); the watch list (R175), the path lists (R82), the
request list, with at most one request for each station (R83), the analyser queue (R32) and the feed queue
(R117) keep their sizes and orders.  The feed queue holds a tag at most once, each of a record in place
QUEUED (R117), and a station's unit and the chamber's are records in place STATION, at that station, and
CHAMBER (R9).
At most one bank is CONDENSING and at most one holds a drain slot (R139, R144); order numbers run
from 1 to 255 (R192). -/
def Obligations.ListsAndBanksStaySound : Prop :=
  ((∀ s t : State,
     s.control.stepOnly ∧ s.control.watchSound ∧ s.arbiter.pathsSound ∧ s.arbiter.requestsSound ∧
       s.classifier.queueSound ∧ s.chamber.feedSound →
     step s = .next t →
     t.control.stepOnly ∧ t.control.watchSound ∧ t.arbiter.pathsSound ∧ t.arbiter.requestsSound ∧
       t.classifier.queueSound ∧ t.chamber.feedSound) ∧
   ∀ s t : State, s.register.sizesSound ∧ s.placesSound → step s = .next t → t.placesSound) ∧
  ∀ s t : State, s.condenser.oneEach ∧ s.loop.numbersSound → step s = .next t →
    t.condenser.oneEach ∧ t.loop.numbersSound

/-! ## Lines and checks -/

/-- The worked check value of R196, step by step.
Every line that the part sends ends in a space, `#`, the check over every character before the `#`,
CR and LF (R185).
Every line in `sent` is one that ends in its check (R185), and each step keeps this. -/
def Obligations.CheckValueIsAsWorked : Prop :=
  (crc [0x31#8, 0x32#8, 0x33#8, 0x34#8, 0x35#8, 0x36#8, 0x37#8, 0x38#8, 0x39#8] = 0xAEE7#16 ∧
     crcByte 0xFFFF#16 0x31#8 = 0x7DA7#16 ∧
     (0xFFFF#16 ^^^ ((0x31#8).setWidth 16 <<< 8) = 0xCEFF#16 ∧
       crcShift 0xCEFF#16 = 0x1DFB#16 ∧ crcShift 0x1DFB#16 = 0x3BF6#16 ∧
       crcShift 0x3BF6#16 = 0x77EC#16 ∧ crcShift 0x77EC#16 = 0xEFD8#16 ∧
       crcShift 0xEFD8#16 = 0x5FB5#16 ∧ crcShift 0x5FB5#16 = 0xBF6A#16 ∧
       crcShift 0xBF6A#16 = 0xFED1#16 ∧ crcShift 0xFED1#16 = 0x7DA7#16) ∧
     ∀ (r : Check) (b : Byte) (t : Text), crcFrom r.toNat (b :: t) = crcFrom (crcByte r b).toNat t) ∧
  (∀ body : Text, sealLine body =
     body ++ [0x20#8, 0x23#8] ++ hex4 (crc (body ++ [0x20#8])) ++ [0x0D#8, 0x0A#8]) ∧
  ∀ s t : State, (∀ l ∈ s.link.sent, ∃ body, l = sealLine body) → step s = .next t →
    ∀ l ∈ t.link.sent, ∃ body, l = sealLine body

/-- A command, with every operand at every value that its fields can hold, is read back from the line
that spells it (R183, R184), unless that line is over length. -/
def Obligations.CommandLinesReadBack : Prop :=
  ∀ c : Command, c.wf = true → (commandLine c).overLength = false →
    readLine (commandLine c) = .command c

/-- The five tests of R183, in their order: each failing line's reply, and the command of a line that
passes all five.
A line feed completes the line in assembly: CR is discarded, and characters after the 400th mark the
line over length; an empty line is none (R182).  In READY a line that fails a test of R183 is answered
with that test's reply and nothing else, and a line that spells a command does what the command's row
does. -/
def Obligations.LinesAreTestedAndTaken : Prop :=
  (∀ l : Line,
     (l.overLength = true → readLine l = .framing .badLength) ∧
     (l.overLength = false → (∀ body, lineBody l ≠ some body) → readLine l = .framing .badCheck) ∧
     ∀ body, l.overLength = false → lineBody l = some body →
       ((∀ w ∈ commandWords, ascii (commandText w) ≠ firstWord body) →
         readLine l = .framing .what) ∧
       ∀ w, wordOf commandWords commandText (firstWord body) = some w →
         ((∀ fs, lineFields body = some fs → fieldsFit w fs = false) →
           readLine l = .framing .badField) ∧
         ∀ fs, lineFields body = some fs → fieldsFit w fs = true →
           (commandOf w fs = none → readLine l = .framing .badValue) ∧
           ∀ c, commandOf w fs = some c → readLine l = .command c) ∧
  ∀ (s : State) (received : List RxChar), s.takesCommand → s.link.assembly.overLength = false →
    ∃ u : State, u = { s with link := { s.link with assembly := { chars := [], overLength := false } } } ∧
      ∀ chars, chars = s.link.assembly.chars ++ received.filter (· != .byte 0x0D#8) →
        (chars = [] → exec (.lineCompleted received) s = .next u.afterEvent) ∧
        (chars ≠ [] →
          (∀ f, readLine { chars := chars.take 400, overLength := 400 < chars.length } = .framing f →
            exec (.lineCompleted received) s = .next (u.send [framingLine f]).afterEvent) ∧
          ∀ c, readLine { chars := chars.take 400, overLength := 400 < chars.length } = .command c →
            exec (.lineCompleted received) s = exec (rowFor c) u)

/-- A line completed in HELD or RESETTING, which SIG_ROW stands for there (log 4), is kept as received in
an empty buffer; with a line in the buffer it is discarded and LINK_OVERRUN raised (R187).
A line that completes in any state of the interface is taken as SIG_ROW gives it (log 4), and a
command row in HELD, LOADING or RESETTING is its line completed there (log 4).
The tests of a row (R45; unknown and repeated fields are log 30's): a row that passes them gives its
entry, and each test that fails makes it invalid.
A row of an open load: it counts, a good row before the bad-row mark is written, the first invalid
row sets the mark, and the last row closes the load with its single reply (R45, R46). -/
def Obligations.RowsAndWaitingLinesAreTaken : Prop :=
  (∀ (s : State) (row : Line), s.resetPin = false →
     ((∃ q, s.link.state = .held q) ∨ ∃ k, s.link.state = .resetting k) →
     (s.link.buffer = none → exec (.sigRow row) s =
       .next ({ s with link := { s.link with buffer := some row } } : State).afterEvent) ∧
     ∀ kept, s.link.buffer = some kept → exec (.sigRow row) s =
       .next (s.raise .linkOverrun .line { first := 0, second := none }).afterEvent) ∧
  ((∀ (s : State) (received : List RxChar), s.resetPin = false →
     s.link.assembly.overLength = false →
     ∃ u : State,
       u = { s with link := { s.link with assembly := { chars := [], overLength := false } } } ∧
       ∀ chars, chars = s.link.assembly.chars ++ received.filter (· != .byte 0x0D#8) →
         (chars = [] → exec (.lineCompleted received) s = .next u.afterEvent) ∧
         (chars ≠ [] → exec (.lineCompleted received) s =
           exec (.sigRow { chars := chars.take 400, overLength := 400 < chars.length }) u)) ∧
   ∀ (s : State) (c : Command), s.link.state ≠ .ready →
     exec (rowFor c) s = exec (.sigRow (commandLine c)) s) ∧
  ((∀ (t : Text) (w : BandWindow), windowOf t = some w ↔ ∃ a b, splitAt 0x3A#8 t = [a, b] ∧
     numberOf a = some w.low ∧ numberOf b = some w.high ∧ w.low ≤ w.high ∧ w.high ≤ 4095) ∧
   ∀ l : Line,
     (l.overLength = true → readRow l = none) ∧
     ((∀ body, lineBody l ≠ some body) → readRow l = none) ∧
     ∀ body, l.overLength = false → lineBody l = some body →
       (firstWord body ≠ ascii "SIG" → readRow l = none) ∧
       ((∀ fs, lineFields body ≠ some fs) → readRow l = none) ∧
       ∀ fs, firstWord body = ascii "SIG" → lineFields body = some fs →
         ((∀ i : SignatureId, numberIn fs "index" ≠ some i.val) → readRow l = none) ∧
         (∀ v, valueOf fs "valid" = some v → v ≠ ascii "yes" → v ≠ ascii "no" → readRow l = none) ∧
         ∀ i : SignatureId, numberIn fs "index" = some i.val →
           (valueOf fs "valid" = some (ascii "no") →
             (namesFit fs ["index", "valid"] [] = true →
               readRow l = some { index := i, entry := none }) ∧
             (namesFit fs ["index", "valid"] [] = false → readRow l = none)) ∧
           ∀ fits, valueOf fs "valid" = none ∨ valueOf fs "valid" = some (ascii "yes") →
             fits = namesFit fs ["index", "class", "invert"] ["valid", "bands", "windows"] →
             (fits = false → readRow l = none) ∧
             ((∀ c, valueOf fs "class" ≠ some (ascii (gasWord c))) → readRow l = none) ∧
             ((∀ inv, valueOf fs "invert" ≠ some (yesNo inv)) → readRow l = none) ∧
             ((∃ t ∈ itemsIn fs "bands", ∀ b : Band, numberOf t ≠ some (b.val + 1)) →
               readRow l = none) ∧
             ((∃ t ∈ itemsIn fs "windows", windowOf t = none) → readRow l = none) ∧
             ((itemsIn fs "bands").length ≠ (itemsIn fs "windows").length → readRow l = none) ∧
             ∀ (c : GasClass) (inv : Bool) (ps : List (Band × BandWindow)),
               valueOf fs "class" = some (ascii (gasWord c)) →
               valueOf fs "invert" = some (yesNo inv) →
               (itemsIn fs "bands").map numberOf = ps.map (fun p => some (p.1.val + 1)) →
               (itemsIn fs "windows").map windowOf = ps.map (fun p => some p.2) →
               (¬ (ps.map fun p => p.1).Nodup → readRow l = none) ∧
               (fits = true → (ps.map fun p => p.1).Nodup →
                 ∃ ws : Vector (Option BandWindow) 6,
                   (∀ p ∈ ps, ws.get p.1 = some p.2) ∧
                   (∀ b, (∀ p ∈ ps, p.1 ≠ b) → ws.get b = none) ∧
                   readRow l = some
                     { index := i, entry := some { cls := c, windows := ws, invert := inv } })) ∧
  ∀ (s : State) (row : Line) (l : Load), s.resetPin = false → s.link.state = .loading l →
    ∃ (t : Vector (Option Signature) 16) (l' : Load),
      l'.expected = l.expected - 1 ∧
      (l.badRow = true → t = s.classifier.table ∧ l'.badRow = true ∧ l'.lastRow = l.lastRow) ∧
      (l.badRow = false → readRow row = none →
        t = s.classifier.table ∧ l'.badRow = true ∧ l'.lastRow = l.lastRow) ∧
      (∀ e, l.badRow = false → readRow row = some e →
        t = s.classifier.table.set e.index.val e.entry e.index.isLt ∧ l'.badRow = false ∧
          l'.lastRow = some e.index) ∧
      (1 < l.expected → exec (.sigRow row) s =
        .next ({ s with
          classifier := { s.classifier with table := t }
          link := { s.link with state := .loading l' } } : State).afterEvent) ∧
      (l.expected = 1 → exec (.sigRow row) s =
        .next ({ s with
          classifier := { s.classifier with table := t }
          link := { s.link with
            state := .ready
            sent := s.link.sent ++
              [sealLine ((if l'.badRow then ascii "NO LOAD-SIGNATURES reason=BAD_ROW"
                  else ascii "OK LOAD-SIGNATURES") ++
                field "last" (match l'.lastRow with
                  | some i => numText i.val
                  | none => ascii "none"))] } } : State).afterEvent)

/-! ## Refusals -/

/-- The refusals of the commands about units: the reason of the first condition that holds, and nothing
else (R15, R17, R24, R70, R72, R73, R118).
The refusals of the commands about tables and vessels (R44, R48, R82, R93, R107, R109, R110, R113).
That a station at the boundary after SAMPLING refuses the signature commands too is log 37 (DEDUCED).
The refusals of the commands about the line, the chamber and the condenser (R131, R151, R152, R170,
R171, R175, R179). -/
def Obligations.CommandsAreRefusedInOrder : Prop :=
  (∀ s : State, s.takesCommand →
     (∀ tag station r f, s.refuses (.admitUnit tag station r f) .admitUnit
       [(tag == 0 || station == 0 || 8 < station, .range),
         ((s.register.units ++ s.register.closing).any fun r => r.tag == tag, .duplicate),
         (48 ≤ s.register.units.length + s.register.closing.length, .full),
         ((stationOf station).any fun i => (s.station i).phase != .empty, .stationBusy),
         ((stationOf station).any fun i => (s.node (.station i)).silent, .nodeSilent),
         (s.control.line == .halted, .lineHalted)]) ∧
     (∀ tag final, s.refuses (.queryUnit tag final) .queryUnit
       [(!(s.register.units ++ s.register.closing ++ s.register.log).any fun r => r.tag == tag,
         .noSuchUnit)]) ∧
     (∀ count, s.refuses (.takeClosed count) .takeClosed [(count == 0 || 4 < count, .range)]) ∧
     (∀ station, s.refuses (.release station) .release
       [(station == 0 || 8 < station, .range),
         ((stationOf station).any fun i =>
           (s.station i).phase != .done || (s.station i).unit.isNone, .wrongState),
         ((stationOf station).any fun i => (s.node (.station i)).silent, .nodeSilent),
         (6 ≤ s.chamber.feed.length, .queueFull)]) ∧
     (∀ station, s.refuses (.retire station) .retire
       [(station == 0 || 8 < station, .range),
         ((stationOf station).any fun i =>
           ((s.station i).phase != .done && (s.station i).phase != .faulted) ||
             ((s.station i).phase == .done && (s.station i).unit.isNone) ||
             (s.station i).unclamping || (s.station i).train.isSome ||
             !(s.station i).unsecured.isEmpty, .wrongState),
         ((stationOf station).any fun i => (s.node (.station i)).silent, .nodeSilent)]) ∧
     (∀ station, s.refuses (.resume station) .resume
       [(station == 0 || 8 < station, .range),
         (s.control.line == .halted, .lineHalted),
         ((stationOf station).any fun i =>
           (s.station i).phase != .faulted || (s.station i).unit.isNone ||
             (s.station i).train.isSome || !(s.station i).unsecured.isEmpty, .wrongState),
         ((stationOf station).any fun i => (s.node (.station i)).silent, .nodeSilent)]) ∧
     ∀ tag, s.refuses (.withdrawFeed tag) .withdrawFeed
       [(tag == 0, .range),
         (!(s.register.units ++ s.register.closing).any fun r => r.tag == tag, .noSuchUnit),
         ((s.findInRegister tag).any fun r => r.place != some .queued, .wrongState)]) ∧
  (∀ s : State, s.takesCommand →
     (∀ rows, s.refuses (.loadSignatures rows) .loadSignatures
       [(rows == 0 || 16 < rows, .range),
         (s.control.line != .stopped || stationIds.any fun i => (s.station i).phase == .sampling,
           .wrongState)]) ∧
     s.refuses .clearSignatures .clearSignatures
       [(s.control.line != .stopped || stationIds.any fun i => (s.station i).phase == .sampling,
         .wrongState)] ∧
     (∀ station trains, s.refuses (.setPaths station trains) .setPaths
       [(station == 0 || 8 < station || trains.isEmpty || 4 < trains.length ||
           (trains.any fun n => n == 0 || 4 < n) || !decide trains.Nodup, .range),
         (s.control.line != .stopped, .wrongState)]) ∧
     (∀ train intoService, s.refuses (.trainService train intoService) .trainService
       [(train == 0 || 4 < train, .range),
         ((trainOf train).any fun t =>
           if intoService then
             (s.train t).state != .outOfService && (s.train t).state != .faulted
           else (s.train t).state != .idle && (s.train t).state != .faulted, .wrongState),
         (intoService && (trainOf train).any fun t => (s.node (.train t)).silent, .nodeSilent)]) ∧
     (∀ slot id cls tare initial fill,
       s.refuses (.insertVessel slot id cls tare initial fill) .insertVessel
         [(slot == 0 || 12 < slot, .noSuchSlot),
           (id == 0 || fill ≤ initial, .range),
           ((slotOf slot).any fun k => (s.slot k).vessel.isSome, .slotBusy),
           ((slotOf slot).any fun k => slotIds.any fun j =>
             j != k && (s.slot j).vessel.any fun v => v.id == id, .duplicate),
           ((s.node .bay).silent, .nodeSilent),
           ((slotOf slot).any fun k => !(s.slot k).platform.any fun p => p.present, .notPresent)]) ∧
     (∀ slot, s.refuses (.closeVessel slot) .closeVessel
       [(slot == 0 || 12 < slot, .noSuchSlot),
         ((slotOf slot).any fun k => (s.slot k).vessel.isNone, .wrongState)]) ∧
     (∀ slot, s.refuses (.removeVessel slot) .removeVessel
       [(slot == 0 || 12 < slot, .noSuchSlot),
         ((slotOf slot).any fun k =>
           !(s.slot k).vessel.any fun v => v.state != .filling, .wrongState),
         ((slotOf slot).any fun k =>
           (trainIds.any fun t => (s.train t).slot == some k) ||
             bankIds.any fun bk => (s.bank bk).drainSlot == some k, .feeding),
         ((s.node .bay).silent, .nodeSilent)]) ∧
     ∀ slot, s.refuses (.queryVessel slot) .queryVessel [(slot == 0 || 12 < slot, .noSuchSlot)]) ∧
  ∀ s : State, s.takesCommand →
    s.refuses .abortChamber .abortChamber
      [(s.control.line == .halted, .lineHalted),
        (s.chamber.phase != .faulted || s.chamber.readings.any fun r => r.running, .wrongState)] ∧
    (∀ bk, s.refuses (.bankService bk) .bankService
      [((s.bank bk).state != .faulted || (s.bank bk).drainSlot.isSome, .wrongState),
        ((s.node .condenser).silent, .nodeSilent)]) ∧
    s.refuses .swapBanks .swapBanks
      [(bankIds.all fun bk => (s.bank bk).state != .condensing, .wrongState)] ∧
    s.refuses .start .start
      [(s.control.line == .step, .wrongState), (s.control.line == .halted, .lineHalted)] ∧
    s.refuses .stop .stop [(s.control.line == .halted, .lineHalted)] ∧
    s.refuses .step .step
      [(s.control.line == .run || s.control.line == .step, .wrongState),
        (s.control.line == .halted, .lineHalted)] ∧
    (∀ tag phase, s.refuses (.setWatch tag phase) .setWatch
      [(tag == 0 || phase == .empty || phase == .idle, .range),
        (s.control.watch.any fun w => w.tag == tag && w.phase == phase, .duplicate),
        (4 ≤ s.control.watch.length, .full)]) ∧
    ∀ name value, s.refuses (.setLimit name value) .setLimit
      [(s.control.line == .halted, .lineHalted),
        (s.control.line == .run || s.control.line == .step, .wrongState),
        (value < settingLow s.limits name || settingHigh s.limits name < value, .range)]

/-! ## Queries -/

/-- QUERY-CONDENSER is answered with the bank's BANK line as it stands (R153, R198); that `time` is the
whole seconds of the condensing time is log 7 (DEDUCED), and that a negative temperature has a leading minus
sign is log 49 (DEDUCED). -/
def Obligations.QueryCondenserAnswersTheBank : Prop :=
  ∀ (s : State) (bk : BankId) (x : Bank), s.takesCommand → x = s.bank bk →
    exec (.queryCondenser bk) s =
      .next (s.send [sealLine (ascii "OK QUERY-CONDENSER" ++
        field "bank" (ascii (bankWord bk)) ++ field "state" (ascii (bankStateWord x.state)) ++
        optField "temp" (x.temperature.map intText) ++ field "load" (numText x.load) ++
        (if x.state = .condensing then
          field "time" (numText (x.condensingTime / 1000)) ++ field "swap" (yesNo x.swapPending)
        else []) ++
        listField "window" (x.window.map fun w => numText w.tag) ++
        field "drained" (numText x.drained) ++
        optField "drain-slot" (x.drainSlot.map fun k => numText (k.val + 1)) ++
        field "fault-after" (yesNo x.faultAfterDrain) ++ field "paused" (yesNo x.paused))]).afterEvent

/-- QUERY-VESSEL is answered with the slot's VESSEL line as it stands (R113, R198).
STATUS is answered with the line as it stands (R177), GET-LIMIT with the setting and its range
(R179), and SIGNATURE-DIGEST with the number of valid entries and the check over the canonical text of all
16 (R47).  That STATUS shows no swap pending is log 46 (DEDUCED). -/
def Obligations.OtherQueriesAreAnswered : Prop :=
  (∀ (s : State) (slot : Nat) (k : SlotId), s.takesCommand → slotOf slot = some k →
     exec (.queryVessel slot) s =
       .next (s.send [sealLine (ascii "OK QUERY-VESSEL" ++
         field "slot" (numText slot) ++
         field "state" (ascii (match (s.slot k).vessel with
           | none => "VACANT"
           | some v => vesselStateWord v.state)) ++
         (match (s.slot k).vessel with
           | none => []
           | some v =>
             field "id" (numText v.id) ++ field "class" (ascii (vesselClassWord v.cls)) ++
               field "tare" (numText v.tare) ++ field "initial" (numText v.initial) ++
               field "fill" (numText v.fill) ++ field "booked" (numText v.booked)) ++
         (match (s.slot k).platform with
           | none => []
           | some p => field "present" (yesNo p.present) ++ field "net" (numText p.net)) ++
         listField "feeders"
           ((trainIds.filter fun t => (s.train t).slot == some k).map (fun t => numText (t.val + 1)) ++
             (bankIds.filter fun bk => (s.bank bk).drainSlot == some k).map fun bk =>
               ascii (bankWord bk)))]).afterEvent) ∧
  ∀ s : State, s.takesCommand →
    exec .status s =
      .next (s.send [sealLine (ascii "OK STATUS" ++
        field "line" (ascii (lineStateWord s.control.line)) ++
        field "test" (yesNo (decide (s.control.watch ≠ [] ∨ s.control.line = .step))) ++
        field "overflow" (yesNo s.monitor.overflow) ++
        field "units" (numText (s.register.units.length + s.register.closing.length)) ++
        field "closed" (numText s.register.log.length) ++
        field "queue" (numText s.chamber.feed.length) ++
        listField "credits"
          ((stationIds.filter fun i => decide (i ∈ s.control.credits)).map
              (fun i => numText (i.val + 1)) ++
            if s.control.chamberCredit then [ascii "C"] else []) ++
        listField "stations" (stationIds.map fun i => (s.station i).item) ++
        listField "trains" (trainIds.map fun t => ascii (trainStateWord (s.train t).state)) ++
        listField "banks" [ascii (bankStateWord s.condenser.bankA.state),
          ascii (bankStateWord s.condenser.bankB.state)] ++
        field "chamber" s.chamber.item)]).afterEvent ∧
    (∀ name, exec (.getLimit name) s =
      .next (s.send [sealLine (ascii "OK GET-LIMIT" ++ field "name" (ascii (settingWord name)) ++
        field "value" (numText (readSetting s.limits name)) ++
        field "low" (numText (settingLow s.limits name)) ++
        field "high" (numText (settingHigh s.limits name)))]).afterEvent) ∧
    exec .signatureDigest s =
      .next (s.send [sealLine (ascii "OK SIGNATURE-DIGEST" ++
        field "valid" (numText (signatureIds.countP fun i => (s.classifier.table.get i).isSome)) ++
        field "digest" (hex4 (crc (signatureIds.flatMap fun i =>
          signatureLine i (s.classifier.table.get i) ++ [0x0A#8]))))]).afterEvent

/-! ## Commands that change one table or the line -/

/-- Accepted SET-PATHS, SET-MASKS, SET-WATCH, CLEAR-WATCH and CLEAR-SIGNATURES change their own table
and reply (R48, R82, R165, R175, R176); LOAD-SIGNATURES opens a load without a reply (R44); RESET replies
and leaves the interface RESETTING (R180, R186).
An accepted TRAIN-SERVICE makes the train OUT_OF_SERVICE, or IDLE with last class UNKNOWN and then
makes a grant scan (R93). -/
def Obligations.TableCommandsChangeTheirTable : Prop :=
  (∀ s : State, s.takesCommand →
     (∀ station i trains ts, s.control.line = .stopped → stationOf station = some i →
       pathOf trains = some ts → ts ≠ [] → ts.length ≤ 4 → ts.Nodup →
       exec (.setPaths station trains) s =
         .next (({ s with arbiter := { s.arbiter with paths := s.arbiter.paths.set i.val ts i.isLt } }
           : State).send [okLine .setPaths (field "station" (numText station) ++
             listField "trains" (trains.map numText))]).afterEvent) ∧
     (∀ m : Masks, exec (.setMasks m) s =
       .next (({ s with monitor := { s.monitor with masks := m } } : State).send
         [okLine .setMasks (field "supply" (onOff m.supply) ++ field "process" (onOff m.process) ++
           field "condenser" (onOff m.condenser) ++ field "accounting" (onOff m.accounting) ++
           field "operator" (onOff m.operator))]).afterEvent) ∧
     (∀ tag phase, tag ≠ 0 → phase ≠ .empty → phase ≠ .idle →
       ({ tag := tag, phase := phase } : WatchEntry) ∉ s.control.watch → s.control.watch.length < 4 →
       exec (.setWatch tag phase) s =
         .next (({ s with control := { s.control with
             watch := s.control.watch ++ [{ tag := tag, phase := phase }] } } : State).send
           [okLine .setWatch (field "tag" (numText tag) ++
             field "phase" (ascii (phaseNameWord phase)) ++
             field "count" (numText (s.control.watch.length + 1)))]).afterEvent) ∧
     (∀ tag phase, s.control.watch.Nodup → exec (.clearWatch (.entry tag phase)) s =
       .next (({ s with control := { s.control with
           watch := s.control.watch.erase { tag := tag, phase := phase } } } : State).send
         [okLine .clearWatch (field "removed" (numText
           (if ({ tag := tag, phase := phase } : WatchEntry) ∈ s.control.watch then 1 else 0)))]).afterEvent) ∧
     (exec (.clearWatch .all) s =
       .next (({ s with control := { s.control with watch := [] } } : State).send
         [okLine .clearWatch (field "removed" (numText s.control.watch.length))]).afterEvent) ∧
     (s.control.line = .stopped → (∀ i, (s.station i).phase ≠ .sampling) →
       exec .clearSignatures s =
         .next (({ s with classifier := { s.classifier with table := Vector.replicate 16 none } }
           : State).send [okLine .clearSignatures []]).afterEvent) ∧
     (∀ rows, s.control.line = .stopped → (∀ i, (s.station i).phase ≠ .sampling) → 1 ≤ rows →
       rows ≤ 16 → exec (.loadSignatures rows) s =
         .next ({ s with link := { s.link with
           state := .loading { expected := rows, badRow := false, lastRow := none } } }
             : State).afterEvent) ∧
     ∀ kind, exec (.reset kind) s =
       .next ({ s with link := { s.link with
         state := .resetting kind
         sent := s.link.sent ++ [okLine .reset (field "kind" (ascii (resetKindWord kind)))] } }
           : State).afterEvent) ∧
  ∀ (s : State) (train : Nat) (t : TrainId), s.takesCommand → trainOf train = some t →
    ((s.train t).state = .idle ∨ (s.train t).state = .faulted →
      exec (.trainService train false) s =
        .next ((s.setTrain t { s.train t with state := .outOfService }).send
          [okLine .trainService (field "train" (numText train) ++
            field "state" (ascii "out"))]).afterEvent) ∧
    ((s.train t).state = .outOfService ∨ (s.train t).state = .faulted →
      (s.node (.train t)).silent = false →
      exec (.trainService train true) s =
        .next ((s.setTrain t { s.train t with state := .idle, lastClass := none }).grantScan.send
          [okLine .trainService (field "train" (numText train) ++
            field "state" (ascii "in"))]).afterEvent)

/-- START, STOP, and the line stop (R170, R74, R88): an entry to RUN lets the blocks begin, and the
condenser cool the first time; in STOPPED, STOP only replies. That the condenser starts after the other
blocks, and that START answers line=RUN where a watch has stopped the line again, are log 15 (DESIGN
CHOICE).
The entry to RUN or STEP: the stations in ascending order, the chamber, the analyser's grant and the
grant scan, in this order (R169, R50, R121, R34, R84; the order is log 15), and the condenser's first
cooling (R138). -/
def Obligations.StartAndStopMoveTheLine : Prop :=
  (∀ s : State, s.takesCommand →
     (s.control.line = .stopped → exec .start s =
       .next ((({ s with control := { s.control with line := .run } } : State).lineEntered.startCondenser).send
         [okLine .start (field "line" (ascii "RUN"))]).afterEvent) ∧
     (s.control.line = .run → exec .start s =
       .next (s.send [okLine .start (field "line" (ascii "RUN"))]).afterEvent) ∧
     (s.control.line = .stopped → exec .stop s =
       .next (s.send [okLine .stop (field "line" (ascii "STOPPED"))]).afterEvent) ∧
     (s.control.line = .run ∨ s.control.line = .step → exec .stop s =
       .next (s.lineStop.send [okLine .stop (field "line" (ascii "STOPPED"))]).afterEvent)) ∧
  (∀ s : State, s.lineEntered =
    (((((((((s.testStation 0).testStation 1).testStation 2).testStation 3).testStation 4).testStation
      5).testStation 6).testStation 7).testChamber.grantAnalyser).grantScan) ∧
  ∀ s : State,
    (s.condenser.started = true → s.startCondenser = s) ∧
    (s.condenser.started = false → ∃ u v : State,
      u = { s with condenser := { s.condenser with started := true } } ∧
      ((s.bank .a).state = .warm →
        v = (u.issue .condenser .condenser (.refrigerationStart .a)).setBank .a
          { s.bank .a with state := .cooling, coolDeadline := some (s.now + 1800000) }) ∧
      ((s.bank .a).state ≠ .warm → v = u) ∧
      ((s.bank .b).state = .warm →
        s.startCondenser = (v.issue .condenser .condenser (.refrigerationStart .b)).setBank .b
          { s.bank .b with state := .cooling, coolDeadline := some (s.now + 1800000) }) ∧
      ((s.bank .b).state ≠ .warm → s.startCondenser = v))

/-- STEP in STOPPED gives its credits, withdraws at once those of R172, enters STEP, and the blocks answer;
the reply carries the line's state after the test for the end of the step, and the credits not withdrawn at
once (R171). -/
def Obligations.StepGivesCredits : Prop :=
  ∀ (s : State) (holds : StationId → Bool) (chamberHolds : Bool), s.takesCommand →
    s.control.line = .stopped →
    (∀ i, holds i = true ↔ (s.station i).unit ≠ none ∧ (s.station i).phase ≠ .faulted) →
    (chamberHolds = true ↔ ¬ (s.chamber.phase = .idle ∧ s.chamber.feed = [])) →
    ∃ (credits : List StationId) (c : Bool) (u v : State),
      credits = stationIds.filter (fun i => holds i && decide ((s.station i).phase ≠ .done)) ∧
      c = (chamberHolds && decide (s.chamber.phase ≠ .faulted)) ∧
      u = s.setControl { s.control with
        line := .step, credits := credits, holders := stationIds.filter holds
        chamberCredit := c, chamberHolder := chamberHolds } ∧
      v = u.lineEntered.settleBlocks ∧
      exec .step s = .next (v.send [okLine .step
        (field "line" (ascii (lineStateWord v.control.line)) ++
          field "credits" (numText (credits.length + if c then 1 else 0)))]).afterEvent

/-! ## Unit records -/

/-- An accepted ADMIT creates the record with the values of R1, and the station enters CLAMPING with its
CLAMP ordered (R16, R52). -/
def Obligations.AdmitCreatesTheRecordAndClamps : Prop :=
  ∀ (s : State) (tag station : Nat) (i : StationId) (refrigerant : Option RefrigerantClass)
    (foam : Option GasClass), s.takesCommand → stationOf station = some i → tag ≠ 0 →
    (∀ r ∈ s.register.units ++ s.register.closing, r.tag ≠ tag) →
    s.register.units.length + s.register.closing.length < 48 → (s.station i).phase = .empty →
    (s.node (.station i)).silent = false → s.control.line ≠ .halted →
    ∃ r u v : _,
      r =
        ({ tag := tag, place := some .station, station := some i, refrigerant := refrigerant
           declaredFoam := foam, measured := none, bands := none, signature := none
           effective := none, evacuations := 0, rise := none, faultedPhase := none
           allocations := [], total := 0, oil := none, foam := none, windows := [], agent := 0
           flags := { leakSuspect := false, classDisagree := false, estimated := false }
           disposition := none, digest := none } : UnitRecord) ∧
      u = (({ s with register := { s.register with units := s.register.units ++ [r] } } : State).setStation i
        { s.station i with unit := some tag, phase := .clamping, nextPhase := none }) ∧
      v = u.watchEntry (i.val + 1) (some tag) .clamping ∧
      exec (.admitUnit tag station refrigerant foam) s =
        .next ((((v.issue .stationController (.station i) .clamp).onStation i fun x =>
          { x with workOrder := some v.orderNumber })).send
            [okLine .admitUnit (field "tag" (numText tag) ++ field "station" (numText station))]).afterEvent

/-- QUERY-UNIT answers from the record in the register, else from the record of that tag closed last
(R17): at once, unless `final=yes` is asked of a unit with an open accumulation, which holds the query for
hold-max (R19, R20).
A unit of the register has an open accumulation exactly as R18 says: refrigerant, or foam with a shred
in progress (R119).  That a chamber at a boundary has none is the model's reading (log 22). -/
def Obligations.QueryUnitAnswersOrHolds : Prop :=
  (∀ (s : State) (tag : Nat) (final : Bool) (r : UnitRecord), s.takesCommand →
     (((s.register.units ++ s.register.closing).find? fun x => x.tag == tag).or
       (s.register.log.reverse.find? fun x => x.tag == tag)) = some r →
     ((final && s.openAccumulation tag) = false → exec (.queryUnit tag final) s =
       .next (s.send [okLine .queryUnit
         (field "final" (yesNo !(s.openAccumulation tag)) ++ r.allFields)]).afterEvent) ∧
     ((final && s.openAccumulation tag) = true → exec (.queryUnit tag final) s =
       .next (s.setLink (.held
         { tag := tag, expiry := s.now + s.control.settings.holdMax * 1000 })).afterEvent)) ∧
  ∀ (s : State) (r : UnitRecord), r ∈ s.register.units → (s.register.units.map (·.tag)).Nodup →
    (s.openAccumulation r.tag = true ↔
      ((∃ i, (s.station i).unit = some r.tag ∧ (s.station i).phase = .evacuate) ∨
        ∃ t, (s.train t).tag = some r.tag ∧ ((s.train t).state = .drawing ∨
          (s.train t).state = .waitVessel ∨ (s.train t).state = .tailing)) ∨
      (r.place = some .chamber ∧ s.chamber.nextPhase = none ∧
        (s.chamber.phase = .shred ∨ s.chamber.phase = .clear ∨
          (s.chamber.phase = .purge ∧ s.chamber.repurge = true) ∨
          (s.chamber.phase = .suspended ∧ s.chamber.returnPhase.isSome = true))))

/-- The held query's expiry sends the record of that moment with `final=no`, and the interface becomes
READY; a buffered line is then taken as a command (R22, R187).  With no held query the event does not
occur (log 5). -/
def Obligations.HeldQueryExpiryAnswersNo : Prop :=
  ∀ s : State, s.resetPin = false →
    (∀ q r, s.link.state = .held q → (s.advanceTo q.expiry).queriedUnit q.tag = some r →
      ∃ u : State,
        u = { s.advanceTo q.expiry with
          link := { s.link with
            state := .ready
            buffer := none
            sent := s.link.sent ++ [okLine .queryUnit (field "final" (ascii "no") ++ r.allFields)] } } ∧
        (s.link.buffer = none → exec .heldQueryExpiry s = .next u.afterEvent) ∧
        (∀ l f, s.link.buffer = some l → readLine l = .framing f →
          exec .heldQueryExpiry s = .next (u.send [framingLine f]).afterEvent) ∧
        ∀ l c, s.link.buffer = some l → readLine l = .command c →
          exec .heldQueryExpiry s = exec (rowFor c) u) ∧
    ((∀ q, s.link.state ≠ .held q) → exec .heldQueryExpiry s = .next s.afterEvent)

/-- TAKE-CLOSED sends the oldest closed records as UNIT lines with their digests, and takes them from the
log; CLOSING records then move into the room left, and the log-full mark is cleared as R13 says (R24,
R14, R197). -/
def Obligations.TakeClosedEmptiesTheLogHead : Prop :=
  ∀ (s : State) (count : Nat), s.takesCommand → 1 ≤ count → count ≤ 4 →
    ∃ taken left moved waiting,
      taken = s.register.log.take count ∧
      left = s.register.log.drop count ∧
      moved = s.register.closing.take (32 - left.length) ∧
      waiting = s.register.closing.drop (32 - left.length) ∧
      (s.register.log ≠ [] → exec (.takeClosed count) s =
        .next (({ s with register :=
          { units := s.register.units
            closing := waiting
            log := left ++ moved.map fun r => { r with place := none }
            logFull := s.register.logFull &&
              !decide ((left ++ moved).length < 32 ∧ waiting = []) } } : State).send
          (okLine .takeClosed (field "count" (numText taken.length)) ::
            taken.map fun r => sealLine (ascii "UNIT" ++ r.fields ++
              optField "digest" (r.digest.map hex4)))).afterEvent) ∧
      (s.register.log = [] → exec (.takeClosed count) s =
        .next (s.send [okLine .takeClosed (field "count" (ascii "0"))]).afterEvent)

/-- A record closes: it takes its disposition (one already set stands), loses place and station, and gets
the digest of its canonical line (R10, R11).  It goes to the log's tail where there is room and nothing
waits, else to CLOSING, where the first record of a filling sets the log-full mark and raises
CLOSED_LOG_FULL (R12, R13).
Opening an allocation entry closes the open one and appends the new one, and a record that holds 4 is
unchanged (R5); a booked delta is added to the latest entry and to the total (R6). -/
def Obligations.RecordsOpenBookAndClose : Prop :=
  (∀ (s : State) (tag : Tag) (d : Disposition) (r bare closed : UnitRecord),
     s.findUnit tag = some r →
     bare = { r with disposition := some (r.disposition.getD d), place := none, station := none } →
     closed = { bare with digest := some (crc (ascii "UNIT" ++ bare.fields)) } →
     (s.register.log.length < 32 ∧ s.register.closing = [] →
       s.closeUnit tag d =
         { s with register := { s.register with
           units := s.register.units.filter fun x => x.tag != tag
           log := s.register.log ++ [closed] } }) ∧
     (¬ (s.register.log.length < 32 ∧ s.register.closing = []) →
       ∃ u : State,
         u = { s with register := { s.register with
           units := s.register.units.filter fun x => x.tag != tag
           closing := s.register.closing ++ [{ closed with place := some .closing }]
           logFull := true } } ∧
         s.closeUnit tag d =
           if s.register.logFull then u
           else u.raise .closedLogFull .line { first := tag, second := none })) ∧
  ∀ (r : UnitRecord) (k : SlotId) (id : Nat) (d : Grams),
    (r.allocations.length < 4 → r.openEntry k id =
      { r with allocations := (r.allocations.map fun e => { e with isOpen := false }) ++
        [{ slot := k, vessel := id, grams := 0, isOpen := true }] }) ∧
    (4 ≤ r.allocations.length → r.openEntry k id = r) ∧
    (∀ xs e ys, r.allocations = xs ++ e :: ys → (∀ x ∈ xs, x.isOpen = false) → e.isOpen = true →
      r.book d =
        { r with
          total := r.total + d
          allocations := xs ++ { e with grams := e.grams + d } :: ys }) ∧
    (∀ xs e, r.allocations = xs ++ [e] → (∀ x ∈ r.allocations, x.isOpen = false) →
      r.book d =
        { r with
          total := r.total + d
          allocations := xs ++ [{ e with grams := e.grams + d }] }) ∧
    (r.allocations = [] → r.book d = r)

/-! ## Gas classification -/

/-- The two-step test of a valid entry against a sample (R30). -/
def Obligations.SignatureMatchesAsTested : Prop :=
  ∀ (e : Signature) (readings : Vector Nat 6),
    e.matchesSample readings = true ↔
      ((∀ i w, e.windows.get i = some w → w.low ≤ readings.get i ∧ readings.get i ≤ w.high) ↔
        e.invert = false)

/-- A scan stops at the first valid entry, in ascending index order, that matches; its class is the
measured class, and without one the class is UNKNOWN (R31).
The effective class of a sampled unit, with the disagreement that is flagged and raised (R42), and
the properties derived from a record (R43). -/
def Obligations.ScanAndEffectiveClassAreAsGiven : Prop :=
  (∀ (c : Classifier) (readings : Vector Nat 6),
     (∀ i e, c.table.get i = some e → e.matchesSample readings = true →
       (∀ j e', j < i → c.table.get j = some e' → e'.matchesSample readings = false) →
       c.scan readings = some i ∧ c.measured (c.scan readings) = gasRefrigerant e.cls) ∧
     ((∀ i e, c.table.get i = some e → e.matchesSample readings = false) →
       c.scan readings = none ∧ c.measured (c.scan readings) = .unknown)) ∧
  (∀ d, effectiveClass d .unknown = (.unknown, false)) ∧
  (∀ m, m ≠ .unknown → effectiveClass none m = (m, false)) ∧
  (∀ m, m ≠ .unknown → effectiveClass (some m) m = (m, false)) ∧
  (∀ d m, m ≠ .unknown → d ≠ m → effectiveClass (some d) m = (.unknown, true)) ∧
  ∀ r : UnitRecord,
    (r.flammableRisk = true ↔ r.effective = some .hc ∨ r.effective = some .unknown) ∧
    (r.inertRequired = true ↔ r.declaredFoam = some .hc ∨ r.declaredFoam = some .unknown ∨
      r.declaredFoam = none ∨ r.flammableRisk = true) ∧
    (r.effective = some .cfc → r.vesselNeeded = some .cfc) ∧
    (r.effective = some .hcfc → r.vesselNeeded = some .hcfc) ∧
    (r.effective = some .hfc → r.vesselNeeded = some .hfc) ∧
    (r.effective = some .hc → r.vesselNeeded = some .hc) ∧
    (r.effective = some .unknown → r.vesselNeeded = some .mixed) ∧
    (r.effective = some .none → r.vesselNeeded = none)

/-- The analyser is granted to the head of the queue exactly where R34 says: the cycle is filled and
SAMPLE_VALVE ordered open, and the station enters SAMPLING.
A sample ends with a result: the scan's class, the readings and the index are written, the close of
the sample valve is ordered, and SAMPLING ends (R36, R42).
The sample cycle's other events: the open reported DONE orders START_SAMPLE unless the cycle is
abandoned, and the open that fails faults the station in SAMPLING (R35); a sample without a result raises
ANALYSER_FAULT and writes UNKNOWN (R37); the close reported DONE, or shown closed while blocked, frees the
analyser once no sample is outstanding, and the close that fails blocks the manifold (R38).  That an open
which fails faults the station for every held cycle, an abandoned one too, while the station stands in
SAMPLING and not at a boundary, is log 43 (DEDUCED).
A sample that ends with a result for an abandoned cycle writes nothing: it is no longer outstanding, and the
analyser is free if the close is done (R36, R38). -/
def Obligations.AnalyserSamplesTheQueueHead : Prop :=
  (∀ s : State,
     (∀ i rest tag, s.classifier.cycle = none → s.classifier.queue = i :: rest →
       (s.control.line = .run ∨ s.control.line = .step) → (s.node .analyser).silent = false →
       (s.station i).unit = some tag →
       ∃ u : State,
         u = (((s.setQueue rest).issue .classifier (.station i) (.sampleValve true)).setCycle
           (some
             { stage := .opening, station := i, tag := tag, outstanding := false, abandoned := false
               openOrder := some s.orderNumber, sampleOrder := none, closeOrder := none
               closeDone := false, blocked := false })).setStation i
             { s.station i with phase := .sampling, nextPhase := none } ∧
         s.grantAnalyser = u.watchEntry (i.val + 1) (some tag) .sampling) ∧
     ((s.classifier.cycle ≠ none ∨ s.classifier.queue = [] ∨ s.control.line = .stopped ∨
         s.control.line = .halted ∨ (s.node .analyser).silent = true) → s.grantAnalyser = s)) ∧
  (∀ (s : State) (a : AnalyserAnswer) (c : SampleCycle) (o : Order) (n : Nat) (r : UnitRecord),
     s.resetPin = false → (s.node .analyser).silent = false →
     s.classifier.cycle = some c → c.stage = .measuring → c.abandoned = false →
     c.sampleOrder = some n → s.findOrder .analyser n = some o →
     a.reports = [{ number := n, status := .done }] → a.fault = false → s.findUnit c.tag = some r →
     (s.station c.station).phase = .sampling → (s.station c.station).nextPhase = none →
     ∃ (hit : Option SignatureId) (m : RefrigerantClass) (u v w : State),
       hit = s.classifier.scan a.bands ∧ m = s.classifier.measured hit ∧
       u = (((((s.advanceTo a.moment).setNode .analyser
           { misses := 0, silent := false, previousTaken := true }).removeOrder o).setCycle
             (some { c with outstanding := false, sampleOrder := none })).onUnit c.tag fun r =>
         { r with
           measured := some m
           bands := some a.bands
           signature := hit
           effective := some (effectiveClass r.refrigerant m).1
           flags := { r.flags with
             classDisagree := r.flags.classDisagree || (effectiveClass r.refrigerant m).2 } }) ∧
       v = (if m = .unknown then
           u.raise .classUnknown (.station c.station) { first := c.tag, second := none }
         else if (effectiveClass r.refrigerant m).2 then
           u.raise .classDisagree (.station c.station) { first := c.tag, second := none }
         else u) ∧
       w = (v.issue .classifier (.station c.station) (.sampleValve false)).setCycle
         (some
           { c with
             outstanding := false, sampleOrder := none, stage := .closing
             closeOrder := some v.orderNumber }) ∧
       exec (.analyserAnswer a) s = .next (w.endPhase c.station .trainWait).afterEvent) ∧
  (∀ (s : State) (i : StationId) (a : StationAnswer) (c : SampleCycle), s.resetPin = false →
    (s.node (.station i)).silent = false → (s.station i).unsecured = [] →
    ((s.station i).phase = .sampling ∨ (s.station i).phase = .trainWait) →
    s.classifier.cycle = some c → c.station = i →
    ∃ u : State,
      u = (s.advanceTo a.moment).setNode (.station i)
        { misses := 0, silent := false, previousTaken := true } ∧
      (∀ o b v, c.blocked = false → a.reports = [{ number := o.number, status := .done }] →
        s.findOrder (.station i) o.number = some o → o.issuer = .classifier →
        o.kind = .sampleValve b →
        v = u.setOrders
          (s.loop.orders.filter fun p => decide (¬ (p.node = .station i ∧ p.number = o.number))) →
        (c.openOrder = some o.number → c.abandoned = false → exec (.stationAnswer i a) s =
          .next ((v.issue .classifier .analyser .startSample).setCycle (some
            { c with
              openOrder := none, stage := .measuring, outstanding := true
              sampleOrder := some v.orderNumber })).afterEvent) ∧
        (c.openOrder = some o.number → c.abandoned = true → exec (.stationAnswer i a) s =
          .next (v.setCycle (some { c with openOrder := none })).afterEvent) ∧
        (c.openOrder ≠ some o.number → c.closeOrder = some o.number → c.stage = .closing →
          (c.outstanding = true → exec (.stationAnswer i a) s =
            .next (v.setCycle (some
              { c with closeDone := true, closeOrder := none })).afterEvent) ∧
          (c.outstanding = false → exec (.stationAnswer i a) s =
            .next (v.setCycle none).grantAnalyser.afterEvent))) ∧
      (c.blocked = true → c.stage = .closing → a.reports = [] → a.sampleOpen = false →
        (c.outstanding = true → exec (.stationAnswer i a) s =
          .next (u.setCycle (some
            { c with closeDone := true, closeOrder := none, blocked := false })).afterEvent) ∧
        (c.outstanding = false → exec (.stationAnswer i a) s =
          .next (u.setCycle none).grantAnalyser.afterEvent))) ∧
  (∀ (s : State) (o : Order) (i : StationId) (c : SampleCycle) (b : Bool), o.node = .station i →
    o.issuer = .classifier → o.kind = .sampleValve b → s.classifier.cycle = some c → c.station = i →
    (c.openOrder = some o.number → (s.station i).phase = .sampling →
      (s.station i).nextPhase = none → s.orderFails o =
        (s.setCycle (some { c with openOrder := none })).faultStation i (.phase .sampling) true) ∧
    (c.openOrder ≠ some o.number → c.closeOrder = some o.number → s.orderFails o =
      s.setCycle (some { c with closeOrder := none, blocked := true }))) ∧
  (∀ (s : State) (a : AnalyserAnswer) (c : SampleCycle) (o : Order), s.resetPin = false →
    (s.node .analyser).silent = false → s.classifier.cycle = some c →
    c.sampleOrder = some o.number → s.findOrder .analyser o.number = some o →
    a.reports = [{ number := o.number, status := .done }] → a.fault = true →
    exec (.analyserAnswer a) s = .next ((((s.advanceTo a.moment).setNode .analyser
      { misses := 0, silent := false, previousTaken := true }).removeOrder o).sampleLost
        c).afterEvent) ∧
  (∀ (s : State) (a : AnalyserAnswer) (c : SampleCycle) (o : Order), s.resetPin = false →
    (s.node .analyser).silent = false → s.classifier.cycle = some c → c.abandoned = true →
    c.stage = .closing → c.sampleOrder = some o.number →
    s.findOrder .analyser o.number = some o →
    a.reports = [{ number := o.number, status := .done }] → a.fault = false →
    ∃ u : State,
      u = ((s.advanceTo a.moment).setNode .analyser
        { misses := 0, silent := false, previousTaken := true }).setOrders
          (s.loop.orders.filter fun p => decide (¬ (p.node = .analyser ∧ p.number = o.number))) ∧
      (c.closeDone = false → exec (.analyserAnswer a) s = .next
        (u.setCycle (some { c with outstanding := false, sampleOrder := none })).afterEvent) ∧
      (c.closeDone = true → exec (.analyserAnswer a) s =
        .next (u.setCycle none).grantAnalyser.afterEvent)) ∧
  ∀ (s : State) (c : SampleCycle), s.classifier.cycle = some c →
    (∀ o, o.node = .analyser → c.sampleOrder = some o.number → s.orderFails o = s.sampleLost c) ∧
    ∃ u : State,
      u = (s.setCycle (some { c with outstanding := false, sampleOrder := none })).raise .analyserFault
        (.node .analyser) { first := c.station.val + 1, second := none } ∧
      (c.abandoned = true → c.stage = .closing →
        (c.closeDone = true → s.sampleLost c = (u.setCycle none).grantAnalyser) ∧
        (c.closeDone = false → s.sampleLost c = u)) ∧
      ∀ r, c.abandoned = false → s.findUnit c.tag = some r →
        (s.station c.station).phase = .sampling → (s.station c.station).nextPhase = none →
        ∃ v : State,
          v = (u.onUnit c.tag fun r =>
            { r with
              measured := some .unknown, bands := none, signature := none
              effective := some .unknown }).raise .classUnknown (.station c.station)
                { first := c.tag, second := none } ∧
          s.sampleLost c =
            ((v.issue .classifier (.station c.station) (.sampleValve false)).setCycle (some
              { c with
                outstanding := false, sampleOrder := none, stage := .closing
                closeOrder := some v.orderNumber })).endPhase c.station .trainWait

/-! ## Stations -/

/-- The end of a phase: with permission the station spends its credit, enters the next phase and does what
that phase begins with; without it, the station stands at the boundary (R50, R53, R55, R56, R63, R65).
A station tests for permission at a boundary, in LOADED (R53) and in a suspended EVACUATE (R75, R88);
it joins the analyser queue's tail (R32, R34), and its request joins behind those of an earlier or an equal
time, in the room of one that the station held (R83, R84; log 44). -/
def Obligations.PhaseEndBeginsTheNextOrWaits : Prop :=
  (∀ (s : State) (i : StationId) (p : StationPhase) (may : Prop),
     (may ↔ (s.control.line = .run ∨ (s.control.line = .step ∧ i ∈ s.control.credits)) ∧
       (s.node (.station i)).silent = false) →
     (¬ may → s.endPhase i p = s.setStation i { s.station i with nextPhase := some p }) ∧
     (may → ∃ u v : State,
       u = (s.setControl { s.control with credits := s.control.credits.filter (· != i) }).setStation i
         { s.station i with phase := p, nextPhase := none } ∧
       v = u.watchEntry (i.val + 1) (s.station i).unit (stationPhaseName p) ∧
       (p = .pierce → s.endPhase i p =
         (v.issue .stationController (.station i) .pierce).onStation i fun x =>
           { x with workOrder := some v.orderNumber, pierceDone := false }) ∧
       (p = .sampleWait → s.endPhase i p = v.joinQueue i) ∧
       (p = .trainWait → s.endPhase i p =
         (v.onStation i fun x => { x with requestTime := some s.now, clock := 0 }).joinRequests i s.now) ∧
       (p = .riseTest → s.endPhase i p = v.onStation i fun x =>
         { x with
           riseEntry := none
           holdEnd := some (s.now + s.control.settings.riseHold * 1000) }) ∧
       (p = .oilDrain → s.endPhase i p =
         (v.issue .stationController (.station i) (.drainValve true)).onStation i fun x =>
           { x with drainOrder := some v.orderNumber }))) ∧
  (∀ (s : State) (i : StationId) (may : Prop),
    (may ↔ (s.control.line = .run ∨ (s.control.line = .step ∧ i ∈ s.control.credits)) ∧
      (s.node (.station i)).silent = false) →
    (¬ may → s.testStation i = s) ∧
    (∀ p, (s.station i).nextPhase = some p → s.testStation i = s.endPhase i p) ∧
    ((s.station i).nextPhase = none → may →
      ((s.station i).phase = .loaded → s.testStation i = s.endPhase i .pierce) ∧
      ((s.station i).phase ≠ .loaded →
        ¬ ((s.station i).phase = .evacuate ∧ (s.station i).suspended = true) →
        s.testStation i = s) ∧
      ∀ t, (s.station i).phase = .evacuate → (s.station i).suspended = true →
        (s.station i).train = some t → (s.train t).station = some i → ∃ u : State,
          u = (s.setControl { s.control with
            credits := s.control.credits.filter (· != i) }).setStation i
              { s.station i with suspended := false } ∧
          ((s.train t).state = .paused → s.testStation i =
            ((u.issue .pathArbiter (.train t) .compressorStart).setTrain t
              { s.train t with state := .drawing }).openEvac i) ∧
          ((s.train t).state ≠ .paused → s.testStation i = u.openEvac i))) ∧
  (∀ (s : State) (i : StationId),
    (i ∈ s.classifier.queue → s.joinQueue i = s.grantAnalyser) ∧
    (i ∉ s.classifier.queue →
      s.joinQueue i = (s.setQueue (s.classifier.queue ++ [i])).grantAnalyser)) ∧
  ∀ (s : State) (i : StationId) (time : Moment) (xs ys : List Request) (tag : Tag) (r : UnitRecord),
    s.arbiter.requests.filter (fun q => decide (q.station ≠ i)) = xs ++ ys →
    (∀ x ∈ xs, x.time ≤ time) → (∀ y ∈ ys, time < y.time) →
    (s.station i).unit = some tag → s.findUnit tag = some r →
    s.joinRequests i time = (s.setRequests
      (xs ++ { station := i, time := time, needed := r.vesselNeeded } :: ys)).grantScan

/-- A completed order of a station moves it on in the answer that reports it DONE: CLAMP to LOADED, where
it tests for permission (R52); PIERCE to the answer after (R53); UNCLAMP to EMPTY with a train field still
set kept (R71).
While the line is HALTED an UNCLAMP empties the station as well (R71, R76), a CLAMP is recorded and leaves
the station in CLAMPING (R52, R76), and a PIERCE is recorded and leaves it in PIERCE, where no reading ends
a frozen phase (R76).
EVAC_VALVE reported DONE outside FAULTED (R58): the open makes it OPEN, and the answer's pressure is then
taken as by a valve that stood OPEN (log 21); the close makes it CLOSED, with R58's test for the open made
again in EVACUATE, and in another phase the answer's readings are taken as by a valve that stood CLOSED.
The first answer after the one that reported the pierce DONE ends PIERCE: a pressure below
pierce-empty writes NONE and leads to OIL_DRAIN, any other to SAMPLE_WAIT (R53, R54).
An answer at or below evac-target ends the evacuation: EVAC_VALVE is ordered closed, the train enters
TAILING with its tail end, and the station enters RISE_TEST with the answer's pressure as rise entry and its
hold end (R59, R63, R89).
The first answer at or after the hold end latches its pressure: the unit's rise is written, and the
rise decides between OIL_DRAIN, another TRAIN_WAIT, and OIL_DRAIN with LEAK_SUSPECT and RISE_FAILED (R63,
R64).
Without a rise entry, as after a RESUME, the first answer's pressure becomes it; the hold end stays as it is,
and if it has passed the same answer is latched, with no rise (R63).
The oil drain: DRAIN_VALVE open reported DONE takes the reference, the deadline and the first reading
(R65); each answer's reading joins the list behind the latest one that is 30 s old, and the settle test
against that one ends the drain (R66); DRAIN_VALVE close reported DONE leads to DONE.  That a second drain
writes the oil field anew is log 45 (DEDUCED). -/
def Obligations.StationAnswerEndsPhases : Prop :=
  ((∀ (s : State) (i : StationId) (a : StationAnswer) (o : Order), s.resetPin = false →
     (s.node (.station i)).silent = false →
     a.reports = [{ number := o.number, status := .done }] →
     s.findOrder (.station i) o.number = some o → o.issuer = .stationController →
     (s.station i).unsecured = [] → (s.station i).workOrder = some o.number →
     (s.station i).nextPhase = none → (s.station i).pierceDone = false →
     (∀ c, s.classifier.cycle = some c → c.station = i → c.blocked = false) →
     ∃ u v : State,
       u = ((s.advanceTo a.moment).setNode (.station i)
         { misses := 0, silent := false, previousTaken := true }).setOrders
           (s.loop.orders.filter fun p => decide (¬ (p.node = .station i ∧ p.number = o.number))) ∧
       (o.kind = .clamp → (s.station i).phase = .clamping → s.control.line ≠ .halted →
         v = (u.setStation i { s.station i with
           phase := .loaded, nextPhase := none, workOrder := none }).watchEntry (i.val + 1)
             (s.station i).unit .loaded ∧
         exec (.stationAnswer i a) s = .next (v.testStation i).afterEvent) ∧
       (o.kind = .clamp → (s.station i).phase = .clamping → s.control.line = .halted →
         exec (.stationAnswer i a) s =
           .next (u.setStation i { s.station i with workOrder := none }).afterEvent) ∧
       (o.kind = .pierce → (s.station i).phase = .pierce → exec (.stationAnswer i a) s =
         .next (u.setStation i { s.station i with
           workOrder := none, pierceDone := true }).afterEvent) ∧
       (o.kind = .unclamp → exec (.stationAnswer i a) s =
         .next (u.setStation i
           { phase := .empty, nextPhase := none, unit := none, faultedPhase := none, unclamping := false
             train := (s.station i).train, requestTime := none, clock := 0, evacValve := .closed
             suspended := false, awaitingVessel := false, riseEntry := none, holdEnd := none
             oilReference := none, oilDeadline := none, oilReadings := [], unsecured := []
             pierceDone := false, workOrder := none, evacOrder := none, drainOrder := none }).afterEvent)) ∧
   ∀ (s : State) (i : StationId) (a : StationAnswer), s.resetPin = false →
     (s.node (.station i)).silent = false → s.control.line = .halted → a.reports = [] →
     (s.station i).unsecured = [] →
     (∀ c, s.classifier.cycle = some c → c.station = i → c.blocked = false) →
     exec (.stationAnswer i a) s = .next ((s.advanceTo a.moment).setNode (.station i)
       { misses := 0, silent := false, previousTaken := true }).afterEvent) ∧
  (∀ (s : State) (i : StationId) (a : StationAnswer) (o : Order) (opens : Bool), s.resetPin = false →
     (s.node (.station i)).silent = false → (s.station i).phase ≠ .faulted →
     a.reports = [{ number := o.number, status := .done }] →
     s.findOrder (.station i) o.number = some o → o.issuer = .stationController →
     o.kind = .evacValve opens → (s.station i).evacOrder = some o.number →
     (s.station i).unsecured = [] →
     (∀ c, s.classifier.cycle = some c → c.station = i → c.blocked = false) →
     ∃ (x : Station) (left : List Order) (u v : State),
       left = s.loop.orders.filter (fun p =>
         decide (¬ (p.node = .station i ∧ p.number = o.number))) ∧
       u = ((s.advanceTo a.moment).setNode (.station i)
         { misses := 0, silent := false, previousTaken := true }).setOrders left ∧
       ((s.station i).evacValve = .opening →
         x = { s.station i with evacValve := .opened, evacOrder := none }) ∧
       ((s.station i).evacValve = .closing →
         x = { s.station i with evacValve := .closed, evacOrder := none }) ∧
       v = (s.setOrders left).setStation i x ∧
       ((s.station i).evacValve = .opening → exec (.stationAnswer i a) s =
         exec (.stationAnswer i { a with reports := [] }) v) ∧
       ((s.station i).evacValve = .opening → (s.station i).phase = .evacuate →
         (s.control.settings.evacTarget < a.pressure ∨ s.control.line = .halted ∨
           (s.station i).suspended = true ∨ (s.station i).awaitingVessel = true) →
         exec (.stationAnswer i a) s = .next (u.onStation i fun y =>
           { y with evacValve := .opened, evacOrder := none }).afterEvent) ∧
       ((s.station i).evacValve = .closing → (s.station i).phase ≠ .evacuate →
         exec (.stationAnswer i a) s = exec (.stationAnswer i { a with reports := [] }) v) ∧
       ((s.station i).evacValve = .closing → (s.station i).phase = .evacuate →
         exec (.stationAnswer i a) s = .next ((u.onStation i fun y =>
           { y with evacValve := .closed, evacOrder := none }).openEvac i).afterEvent)) ∧
  (∀ (s : State) (i : StationId) (a : StationAnswer) (tag : Tag), s.resetPin = false →
     (s.node (.station i)).silent = false → s.control.line ≠ .halted → a.reports = [] →
     (s.station i).unsecured = [] →
     (∀ c, s.classifier.cycle = some c → c.station = i → c.blocked = false) →
     (s.station i).phase = .pierce → (s.station i).nextPhase = none →
     (s.station i).pierceDone = true → (s.station i).unit = some tag →
     ∃ u : State,
       u = ((s.advanceTo a.moment).setNode (.station i)
         { misses := 0, silent := false, previousTaken := true }).setStation i
           { s.station i with pierceDone := false } ∧
       (a.pressure < s.control.settings.pierceEmpty → exec (.stationAnswer i a) s =
         .next ((u.onUnit tag fun r =>
           { r with measured := some .none, effective := some .none }).endPhase i .oilDrain).afterEvent) ∧
       (s.control.settings.pierceEmpty ≤ a.pressure → exec (.stationAnswer i a) s =
         .next (u.endPhase i .sampleWait).afterEvent)) ∧
  (∀ (s : State) (i : StationId) (a : StationAnswer) (t : TrainId), s.resetPin = false →
     (s.node (.station i)).silent = false → s.control.line ≠ .halted → a.reports = [] →
     (s.station i).unsecured = [] →
     (∀ c, s.classifier.cycle = some c → c.station = i → c.blocked = false) →
     (s.station i).phase = .evacuate → (s.station i).nextPhase = none →
     (s.station i).evacValve = .opened → (s.station i).suspended = false →
     (s.station i).awaitingVessel = false → a.pressure ≤ s.control.settings.evacTarget →
     (s.station i).train = some t → (s.train t).state = .drawing →
     ∃ u v w : State,
       u = (s.advanceTo a.moment).setNode (.station i)
         { misses := 0, silent := false, previousTaken := true } ∧
       v = (u.issue .stationController (.station i) (.evacValve false)).setTrain t
         { s.train t with state := .tailing, tailEnd := some (u.now + 10000), purgeEnd := none } ∧
       w = v.setStation i
         { u.station i with
           phase := .riseTest, nextPhase := none, evacValve := .closing
           evacOrder := some u.orderNumber, riseEntry := some a.pressure
           holdEnd := some (u.now + s.control.settings.riseHold * 1000) } ∧
       exec (.stationAnswer i a) s =
         .next (w.watchEntry (i.val + 1) (s.station i).unit .riseTest).afterEvent) ∧
  ((∀ (s : State) (i : StationId) (a : StationAnswer) (tag : Tag) (r : UnitRecord) (entry : Nat)
     (h : Moment), s.resetPin = false →
     (s.node (.station i)).silent = false → s.control.line ≠ .halted → a.reports = [] →
     (s.station i).unsecured = [] →
     (∀ c, s.classifier.cycle = some c → c.station = i → c.blocked = false) →
     (s.station i).phase = .riseTest → (s.station i).nextPhase = none →
     (s.station i).riseEntry = some entry → (s.station i).holdEnd = some h →
     h ≤ (s.advanceTo a.moment).now → (s.station i).unit = some tag → s.findUnit tag = some r →
     ∃ u : State,
       u = (((s.advanceTo a.moment).setNode (.station i)
         { misses := 0, silent := false, previousTaken := true }).onUnit tag fun r =>
           { r with rise := some a.pressure }).setStation i
             { s.station i with riseEntry := none, holdEnd := none } ∧
       ((a.pressure : Int) - entry ≤ s.control.settings.riseLimit → exec (.stationAnswer i a) s =
         .next (u.endPhase i .oilDrain).afterEvent) ∧
       ((s.control.settings.riseLimit : Int) < a.pressure - entry →
         r.evacuations < s.control.settings.evacAttempts → exec (.stationAnswer i a) s =
           .next (u.endPhase i .trainWait).afterEvent) ∧
       ((s.control.settings.riseLimit : Int) < a.pressure - entry →
         s.control.settings.evacAttempts ≤ r.evacuations → exec (.stationAnswer i a) s =
           .next (((u.onUnit tag fun r =>
             { r with flags := { r.flags with leakSuspect := true } }).raise .riseFailed (.station i)
               { first := a.pressure - entry, second := none }).endPhase i .oilDrain).afterEvent)) ∧
   ∀ (s : State) (i : StationId) (a : StationAnswer) (h : Moment), s.resetPin = false →
     (s.node (.station i)).silent = false → s.control.line ≠ .halted → a.reports = [] →
     (s.station i).unsecured = [] →
     (∀ c, s.classifier.cycle = some c → c.station = i → c.blocked = false) →
     (s.station i).phase = .riseTest → (s.station i).nextPhase = none →
     (s.station i).holdEnd = some h → ∃ u : State,
       u = (s.advanceTo a.moment).setNode (.station i)
         { misses := 0, silent := false, previousTaken := true } ∧
       (∀ entry, (s.station i).riseEntry = some entry → u.now < h →
         exec (.stationAnswer i a) s = .next u.afterEvent) ∧
       ((s.station i).riseEntry = none → u.now < h → exec (.stationAnswer i a) s =
         .next (u.setStation i { s.station i with riseEntry := some a.pressure }).afterEvent) ∧
       ∀ tag, (s.station i).riseEntry = none → h ≤ u.now → (s.station i).unit = some tag →
         exec (.stationAnswer i a) s =
           .next (((u.onUnit tag fun r => { r with rise := some a.pressure }).setStation i
             { s.station i with riseEntry := none, holdEnd := none }).endPhase i .oilDrain).afterEvent) ∧
  ∀ (s : State) (i : StationId) (a : StationAnswer), s.resetPin = false →
    (s.node (.station i)).silent = false → s.control.line ≠ .halted →
    (s.station i).unsecured = [] → (s.station i).phase = .oilDrain →
    (s.station i).nextPhase = none →
    (∀ c, s.classifier.cycle = some c → c.station = i → c.blocked = false) →
    ∃ u : State,
      u = (s.advanceTo a.moment).setNode (.station i)
        { misses := 0, silent := false, previousTaken := true } ∧
      (∀ o v, a.reports = [{ number := o.number, status := .done }] →
        s.findOrder (.station i) o.number = some o → o.issuer = .stationController →
        (s.station i).drainOrder = some o.number → (s.station i).oilReference = none →
        v = u.setOrders
          (s.loop.orders.filter fun p => decide (¬ (p.node = .station i ∧ p.number = o.number))) →
        (o.kind = .drainValve true → exec (.stationAnswer i a) s =
          .next (v.setStation i { s.station i with
            drainOrder := none, oilReference := some a.oil
            oilDeadline := some (u.now + s.control.settings.oilMax * 1000)
            oilReadings := [{ moment := u.now, grams := a.oil }] }).afterEvent) ∧
        (o.kind = .drainValve false → exec (.stationAnswer i a) s =
          .next ((v.setStation i { s.station i with
            drainOrder := none, phase := .done, nextPhase := none }).watchEntry (i.val + 1)
              (s.station i).unit .done).afterEvent)) ∧
      ∀ ref, a.reports = [] → (s.station i).oilReference = some ref →
        ((∀ x ∈ (s.station i).oilReadings, u.now < x.moment + 30000) →
          exec (.stationAnswer i a) s = .next (u.setStation i { s.station i with
            oilReadings := (s.station i).oilReadings ++
              [{ moment := u.now, grams := a.oil }] }).afterEvent) ∧
        ∀ xs x ys, (s.station i).oilReadings = xs ++ x :: ys → x.moment + 30000 ≤ u.now →
          (∀ y ∈ xs, y.moment ≤ x.moment) → (∀ y ∈ ys, u.now < y.moment + 30000) →
          (x.grams + s.control.settings.oilSettle < a.oil → exec (.stationAnswer i a) s =
            .next (u.setStation i { s.station i with
              oilReadings := x :: ys ++ [{ moment := u.now, grams := a.oil }] }).afterEvent) ∧
          ∀ tag, (s.station i).unit = some tag → a.oil ≤ x.grams + s.control.settings.oilSettle →
            exec (.stationAnswer i a) s =
              .next (((u.onUnit tag fun r => { r with oil := some (a.oil - ref) }).issue
                .stationController (.station i) (.drainValve false)).setStation i { s.station i with
                  oilReference := none, oilDeadline := none, oilReadings := []
                  drainOrder := some u.orderNumber }).afterEvent

/-- The fault action of a station (R67): the station is FAULTED with its fields cleared, its three valves
are ordered closed and unsecured, each by its own order, its unit's faulted phase is written, it has left
both lists, and its train tails, a PURGING one with PURGE_VALVE ordered closed and COMPRESSOR_STOP (R89).
A sample cycle of this station in OPENING or MEASURING is abandoned, and the station's own close of
SAMPLE_VALVE is the close it waits for (R39, R67); any other cycle stays as it is.
A valve of a FAULTED or halted station is secured by its close order reported DONE, or by an answer that
shows it closed; a close that fails leaves it unsecured, for an answer to show (R69).  Its evacuation valve
shown closed is CLOSED in its view too (log 14).  The station's own close of the sample valve that serves
as an abandoned cycle's close (R39), reported DONE, or shown closed while the manifold is blocked, frees the
analyser once no sample is outstanding (R38). -/
def Obligations.StationFaultActionIsTaken : Prop :=
  (∀ (s t : State) (i : StationId) (f : StationFault) (tail : Bool), t = s.faultStation i f tail →
     ((t.station i).phase = .faulted ∧ (t.station i).nextPhase = none ∧
       (t.station i).faultedPhase = some f ∧ (t.station i).unit = (s.station i).unit ∧
       (t.station i).train = (s.station i).train ∧ (t.station i).suspended = false ∧
       (t.station i).awaitingVessel = false ∧ (t.station i).holdEnd = none ∧
       (t.station i).oilDeadline = none ∧ (t.station i).requestTime = none ∧
       ((t.station i).evacValve = if (s.station i).evacValve = .closed then .closed else .closing)) ∧
     (∃ a b c,
       (t.station i).unsecured = [{ valve := .evac, order := some a },
         { valve := .sample, order := some b }, { valve := .drain, order := some c }] ∧
       ((t.station i).evacOrder =
         if (s.station i).evacValve = .closed then (s.station i).evacOrder else some a) ∧
       (∀ x ∈ [(a, OrderKind.evacValve false), (b, .sampleValve false), (c, .drainValve false)],
         ∃ o ∈ t.loop.orders, o.node = .station i ∧ o.number = x.1 ∧ o.kind = x.2 ∧
           o.issuer = .stationController ∧ o.deadline = s.now + 3000 ∧ o.acknowledged = false) ∧
       (∀ y, s.classifier.cycle = some y → y.station = i → y.stage ≠ .closing →
         t.classifier.cycle =
           some { y with stage := .closing, abandoned := true, closeOrder := some b })) ∧
     ((∀ y, s.classifier.cycle = some y → y.station ≠ i ∨ y.stage = .closing) →
       t.classifier.cycle = s.classifier.cycle) ∧
     (∀ tag p, (s.station i).unit = some tag → f = .phase p → p ≠ .empty → p ≠ .done →
       p ≠ .faulted →
       t.register = { s.register with units := s.register.units.map fun r =>
         if r.tag = tag then { r with faultedPhase := some p } else r }) ∧
     (i ∉ t.classifier.queue ∧ ∀ q ∈ t.arbiter.requests, q.station ≠ i) ∧
     (∀ k, tail = true → (s.station i).train = some k →
       ((s.train k).state = .purging ∨ (s.train k).state = .drawing ∨ (s.train k).state = .paused ∨
         (s.train k).state = .waitVessel) →
       (t.train k).state = .tailing ∧ (t.train k).tailEnd = some (s.now + 10000) ∧
         (t.train k).purgeEnd = none ∧ (t.train k).station = (s.train k).station ∧
         (t.train k).slot = (s.train k).slot ∧
         ((s.train k).state = .purging → ∀ kind ∈ [OrderKind.purgeValve false, .compressorStop],
           ∃ o ∈ t.loop.orders, o.node = .train k ∧ o.kind = kind ∧ o.issuer = .pathArbiter ∧
             o.deadline = s.now + orderTimeoutOf kind ∧ o.acknowledged = false))) ∧
  (∀ (s : State) (i : StationId) (a : StationAnswer) (shut : StationValve → Bool)
    (shown : Station → Station), s.resetPin = false → (s.node (.station i)).silent = false →
    ((s.station i).phase = .faulted ∨ s.control.line = .halted) →
    shut .evac = !a.evacOpen → shut .sample = !a.sampleOpen → shut .drain = !a.drainOpen →
    (∀ x, ¬ (shut .evac = true ∧ ∃ w ∈ x.unsecured, w.valve = .evac) →
      shown x = { x with unsecured := x.unsecured.filter fun w => !shut w.valve }) →
    (∀ x, shut .evac = true → (∃ w ∈ x.unsecured, w.valve = .evac) →
      shown x = { x with
        unsecured := x.unsecured.filter fun w => !shut w.valve
        evacValve := .closed, evacOrder := none }) →
    ∃ u : State,
      u = (s.advanceTo a.moment).setNode (.station i)
        { misses := 0, silent := false, previousTaken := true } ∧
      ((∀ c, s.classifier.cycle = some c → c.station ≠ i) → a.reports = [] →
        exec (.stationAnswer i a) s = .next (u.setStation i (shown (s.station i))).afterEvent) ∧
      (∀ c, s.classifier.cycle = some c → c.station = i → c.stage = .closing → c.blocked = true →
        a.reports = [] → a.sampleOpen = false →
        (c.outstanding = true → exec (.stationAnswer i a) s =
          .next ((u.setStation i (shown (s.station i))).setCycle (some
            { c with closeDone := true, closeOrder := none, blocked := false })).afterEvent) ∧
        (c.outstanding = false → exec (.stationAnswer i a) s =
          .next ((u.setStation i (shown (s.station i))).setCycle none).grantAnalyser.afterEvent)) ∧
      ∀ o v us, a.reports = [{ number := o.number, status := .done }] →
        s.findOrder (.station i) o.number = some o → o.issuer = .stationController →
        v = u.setOrders
          (s.loop.orders.filter fun p => decide (¬ (p.node = .station i ∧ p.number = o.number))) →
        us = (s.station i).unsecured.filter (fun w => decide (w.order ≠ some o.number)) →
        ((∀ c, s.classifier.cycle = some c → c.station ≠ i) →
          ((o.kind = .sampleValve false ∨
              o.kind = .drainValve false ∧ (s.station i).drainOrder ≠ some o.number) →
            exec (.stationAnswer i a) s = .next
              (v.setStation i (shown { s.station i with unsecured := us })).afterEvent) ∧
          (o.kind = .evacValve false → (s.station i).evacOrder = some o.number →
            (s.station i).evacValve = .closing → exec (.stationAnswer i a) s = .next
              (v.setStation i (shown { s.station i with
                unsecured := us, evacValve := .closed, evacOrder := none })).afterEvent)) ∧
        ∀ c, s.classifier.cycle = some c → c.station = i → c.stage = .closing → c.blocked = false →
          o.kind = .sampleValve false → c.openOrder ≠ some o.number → c.closeOrder = some o.number →
          (c.outstanding = true → exec (.stationAnswer i a) s =
            .next (((v.setStation i { s.station i with unsecured := us }).setCycle (some
              { c with closeDone := true, closeOrder := none })).onStation i shown).afterEvent) ∧
          (c.outstanding = false → exec (.stationAnswer i a) s =
            .next (((v.setStation i { s.station i with unsecured := us }).setCycle
              none).grantAnalyser.onStation i shown).afterEvent)) ∧
  ∀ (s : State) (i : StationId) (o : Order), (s.station i).phase = .faulted → o.node = .station i →
    o.issuer = .stationController → (o.kind = .evacValve false ∨ o.kind = .drainValve false) →
    s.orderFails o = s.setStation i { s.station i with
      unsecured := (s.station i).unsecured.map fun w =>
        if w.order = some o.number then { w with order := none } else w }

/-- The evacuation clock that reaches evac-max raises EVAC_OVERTIME and faults the station (R60); while
the clock stands still the event does not occur (log 5).
The oil deadline ends the drain: the oil field is the latest reading less the reference, or 0, the
drain's fields are cleared, and DRAIN_VALVE is ordered closed (R66).  That a second drain writes the oil field
anew is log 45 (DEDUCED). -/
def Obligations.StationExpiriesAct : Prop :=
  (∀ (s : State) (i : StationId), s.resetPin = false →
     (∀ tag, (s.station i).phase = .evacuate → (s.station i).suspended = false →
       (s.station i).awaitingVessel = false → s.control.line ≠ .halted →
       (s.station i).unit = some tag → exec (.evacOvertime i) s =
         .next ((((s.advance (s.control.settings.evacMax * 1000 - (s.station i).clock)).raise
           .evacOvertime (.station i) { first := tag, second := none }).faultStation i
             (.phase .evacuate) true)).afterEvent) ∧
     (((s.station i).phase ≠ .evacuate ∨ (s.station i).suspended = true ∨
         (s.station i).awaitingVessel = true ∨ s.control.line = .halted) →
       exec (.evacOvertime i) s = .next s.afterEvent)) ∧
  ∀ (s : State) (i : StationId) (tag : Tag) (d : Moment) (ref : Grams) (xs : List OilReading)
    (x : OilReading), s.resetPin = false → (s.station i).phase = .oilDrain →
    (s.station i).nextPhase = none → s.control.line ≠ .halted → (s.station i).unit = some tag →
    (s.station i).oilDeadline = some d → (s.station i).oilReference = some ref →
    (s.station i).oilReadings = xs ++ [x] →
    ∃ u v : State,
      u = (s.advanceTo d).onUnit tag (fun r => { r with oil := some (x.grams - ref) }) ∧
      v = (u.issue .stationController (.station i) (.drainValve false)).setStation i
        { s.station i with
          oilReference := none, oilDeadline := none, oilReadings := []
          drainOrder := some u.orderNumber } ∧
      exec (.oilDeadline i) s = .next v.afterEvent

/-- An accepted RELEASE hands the unit to the feed queue and orders UNCLAMP (R70); an accepted RETIRE
closes the record as RETIRED, where the station holds one, and orders UNCLAMP (R72).  That RELEASE orders
UNCLAMP before the chamber tests for permission is the model's choice, log 42 (DESIGN CHOICE). -/
def Obligations.ReleaseAndRetireUnclamp : Prop :=
  ∀ (s : State) (station : Nat) (i : StationId), s.takesCommand → stationOf station = some i →
    (s.node (.station i)).silent = false →
    (∀ tag, (s.station i).phase = .done → (s.station i).unit = some tag →
      s.chamber.feed.length < 6 →
      ∃ u v : State,
        u = (({ s with chamber := { s.chamber with feed := s.chamber.feed ++ [tag] } } : State).onUnit tag
          fun r => { r with place := some .queued, station := none }) ∧
        v = (u.issue .stationController (.station i) .unclamp).setStation i
          { s.station i with unit := none, unclamping := true, workOrder := some u.orderNumber } ∧
        exec (.release station) s = .next (v.testChamber.send [okLine .release
          (field "station" (numText station) ++ field "tag" (numText tag))]).afterEvent) ∧
    (∀ tag, ((s.station i).phase = .done ∨ (s.station i).phase = .faulted) →
      (s.station i).unclamping = false → (s.station i).train = none →
      (s.station i).unsecured = [] → (s.station i).unit = some tag →
      ∃ u v : State,
        u = s.closeUnit tag .retired ∧
        v = (u.issue .stationController (.station i) .unclamp).onStation i (fun x =>
          { x with unit := none, unclamping := true, workOrder := some u.orderNumber }) ∧
        exec (.retire station) s = .next (v.send [okLine .retire
          (field "station" (numText station) ++ field "tag" (numText tag))]).afterEvent) ∧
    ((s.station i).phase = .faulted → (s.station i).unclamping = false →
      (s.station i).train = none → (s.station i).unsecured = [] → (s.station i).unit = none →
      exec (.retire station) s =
        .next (((s.issue .stationController (.station i) .unclamp).setStation i
          { s.station i with unclamping := true, workOrder := some s.orderNumber }).send
            [okLine .retire (field "station" (numText station))]).afterEvent)

/-- An accepted RESUME removes both faulted phases and places the station by the faulted phase (R73). -/
def Obligations.ResumePlacesTheStation : Prop :=
  ∀ (s : State) (station : Nat) (i : StationId) (tag : Tag) (p : StationPhase), s.takesCommand →
    stationOf station = some i → s.control.line ≠ .halted → (s.station i).phase = .faulted →
    (s.station i).unit = some tag → (s.station i).train = none → (s.station i).unsecured = [] →
    (s.node (.station i)).silent = false → (s.station i).faultedPhase = some (.phase p) →
    p ≠ .empty → p ≠ .faulted →
    ∃ u w : State,
      u = (s.onUnit tag fun r => { r with faultedPhase := none }).setStation i
        { s.station i with faultedPhase := none } ∧
      (p = .clamping → ∃ v, v = (u.setStation i { u.station i with
          phase := .clamping, nextPhase := none }).watchEntry (i.val + 1) (some tag) .clamping ∧
        w = (v.issue .stationController (.station i) .clamp).onStation i fun x =>
          { x with workOrder := some v.orderNumber }) ∧
      (p = .loaded ∨ p = .pierce → w = ((u.setStation i { u.station i with
        phase := .loaded, nextPhase := none }).watchEntry (i.val + 1) (some tag) .loaded).testStation i) ∧
      (p = .sampleWait ∨ p = .sampling → w =
        (u.setStation i { u.station i with phase := .sampleWait }).endPhase i .sampleWait) ∧
      (p = .trainWait ∨ p = .evacuate → w =
        (u.setStation i { u.station i with phase := .trainWait }).endPhase i .trainWait) ∧
      (p = .riseTest → w =
        (u.setStation i { u.station i with phase := .riseTest }).endPhase i .riseTest) ∧
      (p = .oilDrain → w =
        (u.setStation i { u.station i with phase := .oilDrain }).endPhase i .oilDrain) ∧
      (p = .done → w = (u.setStation i { u.station i with
        phase := .done, nextPhase := none }).watchEntry (i.val + 1) (some tag) .done) ∧
      exec (.resume station) s =
        .next (w.send [okLine .resume (field "station" (numText station))]).afterEvent

/-! ## Trains -/

/-- A train answer books its delta to the unit's latest entry and to that entry's vessel, with the test
of R104, in the states that book mass, and discards it in the others (R81, R102); it raises
MANIFOLD_OVERPRESSURE above 2000 kPa, before the delta (the model's choice, log 42), and a FAILED
compressor is a train fault, after it (R81, R90).
A tail ends at a delta of 0 in an answer after the one that began it (R89; before the compressor's
state is acted on, log 42).
A train fault leaves the train FAULTED with its contents unknown and no station, whatever the fault's
scan grants (R90); a FAULTED train and one OUT_OF_SERVICE take it without effect.
What a train fault does by the train's state (R90): its entry is closed, its stop and close orders are
issued unless orders of those kinds are outstanding, and it is FAULTED; its station, in EVACUATE, returns to
TRAIN_WAIT with the request time that it holds (R62; in HALTED too, log 16, DEDUCED), and else only loses
the train.  An IDLE train issues all three orders, but not those of the halt's that are outstanding
(R94).  That a valve's outstanding open is no order of the kind of its close, so that the close is ordered
beside it, is the model's choice, log 50 (DEDUCED).
A booked delta that fills the vessel makes it FULL, which raises VESSEL_FULL and is reported to the
block that its class belongs to (R104, R105). -/
def Obligations.TrainAnswerBooksOrFaults : Prop :=
  (∀ (s : State) (t : TrainId) (a : TrainAnswer), s.resetPin = false →
     (s.node (.train t)).silent = false → a.reports = [] →
     ∃ u y : State,
       u = (s.advanceTo a.moment).setNode (.train t)
         { misses := 0, silent := false, previousTaken := true } ∧
       (2000 < a.discharge → y = u.raise .manifoldOverpressure (.train t)
         { first := a.discharge, second := none }) ∧
       (a.discharge ≤ 2000 → y = u) ∧
       (∀ tag r xs e v,
         ((s.train t).state = .drawing ∨ (s.train t).state = .paused ∨
           (s.train t).state = .waitVessel ∨ ((s.train t).state = .tailing ∧ a.delta ≠ 0)) →
         (s.train t).tag = some tag → s.findUnit tag = some r → r.allocations = xs ++ [e] →
         (∀ x ∈ xs, x.isOpen = false) → (s.slot e.slot).vessel = some v →
         ∃ (x : Vessel) (w z : State),
           (a.delta = 0 → x = v) ∧
           (a.delta ≠ 0 → x =
             { v with
               booked := v.booked + a.delta
               state := if v.state = .full ∨ v.fill ≤ v.booked + a.delta + v.initial then .full
                 else .filling }) ∧
           w = (y.onUnit tag fun r => r.book a.delta).setSlot e.slot
             { s.slot e.slot with vessel := some x } ∧
           (¬ (v.state ≠ .full ∧ x.state = .full) → z = w) ∧
           (v.state ≠ .full → x.state = .full → z = w.vesselFilled e.slot) ∧
           (a.compressor ≠ .failed → exec (.trainAnswer t a) s = .next z.afterEvent) ∧
           (a.compressor = .failed →
             exec (.trainAnswer t a) s = .next (z.faultTrain t).afterEvent)) ∧
       (((s.train t).state = .idle ∨ (s.train t).state = .purging ∨ (s.train t).state = .faulted ∨
           (s.train t).state = .outOfService) →
         (a.compressor ≠ .failed → exec (.trainAnswer t a) s = .next y.afterEvent) ∧
         (a.compressor = .failed →
           exec (.trainAnswer t a) s = .next (y.faultTrain t).afterEvent))) ∧
  (∀ (s : State) (t : TrainId) (a : TrainAnswer) (i : StationId) (tag : Tag), s.resetPin = false →
     (s.node (.train t)).silent = false → a.reports = [] → (s.train t).state = .tailing →
     (s.train t).station = some i → (s.train t).tag = some tag → a.delta = 0 →
     ∃ u y v w : State,
       u = (s.advanceTo a.moment).setNode (.train t)
         { misses := 0, silent := false, previousTaken := true } ∧
       (2000 < a.discharge → y = u.raise .manifoldOverpressure (.train t)
         { first := a.discharge, second := none }) ∧
       (a.discharge ≤ 2000 → y = u) ∧
       v = ((y.issue .pathArbiter (.train t) .compressorStop).issue .pathArbiter (.train t)
         .outletClose).onUnit tag (fun r =>
           { r with allocations := r.allocations.map fun e => { e with isOpen := false } }) ∧
       w = (v.setTrain t
         { state := .idle, lastClass := (s.train t).carried, carried := none, station := none
           tag := none, slot := none, purgeEnd := none, tailEnd := none }).onStation i (fun x =>
             { x with train := none }) ∧
       (a.compressor ≠ .failed → exec (.trainAnswer t a) s = .next w.grantScan.afterEvent) ∧
       (a.compressor = .failed →
         exec (.trainAnswer t a) s = .next (w.grantScan.faultTrain t).afterEvent)) ∧
  (∀ (s : State) (t : TrainId),
     ((s.train t).state = .faulted ∨ (s.train t).state = .outOfService → s.faultTrain t = s) ∧
     ((s.train t).state ≠ .faulted → (s.train t).state ≠ .outOfService →
       ((s.faultTrain t).train t).state = .faulted ∧ ((s.faultTrain t).train t).lastClass = none ∧
         ((s.train t).state ≠ .idle →
           ((s.faultTrain t).train t).station = none ∧ ((s.faultTrain t).train t).tag = none ∧
             ((s.faultTrain t).train t).carried = none ∧ ((s.faultTrain t).train t).slot = none ∧
             ((s.faultTrain t).train t).purgeEnd = none ∧ ((s.faultTrain t).train t).tailEnd = none))) ∧
  ((∀ (s : State) (i : StationId),
     ((s.station i).evacValve = .opening ∨ (s.station i).evacValve = .opened → s.closeEvac i =
       (s.issue .stationController (.station i) (.evacValve false)).setStation i
         { s.station i with evacValve := .closing, evacOrder := some s.orderNumber }) ∧
     ((s.station i).evacValve = .closed ∨ (s.station i).evacValve = .closing →
       s.closeEvac i = s)) ∧
   ∀ (s : State) (t : TrainId) (once afterHalt : State → OrderKind → State),
     (∀ x k, (∃ o ∈ x.loop.orders, o.node = .train t ∧ o.kind = k) → once x k = x) →
     (∀ x k, (∀ o ∈ x.loop.orders, ¬ (o.node = .train t ∧ o.kind = k)) →
       once x k = x.issue .pathArbiter (.train t) k) →
     (∀ x k, (∃ o ∈ x.loop.orders, o.node = .train t ∧ o.kind = k ∧ o.cause = .halt) →
       afterHalt x k = x) →
     (∀ x k, (∀ o ∈ x.loop.orders, ¬ (o.node = .train t ∧ o.kind = k ∧ o.cause = .halt)) →
       afterHalt x k = x.issue .pathArbiter (.train t) k) →
     (∀ i tag, (s.train t).station = some i → (s.train t).tag = some tag →
       ∃ u v : State,
         u = once (once (once (s.onUnit tag UnitRecord.closeEntry) .compressorStop)
           (.purgeValve false)) .outletClose ∧
         v = u.setTrain t
           { state := .faulted, lastClass := none, carried := none, station := none, tag := none
             slot := none, purgeEnd := none, tailEnd := none } ∧
         ((s.train t).state = .tailing → s.faultTrain t =
           (v.onStation i fun x => { x with train := none }).raise .trainFault (.train t)
             { first := i.val + 1, second := none }) ∧
         ((s.train t).state = .purging ∨ (s.train t).state = .drawing ∨ (s.train t).state = .paused ∨
             (s.train t).state = .waitVessel →
           ((s.station i).phase ≠ .evacuate → s.faultTrain t =
             (v.onStation i fun x => { x with train := none }).raise .trainFault (.train t)
               { first := i.val + 1, second := none }) ∧
           ((s.station i).phase = .evacuate → ∃ w : State,
             w = (((v.onStation i fun x =>
               { x with train := none, awaitingVessel := false }).closeEvac i).onStation i fun x =>
                 { x with phase := .trainWait, nextPhase := none }).watchEntry (i.val + 1)
                   (s.station i).unit .trainWait ∧
             s.faultTrain t =
               (w.joinRequests i ((s.station i).requestTime.getD s.now)).raise .trainFault (.train t)
                 { first := i.val + 1, second := none }))) ∧
     ((s.train t).state = .idle → ∃ u : State,
       (s.control.line ≠ .halted →
         u = ((s.issue .pathArbiter (.train t) .compressorStop).issue .pathArbiter (.train t)
           (.purgeValve false)).issue .pathArbiter (.train t) .outletClose) ∧
       (s.control.line = .halted →
         u = afterHalt (afterHalt (afterHalt s .compressorStop) (.purgeValve false)) .outletClose) ∧
       s.faultTrain t = (u.setTrain t { s.train t with
         state := .faulted, lastClass := none }).raise .trainFault (.train t)
           { first := 0, second := none })) ∧
  ∀ (s : State) (k : SlotId) (v : Vessel), (s.slot k).vessel = some v →
    (∃ u : State,
      u = s.raise .vesselFull (.slot k) { first := v.id, second := none } ∧
      (v.cls = .agent → s.vesselFilled k = u.changeDrain k) ∧
      (v.cls ≠ .agent → s.vesselFilled k = u.changeTrains k)) ∧
    ∀ d, ∃ w : State,
      w = s.setSlot k { s.slot k with vessel := some (v.book d) } ∧
      (v.state ≠ .full → (v.book d).state = .full → s.bookVessel k d = w.vesselFilled k) ∧
      (v.state = .full ∨ (v.book d).state ≠ .full → s.bookVessel k d = w)

/-- EVAC_VALVE is ordered open exactly where R58 says.
One request of a grant scan (R84, R85): passed over while the line does not run, no train is eligible
or no vessel of the class can be had; else exhausted at 4 entries, or granted to the first eligible train
of the path list whose last class is the class needed, or to the first eligible one.  Where the entry to
EVACUATE is watched and stops the line, a train that goes on to DRAWING is paused (log 17).
A grant scan serves the requests that stand in the list, in its order (R84); that a watch hit which stops
the line ends the granting, so that the requests after it are passed over, is log 18 (DEDUCED).  The entry to EVACUATE
counts one more in the unit's evacuations field, which stops at 5 (R4). -/
def Obligations.GrantScanServesARequest : Prop :=
  (∀ (s : State) (i : StationId) (t : TrainId), (s.station i).train = some t →
     ((s.station i).phase = .evacuate ∧ (s.station i).evacValve = .closed ∧
         (s.train t).state = .drawing ∧ (s.station i).suspended = false ∧
         (s.station i).awaitingVessel = false ∧ s.control.line ≠ .halted →
       s.openEvac i = (s.issue .stationController (.station i) (.evacValve true)).setStation i
         { s.station i with evacValve := .opening, evacOrder := some s.orderNumber }) ∧
     (¬ ((s.station i).phase = .evacuate ∧ (s.station i).evacValve = .closed ∧
         (s.train t).state = .drawing ∧ (s.station i).suspended = false ∧
         (s.station i).awaitingVessel = false ∧ s.control.line ≠ .halted) →
       s.openEvac i = s)) ∧
  (∀ (s : State) (q : Request) (tag : Tag) (cls : VesselClass) (elig : TrainId → Prop)
     (needs : TrainId → Prop),
     (s.station q.station).unit = some tag → q.needed = some cls →
     (∀ t, elig t ↔ (s.train t).state = .idle ∧ (s.node (.train t)).silent = false ∧
       (s.flammableRisk tag = true → t.val < 2)) →
     (∀ t, needs t ↔ elig t ∧ (s.train t).lastClass = some cls) →
     (s.control.line = .stopped ∨ s.control.line = .halted → s.scanRequest q = s) ∧
     ((∀ t ∈ s.arbiter.paths.get q.station, ¬ elig t) → s.scanRequest q = s) ∧
     (s.chooseVessel cls = none → s.scanRequest q = s) ∧
     ∀ xs t ys k v₀ r, s.control.line = .run ∨ s.control.line = .step →
       s.arbiter.paths.get q.station = xs ++ t :: ys → s.chooseVessel cls = some k →
       (s.slot k).vessel = some v₀ → s.findUnit tag = some r →
       ((needs t ∧ ∀ x ∈ xs, ¬ needs x) ∨
         (elig t ∧ (∀ x ∈ xs, ¬ elig x) ∧ ∀ x ∈ xs ++ t :: ys, ¬ needs x)) →
       (4 ≤ r.allocations.length → s.scanRequest q =
         (((s.setRequests (s.arbiter.requests.filter fun p => p.station != q.station)).raise
           .allocExhausted (.station q.station) { first := tag, second := none }).faultStation q.station
             (.phase .trainWait) true)) ∧
       (r.allocations.length < 4 →
         ∃ u v w d : State,
           u = (((s.setRequests (s.arbiter.requests.filter fun p => p.station != q.station)).setTrain t
             { s.train t with
               station := some q.station, tag := some tag, carried := some cls, slot := some k }).onUnit
                 tag fun r => (r.openEntry k v₀.id).countEvacuation) ∧
           v = u.setStation q.station
             { s.station q.station with
               phase := .evacuate, nextPhase := none, train := some t, suspended := false
               awaitingVessel := false
               evacValve := if (s.station q.station).evacValve = .closing then .closing else .closed } ∧
           w = v.watchEntry (q.station.val + 1) (some tag) .evacuate ∧
           d = (((w.issue .pathArbiter (.train t) (.outletOpen k)).issue .pathArbiter (.train t)
             .compressorStart).onTrain t fun x => { x with state := .drawing }).openEvac q.station ∧
           ((s.train t).lastClass = some cls →
             (w.control.line ≠ .stopped → s.scanRequest q = d) ∧
             (w.control.line = .stopped → s.scanRequest q =
               (d.issue .pathArbiter (.train t) .compressorStop).onTrain t fun x =>
                 { x with state := .paused })) ∧
           ((s.train t).lastClass ≠ some cls → s.scanRequest q =
             ((w.onTrain t fun x =>
               { x with
                 state := .purging
                 purgeEnd := some (s.now + s.control.settings.trainPurge * 1000) }).issue .pathArbiter
                   (.train t) (.purgeValve true)).issue .pathArbiter (.train t) .compressorStart))) ∧
  (∀ s : State, s.grantScan = s.arbiter.requests.foldl State.scanRequest s) ∧
  ∀ r : UnitRecord,
    (r.evacuations < 5 → r.countEvacuation = { r with evacuations := r.evacuations + 1 }) ∧
    (5 ≤ r.evacuations → r.countEvacuation = r)

/-- The purge end (R86): PURGE_VALVE is closed, and the train goes on to DRAWING, to PAUSED for a
suspended station, and with a FULL vessel first changes over, waits, or is exhausted (R91, R92).
The tail end (R89): the train is stopped and its outlet closed, the unit's entry closes, the train is
IDLE with the class it carried, its station loses it, and a grant scan is made.  That the event has no effect
out of TAILING is the model's choice (log 5). -/
def Obligations.TrainExpiriesAct : Prop :=
  (∀ (s : State) (t : TrainId) (i : StationId) (tag : Tag) (d : Moment) (k : SlotId) (v : Vessel)
     (r : UnitRecord) (cls : VesselClass), s.resetPin = false → (s.train t).state = .purging →
     s.control.line ≠ .halted → (s.train t).purgeEnd = some d → (s.train t).station = some i →
     (s.train t).tag = some tag → (s.train t).carried = some cls → (s.train t).slot = some k →
     (s.slot k).vessel = some v → s.findUnit tag = some r →
     ∃ u : State, ∃ go : SlotId → State → State,
       u = ((s.advanceTo d).issue .pathArbiter (.train t) (.purgeValve false)).setTrain t
         { s.train t with purgeEnd := none } ∧
       (∀ k x, (s.station i).suspended = true → go k x =
         ((x.issue .pathArbiter (.train t) (.outletOpen k)).issue .pathArbiter (.train t)
           .compressorStop).onTrain t fun y => { y with state := .paused }) ∧
       (∀ k x, (s.station i).suspended = false → go k x =
         ((x.issue .pathArbiter (.train t) (.outletOpen k)).onTrain t fun y =>
           { y with state := .drawing }).openEvac i) ∧
       (v.state ≠ .full → exec (.trainPurgeEnd t) s = .next (go k u).afterEvent) ∧
       (v.state = .full → 4 ≤ r.allocations.length → exec (.trainPurgeEnd t) s =
         .next ((u.raise .allocExhausted (.station i) { first := tag, second := none }).faultStation i
           (.phase .evacuate) true).afterEvent) ∧
       (∀ k' v', v.state = .full → r.allocations.length < 4 → s.chooseVessel cls = some k' →
         (s.slot k').vessel = some v' → exec (.trainPurgeEnd t) s =
           .next (go k' ((u.onUnit tag fun r => r.openEntry k' v'.id).onTrain t fun y =>
             { y with slot := some k' })).afterEvent) ∧
       (v.state = .full → r.allocations.length < 4 → s.chooseVessel cls = none →
         exec (.trainPurgeEnd t) s =
           .next (((((u.onUnit tag UnitRecord.closeEntry).issue .pathArbiter (.train t)
             .compressorStop).onTrain t fun y => { y with state := .waitVessel }).awaitVessel i).raise
               .vesselNone (.train t) { first := tag, second := none }).afterEvent)) ∧
  ∀ (s : State) (t : TrainId), s.resetPin = false →
    (∀ i tag d, (s.train t).state = .tailing → (s.train t).tailEnd = some d →
      (s.train t).station = some i → (s.train t).tag = some tag →
      ∃ u v : State,
        u = (((s.advanceTo d).issue .pathArbiter (.train t) .compressorStop).issue .pathArbiter (.train t)
          .outletClose).onUnit tag (fun r =>
            { r with allocations := r.allocations.map fun e => { e with isOpen := false } }) ∧
        v = (u.setTrain t
          { state := .idle, lastClass := (s.train t).carried, carried := none, station := none
            tag := none, slot := none, purgeEnd := none, tailEnd := none }).onStation i (fun x =>
              { x with train := none }) ∧
        exec (.trainTailExpiry t) s = .next v.grantScan.afterEvent) ∧
    ((s.train t).state ≠ .tailing → exec (.trainTailExpiry t) s = .next s.afterEvent)

/-! ## Vessels -/

/-- A bay answer writes every platform, and raises VESSEL_OVERFILL for the fed vessels whose scale gain is
over 105 % of the capacity above the initial content (R99, R106), in ascending slot order (the model's
choice, log 42). -/
def Obligations.BayAnswerWritesAndTestsOverfill : Prop :=
  (∀ (s : State) (a : BayAnswer), s.resetPin = false → ∃ u : State,
    (∀ k, u.slot k = { s.slot k with platform := some (a.platforms.get k) }) ∧
    ({ u with slots := s.slots } : State) = (s.advanceTo a.moment).setNode .bay
      { misses := 0, silent := false, previousTaken := true } ∧
    exec (.bayAnswer a) s = .next (forAll slotIds u State.testOverfill).afterEvent) ∧
  ∀ (s : State) (k : SlotId) (v : Vessel) (p : Platform), (s.slot k).vessel = some v →
    (s.slot k).platform = some p →
    ((∃ t, (s.train t).slot = some k) ∨ (∃ bk, (s.bank bk).drainSlot = some k) →
      v.initial ≤ p.net → (105 : Int) * (v.fill - v.initial) < 100 * (p.net - v.initial) →
      s.testOverfill k =
        s.raise .vesselOverfill (.slot k) { first := p.net - v.initial, second := none }) ∧
    (¬ ((∃ t, (s.train t).slot = some k) ∨ ∃ bk, (s.bank bk).drainSlot = some k) ∨
        p.net < v.initial ∨ (100 : Int) * (p.net - v.initial) ≤ 105 * (v.fill - v.initial) →
      s.testOverfill k = s)

/-- The vessel chosen for a class is the FILLING one in the lowest slot, else the READY one in the lowest
slot, else none (R100). -/
def Obligations.VesselChoicePrefersFilling : Prop :=
  ∀ (s : State) (cls : VesselClass) (is : SlotId → VesselState → Prop),
    (∀ k st, is k st ↔ ∃ v, (s.slot k).vessel = some v ∧ v.cls = cls ∧ v.state = st) →
    (∀ k, is k .filling → (∀ j < k, ¬ is j .filling) → s.chooseVessel cls = some k) ∧
    (∀ k, (∀ j, ¬ is j .filling) → is k .ready → (∀ j < k, ¬ is j .ready) →
      s.chooseVessel cls = some k) ∧
    ((∀ j, ¬ is j .filling ∧ ¬ is j .ready) → s.chooseVessel cls = none)

/-- The full test: a delta of more than 0 g is booked in full and makes the vessel FILLING below its
fill-limit and FULL from there on; a FULL vessel stays FULL, and 0 g books nothing (R104). -/
def Obligations.BookingTestsTheFillLimit : Prop :=
  ∀ (v : Vessel) (d : Grams),
    v.book 0 = v ∧
    (0 < d →
      (v.state = .ready → v.booked + d + v.initial < v.fill →
        v.book d = { v with booked := v.booked + d, state := .filling }) ∧
      (v.state = .filling → v.booked + d + v.initial < v.fill →
        v.book d = { v with booked := v.booked + d }) ∧
      (v.state = .ready ∨ v.state = .filling → v.fill ≤ v.booked + d + v.initial →
        v.book d = { v with booked := v.booked + d, state := .full }) ∧
      (v.state = .full → v.book d = { v with booked := v.booked + d }))

/-- An accepted INSERT-VESSEL enters a READY vessel with booked 0; then trains resume, a grant scan is made
and for AGENT the waiting banks test (R108).  An accepted CLOSE-VESSEL makes the vessel FULL with the
changeover of R105, and leaves a FULL one as it stands (R109).
The trains that feed a vessel that has become FULL change over in ascending order, unless the line is
HALTED (R91, R94): a train goes to the vessel chosen for its class with a new entry, waits where there is
none, and its station faults where the record holds 4 entries (R91, R92).
A vessel that becomes READY resumes the trains that wait for its class, in ascending order (R92, R61),
and for AGENT the waiting banks test, the earlier wait first (R144); neither while HALTED.  A full AGENT
vessel re-routes or closes the drain that feeds it (R146).  A station that awaits a vessel closes its
valve (R61). -/
def Obligations.VesselsEnterCloseAndChangeOver : Prop :=
  (∀ (s : State) (slot : Nat) (k : SlotId), s.takesCommand → slotOf slot = some k →
     (∀ id cls tare initial fill p, id ≠ 0 → initial < fill → (s.slot k).vessel = none →
       (∀ j v, j ≠ k → (s.slot j).vessel = some v → v.id ≠ id) → (s.node .bay).silent = false →
       (s.slot k).platform = some p → p.present = true →
       ∃ u v w : State,
         u = s.setSlot k
           { s.slot k with
             vessel := some
               { state := .ready, id := id, cls := cls, tare := tare, initial := initial, fill := fill
                 booked := 0 } } ∧
         v = (u.resumeTrains cls).grantScan ∧ (cls = .agent → w = v.testWaiting) ∧
         (cls ≠ .agent → w = v) ∧
         exec (.insertVessel slot id cls tare initial fill) s =
           .next (w.send [okLine .insertVessel (field "slot" (numText slot) ++
             field "id" (numText id) ++ field "class" (ascii (vesselClassWord cls)))]).afterEvent) ∧
     (∀ v, (s.slot k).vessel = some v → v.state ≠ .full →
       ∃ u : State,
         u = (s.setSlot k { s.slot k with vessel := some { v with state := .full } }).raise .vesselFull
           (.slot k) { first := v.id, second := none } ∧
         (v.cls = .agent → exec (.closeVessel slot) s =
           .next ((u.changeDrain k).send [okLine .closeVessel (field "slot" (numText slot) ++
             field "id" (numText v.id))]).afterEvent) ∧
         (v.cls ≠ .agent → exec (.closeVessel slot) s =
           .next ((u.changeTrains k).send [okLine .closeVessel (field "slot" (numText slot) ++
             field "id" (numText v.id))]).afterEvent)) ∧
     (∀ v, (s.slot k).vessel = some v → v.state = .full → exec (.closeVessel slot) s =
       .next (s.send [okLine .closeVessel (field "slot" (numText slot) ++
         field "id" (numText v.id))]).afterEvent)) ∧
  (∀ (s : State) (k : SlotId),
     (s.control.line = .halted → s.changeTrains k = s) ∧
     (s.control.line ≠ .halted → s.changeTrains k =
       State.changeTrain k (State.changeTrain k (State.changeTrain k (State.changeTrain k s 0) 1) 2) 3) ∧
     ∀ t : TrainId,
       ((s.train t).slot ≠ some k ∨ ((s.train t).state ≠ .drawing ∧ (s.train t).state ≠ .paused) →
         s.changeTrain k t = s) ∧
       ∀ i tag cls r, (s.train t).slot = some k →
         (s.train t).state = .drawing ∨ (s.train t).state = .paused →
         (s.train t).station = some i → (s.train t).tag = some tag → (s.train t).carried = some cls →
         s.findUnit tag = some r →
         (4 ≤ r.allocations.length → s.changeTrain k t =
           (s.raise .allocExhausted (.station i) { first := tag, second := none }).faultStation i
             (.phase .evacuate) true) ∧
         (∀ k' v', r.allocations.length < 4 → s.chooseVessel cls = some k' →
           (s.slot k').vessel = some v' → s.changeTrain k t =
             ((s.onUnit tag fun r => r.openEntry k' v'.id).setTrain t { s.train t with
               slot := some k' }).issue .pathArbiter (.train t) (.outletOpen k')) ∧
         (r.allocations.length < 4 → s.chooseVessel cls = none → ∃ u : State,
           ((s.train t).state = .drawing →
             u = (s.onUnit tag UnitRecord.closeEntry).issue .pathArbiter (.train t) .compressorStop) ∧
           ((s.train t).state = .paused → u = s.onUnit tag UnitRecord.closeEntry) ∧
           s.changeTrain k t = ((u.setTrain t { s.train t with state := .waitVessel }).awaitVessel i).raise
             .vesselNone (.train t) { first := tag, second := none })) ∧
  (∀ (s : State) (cls : VesselClass),
    (s.control.line = .halted → s.resumeTrains cls = s) ∧
    (s.control.line ≠ .halted → s.resumeTrains cls =
      State.resumeTrain cls (State.resumeTrain cls (State.resumeTrain cls
        (State.resumeTrain cls s 0) 1) 2) 3) ∧
    ∀ t : TrainId,
      ((s.train t).state ≠ .waitVessel ∨ (s.train t).carried ≠ some cls ∨
        s.chooseVessel cls = none → s.resumeTrain cls t = s) ∧
      ∀ i tag k v, (s.train t).state = .waitVessel → (s.train t).carried = some cls →
        (s.train t).station = some i → (s.train t).tag = some tag →
        s.chooseVessel cls = some k → (s.slot k).vessel = some v →
        ∃ u : State,
          u = (((s.onUnit tag fun r => r.openEntry k v.id).setStation i
            { s.station i with
              awaitingVessel := false
              suspended := (s.station i).suspended || decide (s.control.line = .stopped) })) ∧
          (s.control.line = .stopped ∨ (s.station i).suspended = true → s.resumeTrain cls t =
            (u.issue .pathArbiter (.train t) (.outletOpen k)).setTrain t
              { s.train t with state := .paused, slot := some k }) ∧
          (s.control.line ≠ .stopped → (s.station i).suspended = false → s.resumeTrain cls t =
            (((u.issue .pathArbiter (.train t) (.outletOpen k)).issue .pathArbiter (.train t)
              .compressorStart).setTrain t
                { s.train t with state := .drawing, slot := some k }).openEvac i)) ∧
  (∀ (s : State) (i : StationId),
    ((s.station i).evacValve = .opening ∨ (s.station i).evacValve = .opened → s.awaitVessel i =
      (s.issue .stationController (.station i) (.evacValve false)).setStation i
        { s.station i with
          awaitingVessel := true, evacValve := .closing, evacOrder := some s.orderNumber }) ∧
    ((s.station i).evacValve = .closed ∨ (s.station i).evacValve = .closing → s.awaitVessel i =
      s.setStation i { s.station i with awaitingVessel := true })) ∧
  (∀ s : State,
    (s.control.line = .halted → s.testWaiting = s) ∧
    (s.control.line ≠ .halted →
      (∀ x y, (s.bank .a).waitSince = some x → (s.bank .b).waitSince = some y → y < x →
        s.testWaiting = (s.retestDrain .b).retestDrain .a) ∧
      (∀ x y, (s.bank .a).waitSince = some x → (s.bank .b).waitSince = some y → x ≤ y →
        s.testWaiting = (s.retestDrain .a).retestDrain .b) ∧
      ((s.bank .b).state ≠ .drainWait → s.testWaiting = s.retestDrain .a) ∧
      ((s.bank .a).state ≠ .drainWait → s.testWaiting = s.retestDrain .b)) ∧
    ∀ bk,
      ((s.bank bk).state = .drainWait → (s.bank bk).drainValve ≠ .closing →
        s.retestDrain bk = s.testDrain bk) ∧
      ((s.bank bk).state ≠ .drainWait ∨ (s.bank bk).drainValve = .closing →
        s.retestDrain bk = s)) ∧
  ∀ (s : State) (k : SlotId),
    (s.control.line = .halted ∨ s.drainHolder = none → s.changeDrain k = s) ∧
    ∀ bk, s.drainHolder = some bk →
      ((s.bank bk).drainSlot ≠ some k ∨ (s.bank bk).drainEnded = true → s.changeDrain k = s) ∧
      ((s.bank bk).drainSlot = some k → (s.bank bk).drainEnded = false →
        s.control.line ≠ .halted →
        (∀ j, s.chooseVessel .agent = some j → s.changeDrain k =
          (s.issue .condenser .condenser (.bankDrainOpen bk j)).setBank bk
            { s.bank bk with drainSlot := some j }) ∧
        (s.chooseVessel .agent = none → s.changeDrain k =
          ((s.issue .condenser .condenser (.bankDrainClose bk)).setBank bk { s.bank bk with
            drainValve := .closing, drainOrder := some s.orderNumber, state := .drainWait
            waitSince := some ((s.bank bk).waitSince.getD s.now), drainDeadline := none }).raise
              .agentVesselNone (.bank bk) { first := (s.bank bk).drained, second := none }))

/-- An accepted REMOVE-VESSEL reconciles the vessel and makes the slot VACANT, its platform's fields kept:
the vessel is discrepant when the difference exceeds both limits, and VESSEL_DISCREPANCY carries both
figures (R111, R112). -/
def Obligations.RemovedVesselIsReconciled : Prop :=
  ∀ (s : State) (slot : Nat) (k : SlotId) (v : Vessel) (p : Platform) (gain : Int) (diff : Nat)
    (bad : Prop), s.takesCommand → slotOf slot = some k → (s.slot k).vessel = some v →
    v.state ≠ .filling → (∀ t, (s.train t).slot ≠ some k) → (∀ bk, (s.bank bk).drainSlot ≠ some k) →
    (s.node .bay).silent = false → (s.slot k).platform = some p →
    gain = (p.net : Int) - v.initial → diff = (gain - v.booked).natAbs →
    (bad ↔ s.control.settings.discrepancyGrams < diff ∧
      s.control.settings.discrepancyPercent * v.booked < 100 * diff) →
    ∃ (u : State) (reply : Text → Text),
      (bad → u = s.raise .vesselDiscrepancy (.slot k) { first := v.booked, second := some gain }) ∧
      (¬ bad → u = s) ∧
      (∀ word, reply word = okLine .removeVessel (field "slot" (numText slot) ++
        field "id" (numText v.id) ++ field "class" (ascii (vesselClassWord v.cls)) ++
        field "booked" (numText v.booked) ++ field "gain" (intText gain) ++
        field "discrepant" word)) ∧
      (bad → exec (.removeVessel slot) s =
        .next ((u.setSlot k { s.slot k with vessel := none }).send [reply (ascii "yes")]).afterEvent) ∧
      (¬ bad → exec (.removeVessel slot) s =
        .next ((u.setSlot k { s.slot k with vessel := none }).send [reply (ascii "no")]).afterEvent)

/-! ## The foam chamber -/

/-- The end of a chamber phase (R121): without permission the chamber stands at the boundary; with it, it
spends its credit and begins PURGE (R123), CLEAR (R127), or SHRED where the condensing bank has room and
its O2 allows it, or PURGE in its place, and else waits (R124, R140).  In IDLE with permission it takes the
head of the feed queue (R122).
A chamber at a boundary that tests for permission tries its next phase as at the end of the phase before
it (R121). -/
def Obligations.ChamberBeginsPhasesWithPermission : Prop :=
  (∀ (s : State) (may : Prop) (spent : State) (enter : ChamberPhase → State) (purging : State)
     (back : ChamberPhase → State),
     (may ↔ (s.control.line = .run ∨ (s.control.line = .step ∧ s.control.chamberCredit = true)) ∧
       (s.node .chamber).silent = false) →
     spent = s.setControl { s.control with chamberCredit := false } →
     (∀ p, back p = { s with chamber := { s.chamber with nextPhase := some p } }) →
     (∀ p, enter p = ({ spent with
       chamber := { s.chamber with phase := p, nextPhase := none } } : State).watchEntry 9
         s.chamber.unit (chamberPhaseName p)) →
     purging = ((enter .purge).issue .chamberSequencer .chamber (.nitrogen true)).onChamber (fun c =>
       { c with
         repurge := false, nitrogenOpen := true
         purgeEnd := some (s.now + s.control.settings.purgeMax * 1000) }) →
     (∀ p, ¬ may → s.endChamberPhase p = back p) ∧
     (may → s.endChamberPhase .purge = purging) ∧
     (may → s.endChamberPhase .clear =
       (enter .clear).onChamber fun c => { c with clearEnd := some (s.now + 60000) }) ∧
     (∀ tag r bk g, may → s.chamber.unit = some tag → s.findUnit tag = some r →
       s.condensing = some bk → (s.bank bk).window.length < 8 →
       ((s.bank bk).swapPending = true → (s.bank bk).load < s.control.settings.bankHardLoad) →
       s.chamber.readings = some g →
       ((r.inertRequired = false ∨ g.o2 ≤ s.control.settings.purgeO2) →
         ∃ w, w = ((enter .shred).onBank bk fun x =>
             { x with
               window := x.window ++ [{ tag := tag, foam := none }]
               swapPending := x.swapPending || decide (8 ≤ x.window.length + 1) }).onUnit tag (fun r =>
                 { r with windows := r.windows ++ [{ bank := bk, foam := none, share := none }] }) ∧
           s.endChamberPhase .shred =
             (w.onChamber fun c => { c with foamStart := some g.foam, emptyNoted := false }).issue
               .chamberSequencer .chamber .shredderStart) ∧
       (r.inertRequired = true → s.control.settings.purgeO2 < g.o2 →
         s.endChamberPhase .shred = purging)) ∧
     ((s.condensing = none ∨ ∃ bk, s.condensing = some bk ∧ (8 ≤ (s.bank bk).window.length ∨
         (s.bank bk).swapPending = true ∧ s.control.settings.bankHardLoad ≤ (s.bank bk).load)) →
       s.endChamberPhase .shred = back .shred) ∧
     (∀ tag rest, s.chamber.phase = .idle → s.chamber.nextPhase = none → s.chamber.feed = tag :: rest →
       (may → ∃ u v : State,
         u = ({ spent with chamber := { s.chamber with feed := rest, unit := some tag, phase := .airlock } }
           : State).onUnit tag (fun r => { r with place := some .chamber }) ∧
         v = u.watchEntry 9 (some tag) .airlock ∧
         s.testChamber = (v.issue .chamberSequencer .chamber .doorCycle).onChamber fun c =>
           { c with doorOrder := some v.orderNumber }) ∧
       (¬ may → s.testChamber = s))) ∧
  ∀ (s : State) (p : ChamberPhase), s.chamber.nextPhase = some p → s.testChamber = s.endChamberPhase p

/-- A chamber answer replaces the readings and raises LEL_WARN from lel-warn on (R120).  In PURGE, O2 at
or below purge-o2 ends the purge (R123); in SHRED of an inert-required unit, O2 above pause-o2 pauses the
shred and O2 above 80 raises CHAMBER_O2_HIGH (R126), and EMPTY ends SHRED (R125); with no phase that reads
them, nothing more happens.  The order LEL, pause, high limit, EMPTY, and that a chamber at a boundary acts on
no reading, are log 22 (DEDUCED).
DOOR_CYCLE reported DONE ends AIRLOCK: PURGE is next for an inert-required unit, else SHRED (R122); a
frozen chamber only records it (R133).  The answer's readings come after its report (R189), so an EMPTY in it
ends the SHRED that began with the report, or is noted while a SHREDDER_STOP is outstanding (R125).
EMPTY while SHRED cannot end is noted: while a SHREDDER_STOP is outstanding, with the pause of the same
answer, and in the answer that ends a re-purge, whose return then ends SHRED at once (R125, R126).
The high limit is tested in every phase of a shred in progress, HALTED included, and a frozen chamber
acts on no other O2 (R126, R133); EMPTY is noted where SHRED cannot end, but for CLEAR (R125, R133;
log 22).
SHRED ends: the foam is the scale reading less the foam start, or 0; it is the record's foam, and less
the foam of its earlier windows it is the last window's, in the record and in the bank's window (R125). -/
def Obligations.ChamberAnswerActsOnItsReadings : Prop :=
  (∀ (s : State) (a : ChamberAnswer) (g : ChamberReadings), s.resetPin = false →
     (s.node .chamber).silent = false → a.reports = [] → a.readings = g →
     ∃ u v : State,
       u = ({ s.advanceTo a.moment with
         chamber := { s.chamber with readings := some g } } : State).setNode .chamber
           { misses := 0, silent := false, previousTaken := true } ∧
       (s.control.settings.lelWarn ≤ g.lel →
         v = u.raise .lelWarn .chamber { first := g.lel, second := none }) ∧
       (g.lel < s.control.settings.lelWarn → v = u) ∧
       ((s.chamber.nextPhase ≠ none ∨ s.chamber.phase = .idle ∨ s.chamber.phase = .airlock ∨
           s.chamber.phase = .faulted) → exec (.chamberAnswer a) s = .next v.afterEvent) ∧
       (s.chamber.nextPhase = none → s.control.line ≠ .halted → s.chamber.phase = .purge →
         s.chamber.repurge = false →
         (s.control.settings.purgeO2 < g.o2 → exec (.chamberAnswer a) s = .next v.afterEvent) ∧
         (g.o2 ≤ s.control.settings.purgeO2 → exec (.chamberAnswer a) s =
           .next (((v.issue .chamberSequencer .chamber (.nitrogen false)).onChamber fun c =>
             { c with nitrogenOpen := false, purgeEnd := none }).endChamberPhase
               .shred).afterEvent)) ∧
       (s.chamber.nextPhase = none → s.control.line ≠ .halted → s.chamber.phase = .purge →
         s.chamber.repurge = true → g.o2 ≤ s.control.settings.purgeO2 → g.o2 ≤ 80 →
         g.emptied = false → ∃ w : State,
           w = (((v.issue .chamberSequencer .chamber (.nitrogen false)).onChamber fun c =>
             { c with
               phase := .shred, nitrogenOpen := false, purgeEnd := none
               repurge := false }).watchEntry 9 s.chamber.unit .shred) ∧
           (s.chamber.emptyNoted = false → exec (.chamberAnswer a) s =
             .next (w.issue .chamberSequencer .chamber .shredderStart).afterEvent) ∧
           (s.chamber.emptyNoted = true →
             exec (.chamberAnswer a) s = .next w.endShred.afterEvent)) ∧
       ∀ tag r, s.chamber.nextPhase = none → s.control.line ≠ .halted → s.chamber.phase = .shred →
         s.chamber.repurge = false → s.chamber.unit = some tag → s.findUnit tag = some r →
         (r.inertRequired = true → s.control.settings.pauseO2 < g.o2 → g.emptied = false →
           ∃ w x : State,
             w = ((((v.issueFor .chamberSequencer .chamber .shredderStop .oxygenPause).raise
               .chamberO2Pause .chamber { first := g.o2, second := none }).onChamber fun c =>
                 { c with phase := .purge }).watchEntry 9 (some tag) .purge) ∧
             x = (w.issue .chamberSequencer .chamber (.nitrogen true)).onChamber (fun c =>
               { c with
                 repurge := true, nitrogenOpen := true
                 purgeEnd := some (u.now + s.control.settings.purgeMax * 1000) }) ∧
             (g.o2 ≤ 80 → exec (.chamberAnswer a) s = .next x.afterEvent) ∧
             (80 < g.o2 → exec (.chamberAnswer a) s = .next (x.raise .chamberO2High .chamber
               { first := g.o2, second := none }).afterEvent)) ∧
         (r.inertRequired = false ∨ (g.o2 ≤ s.control.settings.pauseO2 ∧ g.o2 ≤ 80) →
           (g.emptied = false → exec (.chamberAnswer a) s = .next v.afterEvent) ∧
           ((∀ o ∈ s.loop.orders, o.node = .chamber → o.kind ≠ .shredderStop) →
             g.emptied = true → exec (.chamberAnswer a) s = .next v.endShred.afterEvent))) ∧
  ((∀ (s : State) (a : ChamberAnswer) (g : ChamberReadings) (o : Order) (tag : Tag) (r : UnitRecord),
     s.resetPin = false → (s.node .chamber).silent = false → a.readings = g →
     a.reports = [{ number := o.number, status := .done }] →
     s.findOrder .chamber o.number = some o → o.kind = .doorCycle →
     s.chamber.doorOrder = some o.number → s.chamber.phase = .airlock → s.chamber.nextPhase = none →
     s.chamber.repurge = false → s.chamber.unit = some tag → s.findUnit tag = some r →
     ∃ u v w x : State,
       u = (((s.advanceTo a.moment).setNode .chamber
         { misses := 0, silent := false, previousTaken := true }).setOrders
           (s.loop.orders.filter fun p =>
             decide (¬ (p.node = .chamber ∧ p.number = o.number)))).onChamber (fun c =>
               { c with doorOrder := none }) ∧
       (s.control.line = .halted → v = u) ∧
       (s.control.line ≠ .halted → r.inertRequired = true → v = u.endChamberPhase .purge) ∧
       (s.control.line ≠ .halted → r.inertRequired = false → v = u.endChamberPhase .shred) ∧
       w = { v with chamber := { v.chamber with readings := some g } } ∧
       (s.control.settings.lelWarn ≤ g.lel →
         x = w.raise .lelWarn .chamber { first := g.lel, second := none }) ∧
       (g.lel < s.control.settings.lelWarn → x = w) ∧
       (g.emptied = false ∨ v.chamber.phase ≠ .shred →
         exec (.chamberAnswer a) s = .next x.afterEvent) ∧
       (g.emptied = true → v.chamber.phase = .shred →
         (∀ p ∈ v.loop.orders, p.node = .chamber → p.kind ≠ .shredderStop) →
         exec (.chamberAnswer a) s = .next x.endShred.afterEvent) ∧
       (g.emptied = true → v.chamber.phase = .shred →
         (∃ p ∈ v.loop.orders, p.node = .chamber ∧ p.kind = .shredderStop) →
         exec (.chamberAnswer a) s =
           .next (x.onChamber fun c => { c with emptyNoted := true }).afterEvent)) ∧
   ∀ (s : State) (a : ChamberAnswer) (g : ChamberReadings) (tag : Tag) (r : UnitRecord),
     s.resetPin = false → (s.node .chamber).silent = false → a.reports = [] → a.readings = g →
     g.lel < s.control.settings.lelWarn → g.emptied = true → s.control.line ≠ .halted →
     s.chamber.nextPhase = none → s.chamber.unit = some tag → s.findUnit tag = some r →
     ∃ u : State,
       u = ({ s.advanceTo a.moment with
         chamber := { s.chamber with readings := some g } } : State).setNode .chamber
           { misses := 0, silent := false, previousTaken := true } ∧
       (s.chamber.phase = .shred → s.chamber.repurge = false →
         ((r.inertRequired = false ∨ (g.o2 ≤ s.control.settings.pauseO2 ∧ g.o2 ≤ 80)) →
           (∃ o ∈ s.loop.orders, o.node = .chamber ∧ o.kind = .shredderStop) →
           exec (.chamberAnswer a) s =
             .next (u.onChamber fun c => { c with emptyNoted := true }).afterEvent) ∧
         (r.inertRequired = true → s.control.settings.pauseO2 < g.o2 → ∃ v w x : State,
           v = ((((u.issueFor .chamberSequencer .chamber .shredderStop .oxygenPause).raise
             .chamberO2Pause .chamber { first := g.o2, second := none }).onChamber fun c =>
               { c with phase := .purge }).watchEntry 9 (some tag) .purge) ∧
           w = (v.issue .chamberSequencer .chamber (.nitrogen true)).onChamber (fun c =>
             { c with
               repurge := true, nitrogenOpen := true
               purgeEnd := some (u.now + s.control.settings.purgeMax * 1000) }) ∧
           (g.o2 ≤ 80 → x = w) ∧
           (80 < g.o2 →
             x = w.raise .chamberO2High .chamber { first := g.o2, second := none }) ∧
           exec (.chamberAnswer a) s =
             .next (x.onChamber fun c => { c with emptyNoted := true }).afterEvent)) ∧
       (s.chamber.phase = .purge → s.chamber.repurge = true → g.o2 ≤ s.control.settings.purgeO2 →
         g.o2 ≤ 80 → ∃ v : State,
           v = ((u.issue .chamberSequencer .chamber (.nitrogen false)).onChamber fun c =>
             { c with
               phase := .shred, nitrogenOpen := false, purgeEnd := none, repurge := false
               emptyNoted := true }).watchEntry 9 (some tag) .shred ∧
           exec (.chamberAnswer a) s = .next v.endShred.afterEvent)) ∧
  (∀ (s : State) (a : ChamberAnswer) (g : ChamberReadings) (tag : Tag) (r : UnitRecord),
     s.resetPin = false → (s.node .chamber).silent = false → a.reports = [] → a.readings = g →
     g.lel < s.control.settings.lelWarn → s.chamber.nextPhase = none →
     s.chamber.unit = some tag → s.findUnit tag = some r → ∃ u v : State,
       u = ({ s.advanceTo a.moment with
         chamber := { s.chamber with readings := some g } } : State).setNode .chamber
           { misses := 0, silent := false, previousTaken := true } ∧
       (r.inertRequired = true → 80 < g.o2 →
         v = u.raise .chamberO2High .chamber { first := g.o2, second := none }) ∧
       (r.inertRequired = false ∨ g.o2 ≤ 80 → v = u) ∧
       (s.chamber.phase = .clear → exec (.chamberAnswer a) s = .next v.afterEvent) ∧
       ((s.chamber.phase = .suspended ∧ s.chamber.returnPhase ≠ none ∨
           s.chamber.phase = .purge ∧ s.chamber.repurge = true ∧
             (s.control.settings.purgeO2 < g.o2 ∨ s.control.line = .halted) ∨
           s.chamber.phase = .shred ∧ s.control.line = .halted) →
         (g.emptied = false → exec (.chamberAnswer a) s = .next v.afterEvent) ∧
         (g.emptied = true → exec (.chamberAnswer a) s =
           .next (v.onChamber fun c => { c with emptyNoted := true }).afterEvent)) ∧
       (s.chamber.phase = .purge → s.chamber.repurge = false → s.control.line = .halted →
         exec (.chamberAnswer a) s = .next u.afterEvent)) ∧
  ∀ (s : State) (tag : Tag) (r : UnitRecord) (ws : List WindowEntry) (w : WindowEntry)
    (g : ChamberReadings) (start foam last : Grams), s.chamber.unit = some tag →
    s.findUnit tag = some r → r.windows = ws ++ [w] → s.chamber.readings = some g →
    s.chamber.foamStart = some start → foam = g.foam - start →
    last = foam - (ws.map fun e => e.foam.getD 0).sum →
    s.endShred =
      ((((s.onUnit tag fun r => { r with foam := some foam }).onUnit tag fun r =>
        { r with windows := r.windows.dropLast ++
          (r.windows.getLast?.map fun e => { e with foam := some last }).toList }).onBank w.bank fun x =>
            { x with window := x.window.map fun c =>
              if c.tag = tag then { c with foam := some last } else c }).onChamber fun c =>
                { c with foamStart := none }).endChamberPhase .clear

/-- The purge end raises PURGE_TIMEOUT and faults the chamber (R123), whose fault action keeps the unit,
nitrogen and foam start, and orders SHREDDER_STOP (R130).  The clear end empties the chamber, moves the
record on, and lets the swap test and the test for permission follow (R127, R142).  That the two events have
no effect outside PURGE and outside CLEAR is the model's choice (log 5).
A failed order of the chamber's faults it with the phase that its rule names (R122, R123, R124, R126,
R128), any failed order does while HALTED (R133), and a FAULTED chamber stays as it stands (R130; log 23).
The fault action writes the foam so far to the last window entry that has none (R128, R130). -/
def Obligations.ChamberExpiriesAct : Prop :=
  ((∀ (s : State) (d : Moment) (g : ChamberReadings), s.resetPin = false →
     s.chamber.phase = .purge → s.chamber.nextPhase = none → s.control.line ≠ .halted →
     s.chamber.purgeEnd = some d → s.chamber.readings = some g →
     exec .purgeTimeout s = .next ((s.advanceTo d).raise .purgeTimeout .chamber
       { first := g.o2, second := none }).faultChamber.afterEvent) ∧
   (∀ s : State, s.resetPin = false →
     (s.chamber.phase ≠ .purge ∨ s.chamber.nextPhase ≠ none ∨ s.control.line = .halted) →
       exec .purgeTimeout s = .next s.afterEvent) ∧
   (∀ s t : State, t = s.faultChamber →
     t.chamber = { s.chamber with
       phase := .faulted, nextPhase := none
       faultedPhase := if s.chamber.phase = .idle ∧ s.chamber.nextPhase = none then none
         else some (s.chamber.nextPhase.getD s.chamber.phase)
       repurge := false, returnPhase := none, purgeEnd := none, clearEnd := none
       doorOrder := none } ∧
     (∃ o ∈ t.loop.orders, o.node = .chamber ∧ o.kind = .shredderStop) ∧
     ∀ tag r, s.chamber.unit = some tag → s.findUnit tag = some r →
       (∀ w, r.windows.getLast? = some w → w.foam ≠ none) → t.register = s.register) ∧
   (∀ (s : State) (d : Moment) (tag : Tag) (r : UnitRecord), s.resetPin = false →
     s.chamber.phase = .clear → s.chamber.nextPhase = none → s.control.line ≠ .halted →
     s.chamber.clearEnd = some d → s.chamber.unit = some tag → s.findUnit tag = some r →
     ∃ u : State,
       u = { s.advanceTo d with
         chamber := { s.chamber with phase := .idle, unit := none, clearEnd := none } } ∧
       ((∃ w ∈ r.windows, w.share = none) → exec .clearEnd s =
         .next ((u.onUnit tag fun r =>
           { r with place := some .attribution }).swapTest.testChamber).afterEvent) ∧
       ((∀ w ∈ r.windows, w.share ≠ none) → exec .clearEnd s =
         .next (u.closeUnit tag .complete).swapTest.testChamber.afterEvent)) ∧
   ∀ s : State, s.resetPin = false →
     (s.chamber.phase ≠ .clear ∨ s.chamber.nextPhase ≠ none ∨ s.control.line = .halted) →
       exec .clearEnd s = .next s.afterEvent) ∧
  (∀ (s : State) (o : Order), o.node = .chamber →
    (s.chamber.phase = .faulted → s.orderFails o = s) ∧
    (s.chamber.phase ≠ .faulted →
      (o.kind = .doorCycle → s.orderFails o = s.faultChamberIn .airlock) ∧
      (o.kind = .nitrogen true → o.cause ≠ .halt → s.orderFails o = s.faultChamberIn .purge) ∧
      (o.kind = .shredderStart → s.orderFails o = s.faultChamberIn .shred) ∧
      (o.kind = .shredderStop → s.chamber.phase = .suspended →
        s.orderFails o = s.faultChamberIn .suspended) ∧
      (o.kind = .shredderStop → s.chamber.phase ≠ .suspended → o.cause = .oxygenPause →
        s.orderFails o = s.faultChamberIn .purge) ∧
      ((o.kind = .nitrogen false ∨ o.kind = .doorLock ∨
          o.kind = .nitrogen true ∧ o.cause = .halt ∨
          o.kind = .shredderStop ∧ s.chamber.phase ≠ .suspended ∧ o.cause ≠ .oxygenPause) →
        (s.control.line = .halted → s.orderFails o = s.faultChamber) ∧
        (s.control.line ≠ .halted → s.orderFails o = s)))) ∧
  (∀ s : State, s.faultChamber = s.faultChamberIn (s.chamber.nextPhase.getD s.chamber.phase)) ∧
  ∀ (s t : State) (p : ChamberPhase), t = s.faultChamberIn p →
    t.chamber = { s.chamber with
      phase := .faulted, nextPhase := none
      faultedPhase := if s.chamber.phase = .idle ∧ s.chamber.nextPhase = none then none else some p
      repurge := false, returnPhase := none, purgeEnd := none, clearEnd := none
      doorOrder := none } ∧
    (∃ o ∈ t.loop.orders, o.node = .chamber ∧ o.kind = .shredderStop) ∧
    ∀ tag r ws w g start last, s.chamber.unit = some tag → s.findUnit tag = some r →
      r.windows = ws ++ [w] → w.foam = none → s.chamber.readings = some g →
      s.chamber.foamStart = some start →
      last = g.foam - start - (ws.map fun e => e.foam.getD 0).sum →
      t.register = { s.register with units := s.register.units.map fun x =>
        if x.tag = tag then { x with windows := x.windows.dropLast ++
          (x.windows.getLast?.map fun e => { e with foam := some last }).toList } else x } ∧
      (t.bank w.bank).window = (s.bank w.bank).window.map fun c =>
        if c.tag = tag then { c with foam := some last } else c

/-- An accepted WITHDRAW-FEED takes the tag from the queue and closes its record as WITHDRAWN (R118).  An
accepted ABORT-CHAMBER gives the record its foam and CHAMBER_ABORTED and moves it on, closes the nitrogen,
and empties the chamber, which then tests for permission (R131). -/
def Obligations.WithdrawalAndAbortFreeTheUnit : Prop :=
  ∀ s : State, s.takesCommand →
    (∀ tag r, tag ≠ 0 → s.findInRegister tag = some r → r.place = some .queued →
      exec (.withdrawFeed tag) s =
        .next ((({ s with chamber :=
          { s.chamber with feed := s.chamber.feed.filter (· ≠ tag) } } : State).closeUnit tag
            .withdrawn).send [okLine .withdrawFeed (field "tag" (numText tag))]).afterEvent) ∧
    (s.control.line ≠ .halted → s.chamber.phase = .faulted →
      (∀ g, s.chamber.readings = some g → g.running = false) →
      ∃ (leave : State → State),
        (∀ x, x.chamber.nitrogenOpen = true → leave x =
          ((x.issue .chamberSequencer .chamber (.nitrogen false)).onChamber fun c =>
            { c with
              nitrogenOpen := false, phase := .idle, nextPhase := none, unit := none
              faultedPhase := none, foamStart := none, emptyNoted := false }).testChamber) ∧
        (∀ x, x.chamber.nitrogenOpen = false → leave x =
          (x.onChamber fun c =>
            { c with
              phase := .idle, nextPhase := none, unit := none
              faultedPhase := none, foamStart := none, emptyNoted := false }).testChamber) ∧
        (s.chamber.unit = none → exec .abortChamber s =
          .next ((leave s).send [okLine .abortChamber []]).afterEvent) ∧
        ∀ tag r, s.chamber.unit = some tag → s.findUnit tag = some r →
          ∃ u : State,
            u = s.onUnit tag (fun r =>
              { r with
                foam := some (r.windows.map fun w => w.foam.getD 0).sum
                disposition := some .chamberAborted }) ∧
            ((∃ w ∈ r.windows, w.share = none) → exec .abortChamber s =
              .next ((leave (u.onUnit tag fun r => { r with place := some .attribution })).send
                [okLine .abortChamber (field "tag" (numText tag))]).afterEvent) ∧
            ((∀ w ∈ r.windows, w.share ≠ none) → exec .abortChamber s =
              .next ((leave (u.closeUnit tag .chamberAborted)).send
                [okLine .abortChamber (field "tag" (numText tag))]).afterEvent))

/-! ## The condenser -/

/-- A condenser answer writes both temperatures, acts on bank A and then on bank B, and takes the inlet
delta and the drain delta last (R137; bank A before bank B and, in a bank, refrigeration FAILED before the
temperature test, no such test in an answer whose failure has changed the bank's state, and the temperature
before the drain valve are log 24, DEDUCED).  A COOLING bank at or below -95 is COLD (R138); a DEFROST that is
not paused ends at or above +5, and the drain begins (R143); a valve shown closed confirms the close that
is awaited (R147).
The inlet delta is load of the CONDENSING bank, with R141's tests, and is discarded without one
(R137).  The drain delta goes to the holder of the drain slot and its vessel, ends an opening that has seen
a nonzero one when it is 0, and with no holder raises UNATTRIBUTED_DRAIN above 0 (R145, R103).  The hard
load before the swap, and the drained total before the vessel's booking, are log 42 (DESIGN CHOICE).
A bank fault by the bank's state (R150, R143), and what brings one: refrigeration FAILED in an answer
(R137), a failed order of the bank's, but for a drain close, which R147 governs, and for a drain open, which
also ends the opening, and the condenser node's silence.  The order within the fault of a CONDENSING bank,
and bank A before bank B at the silence, are log 25 (DEDUCED).  That a drain close that
fails when it is no longer awaited has no effect, and that a failed open ends the opening, are log 40
(DEDUCED). -/
def Obligations.CondenserAnswerIsTakenInOrder : Prop :=
  ((∀ (s : State) (a : CondenserAnswer), s.resetPin = false → (s.node .condenser).silent = false →
     a.reports = [] →
     ∃ u v : State,
       u = (s.advanceTo a.moment).setNode .condenser
         { misses := 0, silent := false, previousTaken := true } ∧
       v = { u with condenser := { u.condenser with
         bankA := { u.condenser.bankA with temperature := some a.bankA.temperature }
         bankB := { u.condenser.bankB with temperature := some a.bankB.temperature } } } ∧
       exec (.condenserAnswer a) s =
         .next ((((v.takeBank .a a.bankA).takeBank .b a.bankB).takeInlet a.inlet).takeDrain
           a.drain).afterEvent) ∧
   ∀ (s : State) (bk : BankId) (r : BankReading), r.refrigeration ≠ .failed →
     ∃ u : State,
       ((s.bank bk).state = .cooling → r.temperature ≤ -95 → u = ((s.onBank bk fun x =>
         { x with state := .cold, coolDeadline := none }).tryCondense bk).swapTest) ∧
       ((s.bank bk).state = .defrost → (s.bank bk).paused = false → 5 ≤ r.temperature →
         u = ((s.issue .condenser .condenser (.heaterOff bk)).onBank bk fun x =>
           { x with defrostDeadline := none }).testDrain bk) ∧
       (¬ ((s.bank bk).state = .cooling ∧ r.temperature ≤ -95) →
         ¬ ((s.bank bk).state = .defrost ∧ (s.bank bk).paused = false ∧ 5 ≤ r.temperature) →
         u = s) ∧
       s.takeBank bk r =
         if (u.bank bk).drainValve = .closing ∧ r.drainOpen = false then u.confirmClose bk else u) ∧
  (∀ (s : State) (d : Grams),
     (s.condensing = none → s.takeInlet d = s) ∧
     (∀ bk, s.condensing = some bk → ∃ x u : _,
       x = { s.bank bk with
         load := (s.bank bk).load + d
         swapPending := (s.bank bk).swapPending ||
           decide (s.control.settings.bankSwapLoad ≤ (s.bank bk).load + d) } ∧
       u = s.setBank bk x ∧
       (x.swapPending = true ∧ x.hardRaised = false ∧ s.control.settings.bankHardLoad ≤ x.load →
         s.takeInlet d = ((s.setBank bk { x with hardRaised := true }).raise .bankLoadHard (.bank bk)
           { first := x.load, second := none }).swapTest) ∧
       (¬ (x.swapPending = true ∧ x.hardRaised = false ∧ s.control.settings.bankHardLoad ≤ x.load) →
         s.takeInlet d = u.swapTest)) ∧
     (s.drainHolder = none → s.takeDrain 0 = s) ∧
     (s.drainHolder = none → d ≠ 0 →
       (∀ bk, s.condenser.lastDrainBank = some bk → s.takeDrain d =
         s.raise .unattributedDrain (.bank bk) { first := d, second := none }) ∧
       (s.condenser.lastDrainBank = none → s.takeDrain d =
         s.raise .unattributedDrain (.node .condenser) { first := d, second := none })) ∧
     ∀ bk k, s.drainHolder = some bk → (s.bank bk).drainSlot = some k →
       (d ≠ 0 → s.takeDrain d = (s.setBank bk { s.bank bk with
         drained := (s.bank bk).drained + d
         seenNonzero := (s.bank bk).seenNonzero ||
           decide ((s.bank bk).state = .drain ∧ (s.bank bk).drainEnded = false) }).bookVessel k d) ∧
       ((s.bank bk).state = .drain → (s.bank bk).drainEnded = false → (s.bank bk).paused = false →
         ((s.bank bk).drainValve = .opening ∨ (s.bank bk).drainValve = .opened) →
         (s.bank bk).seenNonzero = true → s.takeDrain 0 =
           (s.issue .condenser .condenser (.bankDrainClose bk)).setBank bk { s.bank bk with
             drainEnded := true, drainDeadline := none, drainValve := .closing
             drainOrder := some s.orderNumber }) ∧
       ((s.bank bk).seenNonzero = false → s.takeDrain 0 = s)) ∧
  (∀ (s : State) (bk : BankId),
    ((s.bank bk).state = .condensing → ∃ v : State,
      v = (((s.raise .bankFault (.bank bk) { first := (s.bank bk).load, second := none }).issue
        .condenser .condenser (.inletValve bk false)).issue .condenser .condenser
          (.refrigerationStop bk)).setBank bk { s.bank bk with
            state := .defrost, faultAfterDrain := true, swapPending := false, drained := 0
            drainEnded := false, overrunRaised := false
            defrostDeadline := some (s.now + s.control.settings.defrostMax * 1000)
            defrostRemaining := if s.control.line = .halted then
              some (s.control.settings.defrostMax * 1000) else none
            paused := decide (s.control.line = .halted) } ∧
      (s.control.line = .halted →
        s.faultBank bk = v.bankLost.tryCondense (otherBank bk)) ∧
      (s.control.line ≠ .halted → s.faultBank bk =
        (v.issue .condenser .condenser (.heaterOn bk)).bankLost.tryCondense (otherBank bk))) ∧
    ((s.bank bk).state = .cooling ∨ (s.bank bk).state = .cold → s.faultBank bk =
      ((s.raise .bankFault (.bank bk) { first := (s.bank bk).load, second := none }).issue .condenser
        .condenser (.refrigerationStop bk)).setBank bk
          { s.bank bk with state := .faulted, coolDeadline := none }) ∧
    ((s.bank bk).state = .defrost ∨ (s.bank bk).state = .drainWait ∨ (s.bank bk).state = .drain →
      s.faultBank bk =
        (s.raise .bankFault (.bank bk) { first := (s.bank bk).drained, second := none }).setBank bk
          { s.bank bk with faultAfterDrain := true }) ∧
    ((s.bank bk).state = .warm →
      s.faultBank bk = s.raise .bankFault (.bank bk) { first := 0, second := none }) ∧
    ((s.bank bk).state = .faulted → s.faultBank bk = s)) ∧
  (∀ (s : State) (bk : BankId) (r : BankReading), r.refrigeration = .failed → ∃ u : State,
    u = s.faultBank bk ∧
    ((u.bank bk).state ≠ (s.bank bk).state → s.takeBank bk r =
      if (u.bank bk).drainValve = .closing ∧ r.drainOpen = false then u.confirmClose bk else u) ∧
    ((u.bank bk).state = (s.bank bk).state → ∀ g : BankReading, g.refrigeration ≠ .failed →
      g.temperature = r.temperature → g.drainOpen = r.drainOpen →
      s.takeBank bk r = u.takeBank bk g)) ∧
  (∀ (s : State) (o : Order) (bk : BankId), o.node = .condenser →
    (o.kind = .bankDrainClose bk →
      ((s.bank bk).drainValve = .closing → (s.bank bk).drainOrder = some o.number →
        s.orderFails o = (s.raise .bankFault (.bank bk)
          { first := (s.bank bk).drained, second := none }).setBank bk
            { s.bank bk with faultAfterDrain := true }) ∧
      ((s.bank bk).drainValve ≠ .closing ∨ (s.bank bk).drainOrder ≠ some o.number →
        s.orderFails o = s)) ∧
    (∀ k, o.kind = .bankDrainOpen bk k →
      ((s.bank bk).state = .drain → (s.bank bk).drainEnded = false → (s.bank bk).paused = false →
        ((s.bank bk).drainValve = .opening ∨ (s.bank bk).drainValve = .opened) → ∃ u : State,
        u = s.faultBank bk ∧ s.orderFails o =
          (u.issue .condenser .condenser (.bankDrainClose bk)).onBank bk fun x =>
            { x with
              drainEnded := true, drainDeadline := none, drainValve := .closing
              drainOrder := some u.orderNumber }) ∧
      ((s.bank bk).state ≠ .drain ∨ (s.bank bk).drainEnded = true ∨ (s.bank bk).paused = true ∨
        (s.bank bk).drainValve = .closed ∨ (s.bank bk).drainValve = .closing →
        s.orderFails o = s.faultBank bk)) ∧
    ((o.kind = .refrigerationStart bk ∨ o.kind = .refrigerationStop bk ∨ o.kind = .heaterOn bk ∨
        o.kind = .heaterOff bk ∨ ∃ open', o.kind = .inletValve bk open') →
      s.orderFails o = s.faultBank bk)) ∧
  ∀ s : State, s.condenserSilent = (s.faultBank .a).faultBank .b

/-- The four expiries of a bank: the cool deadline faults it (R138), the condensing time at bank-max-time
sets swap pending (R141), the defrost deadline raises DEFROST_OVERRUN once (R143), and the drain deadline
ends the opening (R145). -/
def Obligations.BankExpiriesAct : Prop :=
  ∀ (s : State) (bk : BankId), s.resetPin = false →
    (∀ d t, (s.bank bk).state = .cooling → (s.bank bk).coolDeadline = some d →
      (s.bank bk).temperature = some t → exec (.bankCoolTimeout bk) s =
        .next ((((s.advanceTo d).raise .bankCoolTimeout (.bank bk)
          { first := t, second := none }).issue .condenser .condenser (.refrigerationStop bk)).onBank bk
            fun x => { x with state := .faulted, coolDeadline := none }).afterEvent) ∧
    ((s.bank bk).state = .condensing → exec (.bankMaxTime bk) s =
      .next (((s.advance (s.control.settings.bankMaxTime * 1000 -
        (s.bank bk).condensingTime)).onBank bk fun x =>
          { x with swapPending := true }).swapTest).afterEvent) ∧
    (∀ d t, (s.bank bk).state = .defrost → (s.bank bk).paused = false →
      (s.bank bk).overrunRaised = false → (s.bank bk).defrostDeadline = some d →
      (s.bank bk).temperature = some t → exec (.defrostOverrun bk) s =
        .next (((s.advanceTo d).onBank bk fun x => { x with overrunRaised := true }).raise
          .defrostOverrun (.bank bk) { first := t, second := none }).afterEvent) ∧
    ∀ d, (s.bank bk).state = .drain → (s.bank bk).drainEnded = false → (s.bank bk).paused = false →
      ((s.bank bk).drainValve = .opening ∨ (s.bank bk).drainValve = .opened) →
      (s.bank bk).drainDeadline = some d →
      ∃ u : State, u = s.advanceTo d ∧ exec (.drainDeadline bk) s =
        .next ((u.issue .condenser .condenser (.bankDrainClose bk)).onBank bk fun x =>
          { x with
            drainEnded := true, drainDeadline := none, drainValve := .closing
            drainOrder := some u.orderNumber }).afterEvent

/-- The swap test (R142): a swap that is due moves the CONDENSING bank to DEFROST with its heater on
(R143), and the other, COLD, bank to CONDENSING with its inlet open (R139); one that is not due changes
nothing.
An accepted BANK-SERVICE brings a FAULTED bank to WARM, and on to COOLING once started is set and the
line is not HALTED (R151, R138).  An accepted SWAP-BANKS sets swap pending and makes the hard-load and the
swap test; its reply says whether the swap was made (R152).
The chamber at the banks' changes: a COLD bank enters CONDENSING while no bank is CONDENSING and the
line is not HALTED (R139), upon which a SUSPENDED chamber returns to its phase (R129) and any other tests for
permission (R121); the loss of the condensing bank writes the foam so far, and suspends a shred in
progress, or faults it with 2 windows (R128).  That a chamber SUSPENDED already stays so with the return
phase it has, and that re-purge becomes no in SUSPENDED, is log 25 (DEDUCED). -/
def Obligations.BanksSwapAndAreServed : Prop :=
  (∀ (s : State) (bk : BankId) (due : Prop), s.condensing = some bk →
     (due ↔ (s.bank bk).swapPending = true ∧ (s.bank (otherBank bk)).state = .cold ∧
       s.chamber.shredInProgress = false ∧ s.control.line ≠ .halted) →
     (¬ due → s.swapTest = s) ∧
     (due → ∃ u v : State,
       u = (((s.issue .condenser .condenser (.inletValve bk false)).issue .condenser .condenser
         (.refrigerationStop bk)).setBank bk
           { s.bank bk with
             state := .defrost, swapPending := false, drained := 0, drainEnded := false
             overrunRaised := false
             defrostDeadline := some (s.now + s.control.settings.defrostMax * 1000)
             defrostRemaining := none, paused := false }).issue .condenser .condenser (.heaterOn bk) ∧
       v = (u.issue .condenser .condenser (.inletValve (otherBank bk) true)).setBank (otherBank bk)
         { s.bank (otherBank bk) with
           state := .condensing, load := 0, condensingTime := 0, swapPending := false
           hardRaised := false, window := [] } ∧
       s.swapTest = v.bankCondenses)) ∧
  (∀ (s : State) (bk : BankId), s.takesCommand →
     ((s.bank bk).state = .faulted → (s.bank bk).drainSlot = none →
       (s.node .condenser).silent = false →
       (s.condenser.started = true → s.control.line ≠ .halted → exec (.bankService bk) s =
         .next (((s.issue .condenser .condenser (.refrigerationStart bk)).setBank bk { s.bank bk with
           state := .cooling, faultAfterDrain := false
           coolDeadline := some (s.now + 1800000) }).send
             [okLine .bankService (field "bank" (ascii (bankWord bk)) ++
               field "state" (ascii "COOLING"))]).afterEvent) ∧
       (s.condenser.started = false ∨ s.control.line = .halted → exec (.bankService bk) s =
         .next ((s.setBank bk { s.bank bk with state := .warm, faultAfterDrain := false }).send
           [okLine .bankService (field "bank" (ascii (bankWord bk)) ++
             field "state" (ascii "WARM"))]).afterEvent)) ∧
     (s.condensing = some bk → ∃ u v w : State,
       u = s.setBank bk { s.bank bk with swapPending := true } ∧
       ((s.bank bk).hardRaised = false → s.control.settings.bankHardLoad ≤ (s.bank bk).load →
         v = (s.setBank bk { s.bank bk with swapPending := true, hardRaised := true }).raise .bankLoadHard
           (.bank bk) { first := (s.bank bk).load, second := none }) ∧
       ((s.bank bk).hardRaised = true ∨ (s.bank bk).load < s.control.settings.bankHardLoad → v = u) ∧
       w = v.swapTest ∧
       exec .swapBanks s = .next (w.send [okLine .swapBanks (field "bank" (ascii (bankWord bk)) ++
         field "swapped" (if (w.bank bk).state = .condensing then ascii "no" else ascii "yes"))]).afterEvent)) ∧
  (∀ (s : State) (bk : BankId),
    ((s.bank bk).state = .cold → s.condensing = none → s.control.line ≠ .halted →
      s.tryCondense bk =
        ((s.issue .condenser .condenser (.inletValve bk true)).setBank bk { s.bank bk with
          state := .condensing, load := 0, condensingTime := 0, swapPending := false
          hardRaised := false, window := [] }).bankCondenses) ∧
    ((s.bank bk).state ≠ .cold ∨ s.condensing ≠ none ∨ s.control.line = .halted →
      s.tryCondense bk = s)) ∧
  (∀ s : State,
    (s.chamber.phase ≠ .suspended → s.bankCondenses = s.testChamber) ∧
    (s.chamber.phase = .suspended → s.control.line = .halted → s.bankCondenses = s) ∧
    ∀ tag r bk back, s.chamber.phase = .suspended → s.control.line ≠ .halted →
      s.chamber.unit = some tag → s.findUnit tag = some r → s.condensing = some bk →
      s.chamber.returnPhase = some back →
      ∃ u v : State,
        u = (((s.onBank bk fun x =>
          { x with
            window := x.window ++ [{ tag := tag, foam := none }]
            swapPending := x.swapPending || decide (8 ≤ x.window.length + 1) }).onUnit tag fun r =>
              { r with windows := r.windows ++ [{ bank := bk, foam := none, share := none }] })) ∧
        v = (u.onChamber fun c =>
          { c with returnPhase := none, phase := back, nextPhase := none }).watchEntry 9 (some tag)
            (chamberPhaseName back) ∧
        (back = .shred → s.chamber.emptyNoted = false →
          s.bankCondenses = v.issue .chamberSequencer .chamber .shredderStart) ∧
        (back = .shred → s.chamber.emptyNoted = true → s.bankCondenses = v.endShred) ∧
        (back = .clear → s.bankCondenses =
          ((v.onChamber fun c => { c with clearEnd := some (s.now + 60000) }).onUnit tag fun r =>
            { r with windows := r.windows.dropLast ++
              (r.windows.getLast?.map fun e => { e with foam := some 0 }).toList }).onBank bk fun x =>
                { x with window := x.window.map fun c =>
                  if c.tag = tag then { c with foam := some 0 } else c }) ∧
        ∀ w, back = .purge →
          w = v.onChamber (fun c =>
            { c with
              repurge := true, purgeEnd := some (s.now + s.control.settings.purgeMax * 1000) }) →
          (s.chamber.nitrogenOpen = true → s.bankCondenses = w) ∧
          (s.chamber.nitrogenOpen = false → s.bankCondenses =
            (w.issue .chamberSequencer .chamber (.nitrogen true)).onChamber fun c =>
              { c with nitrogenOpen := true })) ∧
  ∀ (s : State) (shredding : Prop),
    (shredding ↔ s.chamber.nextPhase = none ∧ (s.chamber.phase = .shred ∨ s.chamber.phase = .clear ∨
      (s.chamber.phase = .purge ∧ s.chamber.repurge = true) ∨
      (s.chamber.phase = .suspended ∧ s.chamber.returnPhase ≠ none))) →
    (¬ shredding → s.bankLost = s) ∧
    ∀ tag r ws w, shredding → s.chamber.unit = some tag → s.findUnit tag = some r →
      r.windows = ws ++ [w] → ∃ u : State,
        (w.foam ≠ none → u = s) ∧
        (∀ g start last, w.foam = none → s.chamber.readings = some g →
          s.chamber.foamStart = some start →
          last = g.foam - start - (ws.map fun e => e.foam.getD 0).sum →
          u = (s.onUnit tag fun r =>
            { r with windows := r.windows.dropLast ++
              (r.windows.getLast?.map fun e => { e with foam := some last }).toList }).onBank w.bank
                fun x => { x with window := x.window.map fun c =>
                  if c.tag = tag then { c with foam := some last } else c }) ∧
        (2 ≤ r.windows.length → s.bankLost = u.faultChamber) ∧
        (ws = [] → s.chamber.phase = .suspended → s.bankLost = u) ∧
        ∀ x, ws = [] → s.chamber.phase ≠ .suspended →
          x = (u.onChamber fun c =>
            { c with
              returnPhase := some s.chamber.phase, phase := .suspended
              nextPhase := none }).watchEntry 9 (some tag) .suspended →
          (s.chamber.phase = .shred ∧ s.chamber.emptyNoted = false → s.bankLost =
            (x.issue .chamberSequencer .chamber .shredderStop).onChamber fun c =>
              { c with repurge := false, purgeEnd := none, clearEnd := none }) ∧
          (s.chamber.phase ≠ .shred ∨ s.chamber.emptyNoted = true → s.bankLost =
            x.onChamber fun c =>
              { c with repurge := false, purgeEnd := none, clearEnd := none })

/-- A bank's drain begins as R144 tests: DRAIN_WAIT while the other bank holds a slot, DRAIN_WAIT and
AGENT_VESSEL_NONE without an AGENT vessel, else DRAIN with BANK_DRAIN ordered open and its deadline.  A
bank already in DRAIN_WAIT keeps its wait since (the model's choice, log 26).
A bank's drain orders in an answer: BANK_DRAIN open reported DONE makes an OPENING valve OPEN (R144;
whichever open it is, log 40), the awaited close reported DONE confirms it (R147), and any other report
only ends its order; the answer's readings come after (R137).
A close confirmed in DRAIN_WAIT: the bank gives up a drain slot that it holds, and each waiting bank tests
R144 (R147).
The confirmed close of a drain that has met its end (R147): the bank gives up its slot, its window and
its load, and goes to FAULTED, to COOLING or to WARM.  Each record in the chamber whose last window waits
for this drain takes its share, its agent and ESTIMATED (R148, R149).  A close confirmed in another state
only closes the valve, but for DRAIN_WAIT.
The apportionment writes the shares in window order (R148); a record in ATTRIBUTION that is left fully
attributed closes; an empty window writes none, and raises UNATTRIBUTED_DRAIN above 0 g (R149).  A drain
that has met its end moves on once its close is confirmed (R147). -/
def Obligations.DrainsBeginAndEndAsTested : Prop :=
  (∀ (s : State) (bk : BankId), ∃ wait : State,
     wait = s.setBank bk { s.bank bk with
       state := .drainWait, drainDeadline := none
       waitSince := some ((s.bank bk).waitSince.getD s.now) } ∧
     ((s.bank (otherBank bk)).drainSlot ≠ none → s.testDrain bk = wait) ∧
     ((s.bank (otherBank bk)).drainSlot = none → s.chooseVessel .agent = none →
       s.testDrain bk = wait.raise .agentVesselNone (.bank bk)
         { first := (s.bank bk).drained, second := none }) ∧
     ∀ k, (s.bank (otherBank bk)).drainSlot = none → s.chooseVessel .agent = some k →
       s.testDrain bk = (s.issue .condenser .condenser (.bankDrainOpen bk k)).setBank bk
         { s.bank bk with
           state := .drain, drainSlot := some k, drainValve := .opening
           drainDeadline := some (s.now + 120000), seenNonzero := false, waitSince := none
           drainOrder := none }) ∧
  ((∀ (s : State) (a : CondenserAnswer) (o : Order), s.resetPin = false →
     (s.node .condenser).silent = false → a.reports = [{ number := o.number, status := .done }] →
     s.findOrder .condenser o.number = some o → ∃ u v w : State,
       u = ((s.advanceTo a.moment).setNode .condenser
         { misses := 0, silent := false, previousTaken := true }).setOrders
           (s.loop.orders.filter fun p =>
             decide (¬ (p.node = .condenser ∧ p.number = o.number))) ∧
       (∀ bk k, o.kind = .bankDrainOpen bk k →
         ((s.bank bk).drainValve = .opening →
           v = u.onBank bk fun x => { x with drainValve := .opened }) ∧
         ((s.bank bk).drainValve ≠ .opening → v = u)) ∧
       (∀ bk, o.kind = .bankDrainClose bk →
         ((s.bank bk).drainValve = .closing → (s.bank bk).drainOrder = some o.number →
           v = u.confirmClose bk) ∧
         ((s.bank bk).drainValve ≠ .closing ∨ (s.bank bk).drainOrder ≠ some o.number → v = u)) ∧
       ((∀ bk k, o.kind ≠ .bankDrainOpen bk k) → (∀ bk, o.kind ≠ .bankDrainClose bk) → v = u) ∧
       w = { v with condenser := { v.condenser with
         bankA := { v.condenser.bankA with temperature := some a.bankA.temperature }
         bankB := { v.condenser.bankB with temperature := some a.bankB.temperature } } } ∧
       exec (.condenserAnswer a) s =
         .next ((((w.takeBank .a a.bankA).takeBank .b a.bankB).takeInlet a.inlet).takeDrain
           a.drain).afterEvent) ∧
   ∀ (s : State) (bk : BankId), (s.bank bk).state = .drainWait → ∃ u : State,
     ((s.bank bk).drainSlot = none → u = s.setBank bk { s.bank bk with
       drainValve := .closed, drainOrder := none }) ∧
     ((s.bank bk).drainSlot ≠ none → u = ({ s with condenser := { s.condenser with
       lastDrainBank := some bk } } : State).setBank bk { s.bank bk with
         drainValve := .closed, drainOrder := none, drainSlot := none }) ∧
     s.confirmClose bk = u.testWaiting) ∧
  (∀ (s t : State) (bk : BankId), t = s.confirmClose bk →
     ((s.bank bk).state ≠ .drainWait →
       ((s.bank bk).state ≠ .drain ∨ (s.bank bk).drainEnded = false) →
       t = s.setBank bk { s.bank bk with drainValve := .closed, drainOrder := none }) ∧
     ((s.bank bk).state = .drain → (s.bank bk).drainEnded = true →
       ((t.bank bk).window = [] ∧ (t.bank bk).load = 0 ∧ (t.bank bk).drainEnded = false ∧
         (t.bank bk).drainSlot = none ∧ (t.bank bk).drainValve = .closed ∧
         (t.bank bk).drained = (s.bank bk).drained ∧ t.chamber = s.chamber ∧ t.slots = s.slots) ∧
       ((s.bank bk).faultAfterDrain = true → (t.bank bk).state = .faulted) ∧
       ((s.bank bk).faultAfterDrain = false →
         (s.condenser.started = true → s.control.line ≠ .halted →
           (t.bank bk).state = .cooling ∧ (t.bank bk).coolDeadline = some (s.now + 1800000)) ∧
         (s.condenser.started = false ∨ s.control.line = .halted → (t.bank bk).state = .warm)) ∧
       ∀ w g r ws e, (w, g) ∈ (s.bank bk).window.zip (shares (s.bank bk).drained (s.bank bk).window) →
         ((s.bank bk).window.map (·.tag)).Nodup → s.findUnit w.tag = some r →
         r.place = some .chamber → r.windows = ws ++ [e] → (∀ x ∈ ws, x.share ≠ none) →
         e.bank = bk → e.share = none →
         t.findUnit w.tag = some { r with
           windows := ws ++ [{ e with share := some g }]
           agent := r.agent + g
           flags := { r.flags with
             estimated := r.flags.estimated || w.foam.isNone ||
               decide (2 ≤ r.windows.length ∨ ∀ c ∈ (s.bank bk).window, c.foam.getD 0 = 0) } })) ∧
  (∀ (s : State) (bk : BankId),
    ((s.bank bk).window = [] → (s.bank bk).drained = 0 → s.apportion bk = s) ∧
    ((s.bank bk).window = [] → (s.bank bk).drained ≠ 0 → s.apportion bk =
      s.raise .unattributedDrain (.bank bk) { first := (s.bank bk).drained, second := none }) ∧
    ((s.bank bk).window ≠ [] → ∃ none' : Bool,
      (none' = true ↔ ∀ c ∈ (s.bank bk).window, c.foam.getD 0 = 0) ∧
      s.apportion bk =
        ((s.bank bk).window.zip (shares (s.bank bk).drained (s.bank bk).window)).foldl
          (State.writeShare bk none') s)) ∧
  (∀ (s : State) (bk : BankId) (none' : Bool) (w : Cabinet) (g : Grams),
    (s.findUnit w.tag = none → s.writeShare bk none' (w, g) = s) ∧
    ∀ r ws e ys, s.findUnit w.tag = some r → (s.register.units.map (·.tag)).Nodup →
      r.windows = ws ++ e :: ys → (∀ x ∈ ws, x.bank ≠ bk ∨ x.share ≠ none) → e.bank = bk →
      e.share = none →
      ∃ (r' : UnitRecord) (u : State),
        r' = { r with
          windows := ws ++ { e with share := some g } :: ys
          agent := r.agent + g
          flags := { r.flags with
            estimated := r.flags.estimated || (none' || w.foam.isNone ||
              decide (2 ≤ r.windows.length)) } } ∧
        u = { s with register := { s.register with units := s.register.units.map fun x =>
          if x.tag = w.tag then r' else x } } ∧
        (r.place = some .attribution → (∀ x ∈ ws ++ ys, x.share ≠ none) →
          s.writeShare bk none' (w, g) = u.closeUnit w.tag .complete) ∧
        (r.place ≠ some .attribution ∨ (∃ x ∈ ws ++ ys, x.share = none) →
          s.writeShare bk none' (w, g) = u)) ∧
  ∀ (s : State) (bk : BankId), (s.bank bk).state = .drain → (s.bank bk).drainEnded = true →
    ∃ u v w : State,
      ((s.bank bk).drainSlot = none → u = s.setBank bk { s.bank bk with
        drainValve := .closed, drainOrder := none }) ∧
      ((s.bank bk).drainSlot ≠ none → u = ({ s with condenser := { s.condenser with
        lastDrainBank := some bk } } : State).setBank bk { s.bank bk with
          drainValve := .closed, drainOrder := none, drainSlot := none }) ∧
      v = (u.apportion bk).onBank bk (fun x =>
        { x with window := [], load := 0, drainEnded := false }) ∧
      ((s.bank bk).faultAfterDrain = true →
        w = v.onBank bk fun x => { x with state := .faulted }) ∧
      ((s.bank bk).faultAfterDrain = false →
        (s.condenser.started = true → s.control.line ≠ .halted →
          w = (v.issue .condenser .condenser (.refrigerationStart bk)).onBank bk fun x =>
            { x with state := .cooling, coolDeadline := some (s.now + 1800000) }) ∧
        (s.condenser.started = false ∨ s.control.line = .halted →
          w = v.onBank bk fun x => { x with state := .warm })) ∧
      s.confirmClose bk = w.testWaiting

/-- The shares of a drain of `d` grams over a window that is not empty sum to `d`; each is the floor of
its part by foam, or of the equal part where all foam is 0, and the remainder goes to the earliest entry
with the largest foam (R148, R149). -/
def Obligations.SharesDivideTheDrain : Prop :=
  ∀ (d : Grams) (ws : List Cabinet) (foam : Nat → Nat) (total : Nat) (floor : Nat → Nat),
    (∀ i w, ws[i]? = some w → foam i = w.foam.getD 0) →
    total = ((List.range ws.length).map foam).sum →
    (∀ i, floor i = if total = 0 then d / ws.length else d * foam i / total) →
    ws ≠ [] →
    (shares d ws).length = ws.length ∧ (shares d ws).sum = d ∧
    ∀ i < ws.length,
      ((∀ j < i, foam j < foam i) ∧ (∀ j < ws.length, foam j ≤ foam i) →
        (shares d ws)[i]? = some
          (floor i + (d - ((List.range ws.length).map floor).sum))) ∧
      (¬ ((∀ j < i, foam j < foam i) ∧ ∀ j < ws.length, foam j ≤ foam i) →
        (shares d ws)[i]? = some (floor i))

/-! ## Conditions, the halt and the line -/

/-- Every kind has the class of R158's table.
A raised condition is merged, appended, dropped under the overflow mark, or entered by an eviction
(R161, R162); an exigent one is handed to Line Control, which halts the line (R163). -/
def Obligations.ConditionsAreEnteredAsListed : Prop :=
  (∀ kind : ConditionKind, kindClass kind =
     match kind with
     | .lelHigh | .chamberO2High | .manifoldOverpressure | .vesselOverfill | .safetySilent
     | .emergencyStop => .exigent
     | .vesselFull | .vesselNone | .agentVesselNone | .allocExhausted => .supply
     | .classDisagree | .classUnknown | .riseFailed | .evacOvertime | .orderTimeout | .orderFailed
     | .nodeSilent | .lelWarn | .chamberO2Pause | .purgeTimeout | .analyserFault | .trainFault =>
       .process
     | .bankCoolTimeout | .bankLoadHard | .defrostOverrun | .bankFault => .condenser
     | .vesselDiscrepancy | .closedLogFull | .unattributedDrain => .accounting
     | .watchHit | .stepDone | .linkOverrun => .operator) ∧
  ∀ (s : State) (kind : ConditionKind) (origin : Origin) (d : Detail) (es : List ConditionEntry)
    (fresh : ConditionEntry) (taken : List ConditionEntry → Bool → State),
    es = s.monitor.entries → fresh = { kind := kind, origin := origin, detail := d, count := 1 } →
    (∀ xs lost, taken xs lost =
      if kindClass kind = .exigent then
        ({ s with monitor := { s.monitor with entries := xs, overflow := lost } } : State).halt
      else { s with monitor := { s.monitor with entries := xs, overflow := lost } }) →
    (∀ xs e ys, es = xs ++ e :: ys → e.kind = kind → e.origin = origin → e.count ≤ 255 →
      (∀ x ∈ xs ++ ys, ¬ (x.kind = kind ∧ x.origin = origin)) →
      s.raise kind origin d =
        taken (xs ++ { e with detail := d, count := min 255 (e.count + 1) } :: ys)
          s.monitor.overflow) ∧
    ((∀ x ∈ es, ¬ (x.kind = kind ∧ x.origin = origin)) →
      (es.length < 32 → s.raise kind origin d = taken (es ++ [fresh]) s.monitor.overflow) ∧
      (32 ≤ es.length → kindClass kind ≠ .exigent → s.raise kind origin d = taken es true) ∧
      (32 ≤ es.length → kindClass kind = .exigent →
        (∀ xs e ys, es = xs ++ e :: ys → classEnabled s.monitor.masks (kindClass e.kind) = false →
          (∀ x ∈ xs, classEnabled s.monitor.masks (kindClass x.kind) = true) →
          s.raise kind origin d = taken (xs ++ ys ++ [fresh]) true) ∧
        (∀ xs e ys, es = xs ++ e :: ys →
          (∀ x ∈ es, classEnabled s.monitor.masks (kindClass x.kind) = true) →
          kindClass e.kind ≠ .exigent → (∀ x ∈ xs, kindClass x.kind = .exigent) →
          s.raise kind origin d = taken (xs ++ ys ++ [fresh]) true)))

/-- The halt (R174): Line Control enters HALTED with the HALT pin asserted and no credit, and each block
takes its halt action (R39, R40, R76, R94, R133, R154).  No order is issued but those of the halt actions, and
they stand behind the orders that were outstanding; what no halt action names is unchanged.  A line already
HALTED takes nothing again. -/
def Obligations.HaltFreezesTheBlocks : Prop :=
  ∀ s t : State, t = s.halt →
    (s.control.line = .halted → t = s) ∧
    (s.control.line ≠ .halted → ∃ new : List Order,
      t.loop = { s.loop with
        orders := s.loop.orders ++ new, nextNumber := t.loop.nextNumber } ∧
      (∀ o ∈ new, o.acknowledged = false ∧
        ((∃ i, (s.station i).phase ≠ .empty ∧ o.node = .station i ∧
            o.kind ∈ [OrderKind.evacValve false, .sampleValve false, .drainValve false]) ∨
          (∃ c, s.classifier.cycle = some c ∧ c.stage ≠ .closing ∧ o.node = .station c.station ∧
            o.kind = .sampleValve false) ∨
          (∃ k, (s.node (.train k)).silent = false ∧ o.node = .train k ∧
            o.kind ∈ [OrderKind.compressorStop, .purgeValve false, .outletClose]) ∨
          (o.node = .chamber ∧ o.kind ∈ [OrderKind.shredderStop, .doorLock, .nitrogen true]) ∨
          ∃ bk, o.node = .condenser ∧
            ((s.bank bk).state = .defrost ∧ o.kind = .heaterOff bk ∨
              (s.bank bk).state = .drain ∧ (s.bank bk).drainEnded = false ∧
                o.kind = .bankDrainClose bk))) ∧
      t.control = { s.control with
        line := .halted, haltPin := true, credits := [], chamberCredit := false, holders := []
        chamberHolder := false } ∧
      (t.register = s.register ∧ t.arbiter = s.arbiter ∧ t.slots = s.slots ∧ t.monitor = s.monitor ∧
        t.link = s.link ∧ t.now = s.now ∧ t.classifier.table = s.classifier.table ∧
        t.classifier.queue = s.classifier.queue ∧
        t.condenser.started = s.condenser.started ∧
        t.condenser.lastDrainBank = s.condenser.lastDrainBank ∧ t.resetPin = s.resetPin ∧
        t.pending = s.pending ∧
        t.chamber = { s.chamber with nitrogenOpen := true }) ∧
      (∀ i, (s.station i).phase = .empty → t.station i = s.station i) ∧
      (∀ i, (s.station i).phase ≠ .empty → ∃ a b c,
        t.station i = { s.station i with
          evacValve := if (s.station i).evacValve = .closed then .closed else .closing
          evacOrder := if (s.station i).evacValve = .closed then (s.station i).evacOrder else some a
          unsecured := [{ valve := .evac, order := some a }, { valve := .sample, order := some b },
            { valve := .drain, order := some c }] } ∧
        ∃ o ∈ new, ∃ p ∈ new, ∃ q ∈ new,
          (o.node = .station i ∧ o.number = a ∧ o.kind = .evacValve false) ∧
          (p.node = .station i ∧ p.number = b ∧ p.kind = .sampleValve false) ∧
          q.node = .station i ∧ q.number = c ∧ q.kind = .drainValve false) ∧
      ((∀ c, s.classifier.cycle = some c → c.stage = .closing) →
        t.classifier.cycle = s.classifier.cycle) ∧
      (∀ c, s.classifier.cycle = some c → c.stage ≠ .closing → ∃ n,
        t.classifier.cycle =
          some { c with stage := .closing, abandoned := true, closeOrder := some n } ∧
        ∃ o ∈ new,
          o.node = .station c.station ∧ o.number = n ∧ o.kind = .sampleValve false) ∧
      (∀ k, (s.node (.train k)).silent = false →
        ∀ kind ∈ [OrderKind.compressorStop, .purgeValve false, .outletClose],
          ∃ o ∈ new, o.node = .train k ∧ o.kind = kind) ∧
      (∀ kind ∈ [OrderKind.shredderStop, .doorLock, .nitrogen true],
        ∃ o ∈ new, o.node = .chamber ∧ o.kind = kind) ∧
      ∀ bk,
        ((s.bank bk).state = .defrost →
          t.bank bk = { s.bank bk with
            paused := true
            defrostRemaining := (s.bank bk).defrostDeadline.map fun d => d - s.now } ∧
          ∃ o ∈ new, o.node = .condenser ∧ o.kind = .heaterOff bk) ∧
        ((s.bank bk).state = .drain → (s.bank bk).drainEnded = false → ∃ n,
          t.bank bk = { s.bank bk with
            drainValve := .closing, paused := true, drainOrder := some n } ∧
          ∃ o ∈ new, o.node = .condenser ∧ o.number = n ∧ o.kind = .bankDrainClose bk) ∧
        ((s.bank bk).state ≠ .defrost →
          ¬ ((s.bank bk).state = .drain ∧ (s.bank bk).drainEnded = false) → t.bank bk = s.bank bk))

/-- The safety node's answer raises LEL_HIGH from 20 % on, LEL_WARN from lel-warn on below that, and
EMERGENCY_STOP with the door in its detail (R159).  That the gas condition is raised before EMERGENCY_STOP
is the model's choice, log 42 (DESIGN CHOICE). -/
def Obligations.SafetyAnswerRaisesItsConditions : Prop :=
  ∀ (s : State) (a : SafetyAnswer), s.resetPin = false → ∃ u v w : State,
    u = (s.advanceTo a.moment).setNode .safety
      { misses := 0, silent := false, previousTaken := true } ∧
    (20 ≤ a.lel → v = u.raise .lelHigh (.node .safety) { first := a.lel, second := none }) ∧
    (a.lel < 20 → s.control.settings.lelWarn ≤ a.lel →
      v = u.raise .lelWarn (.node .safety) { first := a.lel, second := none }) ∧
    (a.lel < 20 → a.lel < s.control.settings.lelWarn → v = u) ∧
    (a.emergencyStop = true → w = v.raise .emergencyStop (.node .safety)
      { first := if a.doorOpen then 1 else 0, second := none }) ∧
    (a.emergencyStop = false → w = v) ∧
    exec (.safetyAnswer a) s = .next w.afterEvent

/-- REPORT returns the reportable entries, oldest first and up to 8, then masked ones in the places left;
they leave the list, and the overflow mark is read and cleared (R166).  With no reportable entry it answers
a count of 0 and changes nothing (R167). -/
def Obligations.ReportTakesItsEntries : Prop :=
  ∀ (s : State) (rs ms taken left : List ConditionEntry), s.takesCommand →
    (s.monitor.entries.map fun e => (e.kind, e.origin)).Nodup →
    rs = s.monitor.entries.filter (fun e => classEnabled s.monitor.masks (kindClass e.kind)) →
    ms = s.monitor.entries.filter (fun e => !classEnabled s.monitor.masks (kindClass e.kind)) →
    taken = rs.take 8 ++ ms.take (8 - (rs.take 8).length) →
    left = s.monitor.entries.filter (fun e => decide (e ∉ taken)) →
    (rs ≠ [] → exec .report s =
      .next (({ s with monitor := { s.monitor with entries := left, overflow := false } } : State).send
        (okLine .report (field "count" (numText taken.length) ++
            field "more" (numText (rs.length - (rs.take 8).length)) ++
            field "overflow" (yesNo s.monitor.overflow)) ::
          taken.map fun e => sealLine (ascii "COND" ++
            field "kind" (ascii (conditionWord e.kind)) ++
            field "class" (ascii (conditionClassWord (kindClass e.kind))) ++
            field "origin" (originText e.origin) ++ field "detail" (detailText e.detail) ++
            field "count" (numText e.count)))).afterEvent) ∧
    (rs = [] → exec .report s = .next (s.send [okLine .report (field "count" (ascii "0") ++
      field "overflow" (yesNo s.monitor.overflow))]).afterEvent)

/-- An accepted SET-LIMIT replaces the one setting, and the Condenser makes the tests that the setting
concerns before the reply is formed (R179, R141).  Each of the twenty settings has the name and the range of
R178's table, with the bounds that the two pairs set one another, and is a field of its own. -/
def Obligations.SetLimitReplacesOneSetting : Prop :=
  (∀ (s : State) (name : SettingName) (v : Nat), s.takesCommand → s.control.line = .stopped →
    settingLow s.control.settings name ≤ v → v ≤ settingHigh s.control.settings name →
    ∃ u w : State,
      u = s.setControl { s.control with settings := writeSetting s.control.settings name v } ∧
      (name ≠ .bankSwapLoad → name ≠ .bankMaxTime → name ≠ .bankHardLoad → w = u) ∧
      (name = .bankSwapLoad ∨ name = .bankMaxTime →
        (s.condensing = none → w = u) ∧
        ∀ bk, s.condensing = some bk → w = (u.setBank bk { s.bank bk with
          swapPending := (s.bank bk).swapPending ||
            decide (u.control.settings.bankSwapLoad ≤ (s.bank bk).load) ||
            decide (u.control.settings.bankMaxTime * 1000 ≤ (s.bank bk).condensingTime) ||
            decide (8 ≤ (s.bank bk).window.length) }).swapTest) ∧
      (name = .bankHardLoad →
        (∀ bk, s.condensing = some bk → (s.bank bk).swapPending = true →
          (s.bank bk).hardRaised = false → v ≤ (s.bank bk).load →
          w = (u.setBank bk { s.bank bk with hardRaised := true }).raise .bankLoadHard (.bank bk)
            { first := (s.bank bk).load, second := none }) ∧
        ((∀ bk, s.condensing = some bk → (s.bank bk).swapPending = false ∨
          (s.bank bk).hardRaised = true ∨ (s.bank bk).load < v) → w = u)) ∧
      exec (.setLimit name v) s = .next (w.send [okLine .setLimit
        (field "name" (ascii (settingWord name)) ++ field "value" (numText v))]).afterEvent) ∧
  (∀ (c : Settings) (name other : SettingName) (v : Nat),
    readSetting (writeSetting c name v) name = v ∧
      (other ≠ name → readSetting (writeSetting c name v) other = readSetting c other)) ∧
  ∀ (c : Settings) (name : SettingName),
    (settingWord name, readSetting c name, settingLow c name, settingHigh c name) =
      match name with
      | .pierceEmpty => ("pierce-empty", c.pierceEmpty, 50, 300)
      | .evacTarget => ("evac-target", c.evacTarget, 5, 100)
      | .evacMax => ("evac-max", c.evacMax, 300, 3600)
      | .riseHold => ("rise-hold", c.riseHold, 30, 600)
      | .riseLimit => ("rise-limit", c.riseLimit, 2, 50)
      | .evacAttempts => ("evac-attempts", c.evacAttempts, 1, 5)
      | .oilSettle => ("oil-settle", c.oilSettle, 1, 50)
      | .oilMax => ("oil-max", c.oilMax, 60, 900)
      | .purgeO2 => ("purge-o2", c.purgeO2, 10, min 60 (c.pauseO2 - 5))
      | .pauseO2 => ("pause-o2", c.pauseO2, c.purgeO2 + 5, 70)
      | .purgeMax => ("purge-max", c.purgeMax, 60, 900)
      | .lelWarn => ("lel-warn", c.lelWarn, 5, 15)
      | .bankSwapLoad => ("bank-swap-load", c.bankSwapLoad, 500, min 2000 (c.bankHardLoad - 100))
      | .bankHardLoad => ("bank-hard-load", c.bankHardLoad, c.bankSwapLoad + 100, 2500)
      | .bankMaxTime => ("bank-max-time", c.bankMaxTime, 600, 3600)
      | .defrostMax => ("defrost-max", c.defrostMax, 300, 1800)
      | .trainPurge => ("train-purge", c.trainPurge, 30, 300)
      | .holdMax => ("hold-max", c.holdMax, 5, 120)
      | .discrepancyGrams => ("discrepancy-grams", c.discrepancyGrams, 10, 500)
      | .discrepancyPercent => ("discrepancy-percent", c.discrepancyPercent, 1, 10)

/-- A line reset and a clear reset leave the line STOPPED with the HALT pin released and no credits, and the
interface READY (R180, R188); every station FAULTED that was FAULTED or held a unit, the others as they
stood, EMPTY, or DONE with the UNCLAMP outstanding, and none with a train (R77); and every train IDLE or
OUT_OF_SERVICE without a station (R95).  Settings, masks, signatures and path lists are kept.  A line reset
keeps the closed log, closes every open allocation entry with its grams (R26), and names each station's
faulted phase and its unit's (R77); a clear reset empties the pending list first (R168), and then the
register, the queues, the vessel table, the bank windows and the watch list, and the units leave the
stations and the chamber. A line that waited in the buffer is then taken as a command (R187).
The orders of a reset: each station that was FAULTED or held a unit has its three valves ordered closed,
each unsecured by its own order (R77, R67); a sample cycle in OPENING or MEASURING is abandoned and waits for
a close of its station's SAMPLE_VALVE, the station's own where it faults, and one in CLOSING runs on (R39,
R41); and each train that was PURGING, DRAWING, PAUSED, WAIT_VESSEL or TAILING has COMPRESSOR_STOP,
PURGE_VALVE closed and OUTLET_VALVE closed (R95).
The reset actions of the chamber (R134) and of the banks (R156; at a clear reset R157), in their order
(log 28).  That a bank taken out of DRAIN without an AGENT vessel orders its open drain valve closed after a
line reset too is log 27 (DEDUCED). -/
def Obligations.ResetsLeaveTheLineStopped : Prop :=
  (∀ (s : State) (leftStopped ordered keptTables emptiedTables : State → Prop) (goesOn : Instr → State → Prop)
     (work : StationId → StationPhase), s.resetPin = false →
     (∀ i, work i = (s.station i).nextPhase.getD (s.station i).phase) →
     (∀ i, (s.station i).unit = none → (s.station i).phase = .empty ∨ (s.station i).phase = .faulted ∨
       ((s.station i).phase = .done ∧ (s.station i).unclamping = true)) →
     (∀ k, (s.train k).state = .outOfService →
       (s.train k).station = none ∧ (s.train k).slot = none) →
     (∀ t, leftStopped t ↔
       (t.control.line = .stopped ∧ t.control.haltPin = false ∧ t.control.credits = [] ∧
         t.control.chamberCredit = false ∧ t.control.holders = [] ∧ t.control.chamberHolder = false ∧
         t.control.settings = s.control.settings ∧ t.monitor.masks = s.monitor.masks ∧
         t.classifier.table = s.classifier.table ∧ t.arbiter.paths = s.arbiter.paths ∧
         t.link = { s.link with state := .ready, buffer := none }) ∧
       (∀ i, (t.station i).train = none ∧
         ((s.station i).phase = .faulted ∨ (s.station i).unit ≠ none →
           (t.station i).phase = .faulted) ∧
         ((s.station i).phase = .faulted →
           (t.station i).faultedPhase = (s.station i).faultedPhase) ∧
         ((s.station i).phase ≠ .faulted → (s.station i).unit ≠ none →
           (t.station i).faultedPhase = some (.phase (work i))) ∧
         ((s.station i).phase ≠ .faulted → (s.station i).unit = none →
           t.station i = { s.station i with train := none }) ∧
         ((t.station i).phase = .empty ∨ (t.station i).phase = .faulted ∨
           ((t.station i).phase = .done ∧ (t.station i).unclamping = true))) ∧
       ∀ k, (t.train k).station = none ∧ (t.train k).slot = none ∧
         ((s.train k).state = .outOfService → t.train k = s.train k) ∧
         ((s.train k).state ≠ .outOfService → (t.train k).state = .idle ∧
           (t.train k).lastClass = none)) →
     (∀ t, ordered t ↔
       (∀ i, (s.station i).phase = .faulted ∨ (s.station i).unit ≠ none → ∃ a b c,
         (t.station i).unsecured = [{ valve := .evac, order := some a },
           { valve := .sample, order := some b }, { valve := .drain, order := some c }] ∧
         ((t.station i).evacValve =
           if (s.station i).evacValve = .closed then .closed else .closing) ∧
         ((t.station i).evacOrder =
           if (s.station i).evacValve = .closed then (s.station i).evacOrder else some a) ∧
         (∀ x ∈ [(a, OrderKind.evacValve false), (b, .sampleValve false), (c, .drainValve false)],
           ∃ o ∈ t.loop.orders, o.node = .station i ∧ o.number = x.1 ∧ o.kind = x.2 ∧
             o.issuer = .stationController ∧ o.deadline = s.now + 3000) ∧
         ∀ y, s.classifier.cycle = some y → y.station = i → y.stage ≠ .closing →
           (s.station i).phase ≠ .faulted → t.classifier.cycle =
             some { y with stage := .closing, abandoned := true, closeOrder := some b }) ∧
       (∀ y, s.classifier.cycle = some y → y.stage ≠ .closing → ∃ n,
         t.classifier.cycle =
           some { y with stage := .closing, abandoned := true, closeOrder := some n } ∧
         ∃ o ∈ t.loop.orders,
           o.node = .station y.station ∧ o.number = n ∧ o.kind = .sampleValve false) ∧
       ((∀ y, s.classifier.cycle = some y → y.stage = .closing) →
         t.classifier.cycle = s.classifier.cycle) ∧
       ∀ k, (s.train k).state ∈
           [TrainState.purging, .drawing, .paused, .waitVessel, .tailing] →
         ∀ kind ∈ [OrderKind.compressorStop, .purgeValve false, .outletClose],
           ∃ o ∈ t.loop.orders, o.node = .train k ∧ o.kind = kind ∧ o.issuer = .pathArbiter ∧
             o.deadline = s.now + orderTimeoutOf kind) →
     (∀ t, keptTables t ↔ t.register.log = s.register.log ∧ t.register.closing = s.register.closing ∧
       t.slots = s.slots ∧
       (t.register.units.map fun r => (r.tag, r.allocations)) = s.register.units.map (fun r =>
         (r.tag, r.allocations.map fun e => { e with isOpen := false })) ∧
       ∀ i tag r r', (s.station i).unit = some tag → (∀ j, (s.station j).unit = some tag → j = i) →
         s.findUnit tag = some r → t.findUnit tag = some r' →
         ((s.station i).phase = .faulted ∨ work i = .done → r'.faultedPhase = r.faultedPhase) ∧
         ((s.station i).phase ≠ .faulted → work i ≠ .done → work i ≠ .empty → work i ≠ .faulted →
           r'.faultedPhase = some (work i))) →
     (∀ t, emptiedTables t ↔
       t.register = { units := [], closing := [], log := [], logFull := false } ∧
       t.classifier.queue = [] ∧ t.arbiter.requests = [] ∧ t.chamber.feed = [] ∧
       t.chamber.unit = none ∧ t.control.watch = [] ∧ (∀ i, (t.station i).unit = none) ∧
       (∀ bk, (t.bank bk).window = []) ∧ ∀ k, (t.slot k).vessel = none) →
     (∀ i v, goesOn i v ↔
       (∀ l f, s.link.buffer = some l → readLine l = .framing f →
         exec i s = .next (v.send [framingLine f]).afterEvent) ∧
       ∀ l c, s.link.buffer = some l → readLine l = .command c → exec i s = exec (rowFor c) v) →
     (s.link.state = .resetting .line → ∃ u v t : State,
       u = s.resetBlocks.resetChamber.resetCondenser.settleBlocks ∧
       v = { u with link := { u.link with state := .ready, buffer := none } } ∧
       t = v.afterEvent ∧ leftStopped v ∧ ordered v ∧ keptTables v ∧
       leftStopped t ∧ ordered t ∧ keptTables t ∧
       (s.link.buffer = none → exec .lineReset s = .next t) ∧ goesOn .lineReset v) ∧
     (s.link.state = .resetting .clear → ∃ u e w x y v t : State,
       u = ({ s with
         monitor := { s.monitor with entries := [], overflow := false }
         control := { s.control with watch := [] } } : State).resetBlocks ∧
       e = { u with
         register := { units := [], closing := [], log := [], logFull := false }
         classifier := { u.classifier with queue := [] }, arbiter := { u.arbiter with requests := [] }
         slots := e.slots, chamber := { u.chamber with feed := [] } } ∧
       (∀ k, e.slot k = { u.slot k with vessel := none }) ∧
       w = (e.resetChamber.onBank .a fun b => { b with window := [] }).onBank .b (fun b =>
         { b with window := [] }) ∧
       x = w.resetCondenser ∧
       y = { x with stations := y.stations, chamber := { x.chamber with unit := none } } ∧
       (∀ i, y.station i = { x.station i with unit := none }) ∧
       v = { y.settleBlocks with
         link := { y.settleBlocks.link with state := .ready, buffer := none } } ∧
       t = v.afterEvent ∧ leftStopped v ∧ ordered v ∧ emptiedTables v ∧
       leftStopped t ∧ ordered t ∧ emptiedTables t ∧
       (s.link.buffer = none → exec .clearReset s = .next t) ∧ goesOn .clearReset v)) ∧
  (∀ s : State,
    (s.chamber.unit ≠ none → s.chamber.phase = .faulted →
      s.resetChamber = s.issue .chamberSequencer .chamber .shredderStop) ∧
    (s.chamber.unit ≠ none → s.chamber.phase ≠ .faulted → s.resetChamber = s.faultChamber) ∧
    (s.chamber.unit = none → ∃ u : State,
      u = { s with chamber :=
        { feed := s.chamber.feed, phase := .idle, nextPhase := none, unit := none, repurge := false
          returnPhase := none, faultedPhase := none, foamStart := none, emptyNoted := false
          purgeEnd := none, clearEnd := none, nitrogenOpen := false
          readings := s.chamber.readings, doorOrder := none } } ∧
      (s.chamber.nitrogenOpen = true →
        s.resetChamber = u.issue .chamberSequencer .chamber (.nitrogen false)) ∧
      (s.chamber.nitrogenOpen = false → s.resetChamber = u))) ∧
  (∀ (s : State) (bk : BankId),
    (∀ d, (s.bank bk).state = .defrost → (s.bank bk).paused = true →
      (s.bank bk).defrostRemaining = some d → s.resetBank bk =
        (s.issue .condenser .condenser (.heaterOn bk)).setBank bk { s.bank bk with
          paused := false, defrostDeadline := some (s.now + d), defrostRemaining := none }) ∧
    ((s.bank bk).state = .drain → (s.bank bk).drainEnded = false → ∃ u v : State,
      u = s.setBank bk { s.bank bk with paused := false, waitSince := none } ∧
      v = u.testDrain bk ∧
      ((v.bank bk).state = .drainWait → ((s.bank bk).drainValve = .opening ∨
          (s.bank bk).drainValve = .opened) → s.resetBank bk =
        (v.issue .condenser .condenser (.bankDrainClose bk)).onBank bk fun x =>
          { x with drainValve := .closing, drainOrder := some v.orderNumber }) ∧
      ((v.bank bk).state ≠ .drainWait ∨ (s.bank bk).drainValve = .closed ∨
        (s.bank bk).drainValve = .closing → s.resetBank bk = v)) ∧
    ((s.bank bk).state = .drainWait → s.resetBank bk = s.retestDrain bk) ∧
    ((s.bank bk).state = .warm → s.condenser.started = true → s.resetBank bk =
      (s.issue .condenser .condenser (.refrigerationStart bk)).setBank bk { s.bank bk with
        state := .cooling, coolDeadline := some (s.now + 1800000) }) ∧
    ((s.bank bk).state = .cold → s.resetBank bk = s.tryCondense bk) ∧
    ((s.bank bk).state = .cooling ∨ (s.bank bk).state = .condensing ∨
        (s.bank bk).state = .faulted ∨
        (s.bank bk).state = .defrost ∧ (s.bank bk).paused = false ∨
        (s.bank bk).state = .drain ∧ (s.bank bk).drainEnded = true ∨
        (s.bank bk).state = .warm ∧ s.condenser.started = false → s.resetBank bk = s)) ∧
  ∀ (s : State) (u : State),
    u = (s.dropDrainSlot .a).dropDrainSlot .b →
    (∀ bk, (u.bank bk) = { s.bank bk with drainSlot := none }) ∧
    ((s.bank .a).state ≠ .drainWait →
      s.resetCondenser = ((u.resetBank .a).resetBank .b).swapTest) ∧
    ((s.bank .a).state = .drainWait → (s.bank .b).state ≠ .drainWait →
      s.resetCondenser = ((u.resetBank .b).resetBank .a).swapTest) ∧
    ∀ x y, (s.bank .a).state = .drainWait → (s.bank .b).state = .drainWait →
      (s.bank .a).waitSince = some x → (s.bank .b).waitSince = some y →
      (x ≤ y → s.resetCondenser = ((u.resetBank .a).resetBank .b).swapTest) ∧
      (y < x → s.resetCondenser = ((u.resetBank .b).resetBank .a).swapTest)

/-- A watched phase that a unit enters removes the entry, raises WATCH_HIT, and stops a line in RUN or STEP;
a line that the event's earlier hit has stopped is not stopped again (R175).  The detail is the tag of the hit
that counts last in the event, by ascending station number and the chamber's last (R175; held in hitTop, log
20, DEDUCED); an entry that is already listed merges as ConditionsAreEnteredAsListed says.  A line stop
withdraws the credits, suspends every EVACUATE and pauses every DRAWING train (R170, R171, R74, R88). -/
def Obligations.WatchHitStopsTheLine : Prop :=
  (∀ (s : State) (rank : Nat) (tag : Tag) (p : PhaseName),
    (({ tag := tag, phase := p } : WatchEntry) ∉ s.control.watch →
      s.watchEntry rank (some tag) p = s) ∧
    (∀ top : Hit, ({ tag := tag, phase := p } : WatchEntry) ∈ s.control.watch →
      (s.control.hitTop = none → top = { rank := rank, tag := tag }) →
      (∀ h, s.control.hitTop = some h → h.rank ≤ rank → top = { rank := rank, tag := tag }) →
      (∀ h, s.control.hitTop = some h → rank < h.rank → top = h) →
      ∃ u : State,
        u = (s.setControl { s.control with
          watch := s.control.watch.filter (fun w => decide (w ≠ { tag := tag, phase := p }))
          hitTop := some top }).raise .watchHit .line { first := top.tag, second := none } ∧
        (s.control.line = .run ∨ s.control.line = .step → s.watchEntry rank (some tag) p = u.lineStop) ∧
        (s.control.line = .stopped ∨ s.control.line = .halted →
          s.watchEntry rank (some tag) p = u))) ∧
  (∀ (s : State) (i : StationId) (p : StationPhase), s.enterPhase i p =
    (s.setStation i { s.station i with phase := p, nextPhase := none }).watchEntry (i.val + 1)
      (s.station i).unit (stationPhaseName p)) ∧
  (∀ (s : State) (p : ChamberPhase), s.enterChamberPhase p =
    ({ s with chamber := { s.chamber with phase := p, nextPhase := none } } : State).watchEntry 9
      s.chamber.unit (chamberPhaseName p)) ∧
  ∀ s t : State, t = s.lineStop →
    t.control = { s.control with
      line := .stopped, credits := [], chamberCredit := false, holders := [], chamberHolder := false } ∧
    (∀ i, (s.station i).phase ≠ .evacuate → t.station i = s.station i) ∧
    (∀ i, (s.station i).phase = .evacuate → ∃ n,
      t.station i = { s.station i with
        suspended := true
        evacValve := if (s.station i).evacValve = .opening ∨ (s.station i).evacValve = .opened
          then .closing else (s.station i).evacValve
        evacOrder := if (s.station i).evacValve = .opening ∨ (s.station i).evacValve = .opened
          then some n else (s.station i).evacOrder } ∧
      ((s.station i).evacValve = .opening ∨ (s.station i).evacValve = .opened →
        ∃ o ∈ t.loop.orders, o.node = .station i ∧ o.number = n ∧ o.kind = .evacValve false)) ∧
    (∀ k, (s.train k).state ≠ .drawing → t.train k = s.train k) ∧
    (∀ k, (s.train k).state = .drawing → t.train k = { s.train k with state := .paused } ∧
      ∃ o ∈ t.loop.orders, o.node = .train k ∧ o.kind = .compressorStop) ∧
    t.chamber = s.chamber ∧ t.condenser = s.condenser ∧ t.register = s.register ∧ t.slots = s.slots

/-! ## The field loop -/

/-- A poll carries the next node of the round, its unacknowledged orders in order of issue, and the
acknowledgement mark, and the round goes on in ascending address order (R189, R192).  A missed answer
counts (R191): the third of a node that holds no order and has no phase or train to act makes it silent,
with SAFETY_SILENT for the safety node and NODE_SILENT for another.  That a poll carries outstanding orders
only, so that a timed-out one is no longer sent, is log 11 (DEDUCED); the poll kept as lastPoll is log 34, and
that it carries no check is log 48 (DESIGN CHOICE).
The third miss of any node (R191): it is silent, and its condition is raised; then each of its orders
ends as failed, in the order of issue, with ORDER_FAILED; then the block that owns it acts: a station that
waits on answers faults (R68), a train faults (R90), the chamber does in AIRLOCK, PURGE and SHRED (R130),
and both banks do, bank A first (R150; log 25).
The first answer of a silent node is taken as another's, and then the clearing of the silence is
reported to the block that owns the node: a station and the chamber test for permission, the analyser is
granted, and an IDLE train makes a grant scan (R191, R50, R121, R34, R84). -/
def Obligations.PollsAndMissedAnswersAreTaken : Prop :=
  ((∀ (s : State) (m : Moment) (n : Node), s.resetPin = false → n = nodeAt s.loop.nextPoll →
     exec (.poll m) s = .next ({ s.advanceTo m with loop := { s.loop with
       nextPoll := s.loop.nextPoll + 1
       lastPoll := some
         { node := n
           orders := s.loop.orders.filter fun o => decide (o.node = n ∧ o.acknowledged = false)
           previousTaken := (s.node n).previousTaken } } } : State).afterEvent) ∧
   (∀ j k : Fin 17, j < k → nodeAddress (nodeAt j) < nodeAddress (nodeAt k)) ∧
   ∀ (s : State) (n : Node) (m : Moment), s.resetPin = false → ∃ u : State,
     u = (s.advanceTo m).setNode n
       { s.node n with misses := (s.node n).misses + 1, previousTaken := false } ∧
     ((s.node n).silent = true ∨ (s.node n).misses + 1 < 3 →
       exec (.missedAnswer n m) s = .next u.afterEvent) ∧
     ((s.node n).silent = false → 3 ≤ (s.node n).misses + 1 →
       (∀ o ∈ s.loop.orders, o.node ≠ n) → ∃ v : State,
         v = u.setNode n { s.node n with
           misses := (s.node n).misses + 1, previousTaken := false, silent := true } ∧
         (n = .safety → exec (.missedAnswer n m) s =
           .next (v.raise .safetySilent (.node n) { first := 0, second := none }).afterEvent) ∧
         (n = .analyser ∨ n = .bay → exec (.missedAnswer n m) s =
           .next (v.raise .nodeSilent (.node n) { first := 0, second := none }).afterEvent) ∧
         (∀ t, n = .train t → exec (.missedAnswer n m) s =
           .next ((v.raise .nodeSilent (.node n) { first := 0, second := none }).faultTrain
             t).afterEvent) ∧
         ∀ i, n = .station i → (s.station i).phase = .evacuate → (s.station i).nextPhase = none →
           s.control.line ≠ .halted → exec (.missedAnswer n m) s =
             .next ((v.raise .nodeSilent (.node n) { first := 0, second := none }).faultStation i
               (.phase .evacuate) true).afterEvent)) ∧
  (∀ (s : State) (n : Node) (m : Moment) (fails : State → Order → State) (act : State → State),
     s.resetPin = false → (s.node n).silent = false → 3 ≤ (s.node n).misses + 1 →
     (∀ x o, x.findOrder o.node o.number = none → fails x o = x) →
     (∀ x o, x.findOrder o.node o.number ≠ none → fails x o =
       ((x.setOrders (x.loop.orders.filter fun p =>
         decide (¬ (p.node = o.node ∧ p.number = o.number)))).raise .orderFailed (.node o.node)
           { first := o.number, second := none }).orderFails o) →
     ((∃ i, n = .station i ∧ ∀ x : State, act x =
         if x.control.line ≠ .halted ∧ (x.station i).nextPhase = none ∧
           ((x.station i).phase = .evacuate ∨ (x.station i).phase = .riseTest ∨
             (x.station i).phase = .oilDrain ∨
             ((x.station i).phase = .pierce ∧ (x.station i).pierceDone = true)) then
           x.faultStation i (.phase (x.station i).phase) true
         else x) ∨
       (∃ t, n = .train t ∧ ∀ x : State, act x = x.faultTrain t) ∨
       (n = .chamber ∧ ∀ x : State, act x =
         if x.control.line ≠ .halted ∧ x.chamber.nextPhase = none ∧ (x.chamber.phase = .airlock ∨
           x.chamber.phase = .purge ∨ x.chamber.phase = .shred) then x.faultChamber
         else x) ∨
       (n = .condenser ∧ ∀ x : State, act x = (x.faultBank .a).faultBank .b) ∨
       ((n = .analyser ∨ n = .bay ∨ n = .safety) ∧ ∀ x : State, act x = x)) →
     ∃ u v : State,
       u = (s.advanceTo m).setNode n
         { misses := (s.node n).misses + 1, previousTaken := false, silent := true } ∧
       (n = .safety → v = u.raise .safetySilent (.node n) { first := 0, second := none }) ∧
       (n ≠ .safety → v = u.raise .nodeSilent (.node n) { first := 0, second := none }) ∧
       exec (.missedAnswer n m) s =
         .next (act ((s.loop.orders.filter fun o => decide (o.node = n)).foldl fails v)).afterEvent) ∧
  ∀ (s heard : State) (n : Node) (c : Instr) (clear : State → State), s.resetPin = false →
    (s.node n).silent = true → heard = s.setNode n { s.node n with silent := false } →
    ((∃ i a, n = .station i ∧ c = .stationAnswer i a ∧ ∀ x, clear x = x.testStation i) ∨
      (∃ a, n = .analyser ∧ c = .analyserAnswer a ∧ ∀ x, clear x = x.grantAnalyser) ∨
      (∃ t a, n = .train t ∧ c = .trainAnswer t a ∧
        ∀ x, clear x = if (x.train t).state = .idle then x.grantScan else x) ∨
      (∃ a, n = .chamber ∧ c = .chamberAnswer a ∧ ∀ x, clear x = x.testChamber) ∨
      (∃ a, n = .bay ∧ c = .bayAnswer a ∧ ∀ x, clear x = x) ∨
      (∃ a, n = .condenser ∧ c = .condenserAnswer a ∧ ∀ x, clear x = x) ∨
      (∃ a, n = .safety ∧ c = .safetyAnswer a ∧ ∀ x, clear x = x)) →
    ∃ taken : State, exec c heard = .next taken.afterEvent ∧ exec c s = .next (clear taken).afterEvent

/-- While the numbers of outstanding orders and the next number are 1 to 255, as they stay after every step
(ListsAndBanksStaySound), an issued order takes the first number, from the next number on and after 255
from 1, that no outstanding order holds, and stands last, unacknowledged, with its deadline (R192), by the time-outs of
R194's table.  The deadline's passing ends the order, raises ORDER_TIMEOUT with its number, and tells the
issuing block that it failed (R194): a station in PIERCE faults, and so does a train. That an
ORDER_TIMEOUT of a number which no order holds has no effect of its own is the model's choice, log 5
(DESIGN CHOICE)  Of several orders with one number, the earliest ends and those of its node go with it
(log 51, DESIGN CHOICE).
A failed order of the Station Controller faults a station that awaits it, in its phase or at a boundary in
its next: CLAMP (R52), PIERCE (R53), EVAC_VALVE (R58) and DRAIN_VALVE (R65, R66); while HALTED every close
does (R76, log 35).  A superseded order and one of an EMPTY or FAULTED station have no such effect (R58,
R69).  A failed UNCLAMP leaves the station FAULTED with faulted phase UNCLAMP (R71; without a second fault
action, log 29).  A sample valve's failed close blocks the manifold too (R38).
What an order report does (R193): none for a number that is not outstanding at the node; RUNNING
acknowledges the order; DONE ends it and tells its issuer; FAILED ends it, raises ORDER_FAILED with its
number, and tells its issuer that it failed.  Of several orders of the node with one number, the earliest
ends and the others go with it, and RUNNING acknowledges all (log 51, DESIGN CHOICE). -/
def Obligations.OrdersAreNumberedAndEnd : Prop :=
  ((∀ (s : State) (who : Issuer) (n : Node) (k : OrderKind), s.loop.numbersSound → ∃ number : Nat,
     s.issue who n k = { s with
       freeCount := s.freeCount + 1
       loop := { s.loop with
         nextNumber := if number = 255 then 1 else number + 1
         orders := s.loop.orders ++ [{ number := number, node := n, kind := k, issuer := who
                                       deadline := s.now + orderTimeoutOf k, acknowledged := false }] } } ∧
     (1 ≤ number ∧ number ≤ 255) ∧
     (s.loop.orders.length < 255 → (∀ o ∈ s.loop.orders, o.number ≠ number) ∧
       ∃ d, number = (s.loop.nextNumber + d - 1) % 255 + 1 ∧
         ∀ e < d, ∃ o ∈ s.loop.orders, o.number = (s.loop.nextNumber + e - 1) % 255 + 1) ∧
     ((∀ o ∈ s.loop.orders, o.number ≠ s.loop.nextNumber) → number = s.loop.nextNumber)) ∧
   (∀ k : OrderKind, orderTimeoutOf k =
     match k with
     | .evacValve _ | .drainValve _ | .sampleValve _ | .purgeValve _ | .outletOpen _ | .outletClose
     | .nitrogen _ | .inletValve _ _ | .bankDrainOpen _ _ | .bankDrainClose _ | .heaterOn _
     | .heaterOff _ => 3000
     | .clamp | .unclamp | .shredderStart | .shredderStop | .compressorStart | .compressorStop
     | .refrigerationStart _ | .refrigerationStop _ => 5000
     | .pierce => 10000
     | .doorCycle | .doorLock => 60000
     | .startSample => 30000) ∧
   ∀ (s : State) (number : Nat), s.resetPin = false →
     ((∀ o ∈ s.loop.orders, o.number ≠ number) →
       exec (.orderTimeout number) s = .next s.afterEvent) ∧
     ∀ xs o ys, s.loop.orders = xs ++ o :: ys → o.number = number →
       (∀ p ∈ xs, p.number ≠ number) →
       ∃ u : State,
         u = ((s.advanceTo o.deadline).setOrders
           (xs ++ ys.filter fun p => decide (¬ (p.node = o.node ∧ p.number = number)))).raise
             .orderTimeout (.node o.node) { first := number, second := none } ∧
         exec (.orderTimeout number) s = .next (u.orderFails o).afterEvent ∧
         (∀ t, o.node = .train t → u.orderFails o = u.faultTrain t) ∧
         ∀ i, o.node = .station i → o.issuer = .stationController → o.kind = .pierce →
           (s.station i).phase = .pierce → (s.station i).nextPhase = none →
           (s.station i).workOrder = some number → u.orderFails o =
             (u.setStation i { u.station i with
               unsecured := (u.station i).unsecured.map fun w =>
                 if w.order = some number then { w with order := none } else w }).faultStation i
                   (.phase .pierce) true) ∧
  (∀ (s : State) (i : StationId) (o : Order), o.node = .station i → o.issuer = .stationController →
     ∃ u v : State,
       u = s.setStation i { s.station i with
         unsecured := (s.station i).unsecured.map fun w =>
           if w.order = some o.number then { w with order := none } else w } ∧
       (o.kind = .unclamp → (s.station i).workOrder ≠ some o.number → v = u) ∧
       (o.kind = .unclamp → (s.station i).workOrder = some o.number → (s.station i).phase ≠ .faulted →
         v = (u.onStation i fun x =>
           { x with unclamping := false, workOrder := none }).faultStation i .unclamp true) ∧
       (o.kind = .unclamp → (s.station i).workOrder = some o.number → (s.station i).phase = .faulted →
         v = u.onStation i fun x =>
           { x with unclamping := false, workOrder := none, faultedPhase := some .unclamp }) ∧
       (o.kind ≠ .unclamp →
         ((s.station i).phase = .empty ∨ (s.station i).phase = .faulted → v = u) ∧
         ((s.station i).phase ≠ .empty → (s.station i).phase ≠ .faulted → ∀ awaited : Prop,
           (awaited ↔ (s.station i).workOrder = some o.number ∨
             (s.station i).evacOrder = some o.number ∨ (s.station i).drainOrder = some o.number ∨
             (s.control.line = .halted ∧ (o.kind = .evacValve false ∨ o.kind = .drainValve false ∨
               o.kind = .sampleValve false))) →
           (awaited → v = u.faultStation i
             (.phase ((s.station i).nextPhase.getD (s.station i).phase)) true) ∧
           (¬ awaited → v = u))) ∧
       ((∀ opens, o.kind ≠ .sampleValve opens) → s.orderFails o = v) ∧
       ((∀ c, v.classifier.cycle = some c → c.station ≠ i) → s.orderFails o = v) ∧
       ∀ c opens, o.kind = .sampleValve opens → v.classifier.cycle = some c → c.station = i →
         c.openOrder ≠ some o.number →
         (c.closeOrder = some o.number → s.orderFails o = { v with classifier := { v.classifier with
           cycle := some { c with closeOrder := none, blocked := true } } }) ∧
         (c.closeOrder ≠ some o.number → s.orderFails o = v)) ∧
  ∀ (s : State) (n : Node) (done : State → Order → State) (r : OrderReport),
    (s.findOrder n r.number = none → s.takeReport n done r = s) ∧
    ∀ xs o ys, s.loop.orders = xs ++ o :: ys → o.node = n → o.number = r.number →
      (∀ p ∈ xs, ¬ (p.node = n ∧ p.number = r.number)) → ∃ left : List Order,
        left = xs ++ ys.filter (fun p => decide (¬ (p.node = n ∧ p.number = r.number))) ∧
        (r.status = .running → s.takeReport n done r =
          s.setOrders (xs ++ { o with acknowledged := true } :: ys.map fun p =>
            if p.node = n ∧ p.number = r.number then { p with acknowledged := true } else p)) ∧
        (r.status = .done → s.takeReport n done r = done (s.setOrders left) o) ∧
        (r.status = .failed → s.takeReport n done r =
          ((s.setOrders left).raise .orderFailed (.node n)
            { first := r.number, second := none }).orderFails o)
end

