-- ==== Sys2Proof/Laws/State.lean ====
section
/-!
SUPPORT. The fields of the state after each shared update, so that no proof unfolds a record update:
`Laws.<update>_<field>`; and what reading a part gives after writing it.
-/

namespace Sys2Proof.Laws

open Sys2Proof.Machine

/-! ## `State.setStation` -/

section
variable (s : State) (i : StationId) (x : Station)

@[simp] theorem setStation_pending : (s.setStation i x).pending = s.pending := rfl
@[simp] theorem setStation_resetPin : (s.setStation i x).resetPin = s.resetPin := rfl
@[simp] theorem setStation_now : (s.setStation i x).now = s.now := rfl
@[simp] theorem setStation_freeCount : (s.setStation i x).freeCount = s.freeCount := rfl
@[simp] theorem setStation_register : (s.setStation i x).register = s.register := rfl
@[simp] theorem setStation_classifier : (s.setStation i x).classifier = s.classifier := rfl
@[simp] theorem setStation_stations : (s.setStation i x).stations = s.stations.set i.val x i.isLt := rfl
@[simp] theorem setStation_arbiter : (s.setStation i x).arbiter = s.arbiter := rfl
@[simp] theorem setStation_slots : (s.setStation i x).slots = s.slots := rfl
@[simp] theorem setStation_chamber : (s.setStation i x).chamber = s.chamber := rfl
@[simp] theorem setStation_condenser : (s.setStation i x).condenser = s.condenser := rfl
@[simp] theorem setStation_monitor : (s.setStation i x).monitor = s.monitor := rfl
@[simp] theorem setStation_control : (s.setStation i x).control = s.control := rfl
@[simp] theorem setStation_link : (s.setStation i x).link = s.link := rfl
@[simp] theorem setStation_loop : (s.setStation i x).loop = s.loop := rfl

end

/-! ## `State.onStation` -/

section
variable (s : State) (i : StationId) (f : Station → Station)

@[simp] theorem onStation_pending : (s.onStation i f).pending = s.pending := rfl
@[simp] theorem onStation_resetPin : (s.onStation i f).resetPin = s.resetPin := rfl
@[simp] theorem onStation_now : (s.onStation i f).now = s.now := rfl
@[simp] theorem onStation_freeCount : (s.onStation i f).freeCount = s.freeCount := rfl
@[simp] theorem onStation_register : (s.onStation i f).register = s.register := rfl
@[simp] theorem onStation_classifier : (s.onStation i f).classifier = s.classifier := rfl
@[simp] theorem onStation_stations : (s.onStation i f).stations = s.stations.set i.val (f (s.station i)) i.isLt := rfl
@[simp] theorem onStation_arbiter : (s.onStation i f).arbiter = s.arbiter := rfl
@[simp] theorem onStation_slots : (s.onStation i f).slots = s.slots := rfl
@[simp] theorem onStation_chamber : (s.onStation i f).chamber = s.chamber := rfl
@[simp] theorem onStation_condenser : (s.onStation i f).condenser = s.condenser := rfl
@[simp] theorem onStation_monitor : (s.onStation i f).monitor = s.monitor := rfl
@[simp] theorem onStation_control : (s.onStation i f).control = s.control := rfl
@[simp] theorem onStation_link : (s.onStation i f).link = s.link := rfl
@[simp] theorem onStation_loop : (s.onStation i f).loop = s.loop := rfl

end

/-! ## `State.setTrain` -/

section
variable (s : State) (t : TrainId) (x : Train)

@[simp] theorem setTrain_pending : (s.setTrain t x).pending = s.pending := rfl
@[simp] theorem setTrain_resetPin : (s.setTrain t x).resetPin = s.resetPin := rfl
@[simp] theorem setTrain_now : (s.setTrain t x).now = s.now := rfl
@[simp] theorem setTrain_freeCount : (s.setTrain t x).freeCount = s.freeCount := rfl
@[simp] theorem setTrain_register : (s.setTrain t x).register = s.register := rfl
@[simp] theorem setTrain_classifier : (s.setTrain t x).classifier = s.classifier := rfl
@[simp] theorem setTrain_stations : (s.setTrain t x).stations = s.stations := rfl
@[simp] theorem setTrain_arbiter : (s.setTrain t x).arbiter = { s.arbiter with trains := s.arbiter.trains.set t.val x t.isLt } := rfl
@[simp] theorem setTrain_slots : (s.setTrain t x).slots = s.slots := rfl
@[simp] theorem setTrain_chamber : (s.setTrain t x).chamber = s.chamber := rfl
@[simp] theorem setTrain_condenser : (s.setTrain t x).condenser = s.condenser := rfl
@[simp] theorem setTrain_monitor : (s.setTrain t x).monitor = s.monitor := rfl
@[simp] theorem setTrain_control : (s.setTrain t x).control = s.control := rfl
@[simp] theorem setTrain_link : (s.setTrain t x).link = s.link := rfl
@[simp] theorem setTrain_loop : (s.setTrain t x).loop = s.loop := rfl

end

/-! ## `State.onTrain` -/

section
variable (s : State) (t : TrainId) (f : Train → Train)

@[simp] theorem onTrain_pending : (s.onTrain t f).pending = s.pending := rfl
@[simp] theorem onTrain_resetPin : (s.onTrain t f).resetPin = s.resetPin := rfl
@[simp] theorem onTrain_now : (s.onTrain t f).now = s.now := rfl
@[simp] theorem onTrain_freeCount : (s.onTrain t f).freeCount = s.freeCount := rfl
@[simp] theorem onTrain_register : (s.onTrain t f).register = s.register := rfl
@[simp] theorem onTrain_classifier : (s.onTrain t f).classifier = s.classifier := rfl
@[simp] theorem onTrain_stations : (s.onTrain t f).stations = s.stations := rfl
@[simp] theorem onTrain_arbiter : (s.onTrain t f).arbiter = { s.arbiter with trains := s.arbiter.trains.set t.val (f (s.train t)) t.isLt } := rfl
@[simp] theorem onTrain_slots : (s.onTrain t f).slots = s.slots := rfl
@[simp] theorem onTrain_chamber : (s.onTrain t f).chamber = s.chamber := rfl
@[simp] theorem onTrain_condenser : (s.onTrain t f).condenser = s.condenser := rfl
@[simp] theorem onTrain_monitor : (s.onTrain t f).monitor = s.monitor := rfl
@[simp] theorem onTrain_control : (s.onTrain t f).control = s.control := rfl
@[simp] theorem onTrain_link : (s.onTrain t f).link = s.link := rfl
@[simp] theorem onTrain_loop : (s.onTrain t f).loop = s.loop := rfl

end

/-! ## `State.setSlot` -/

section
variable (s : State) (k : SlotId) (x : Slot)

@[simp] theorem setSlot_pending : (s.setSlot k x).pending = s.pending := rfl
@[simp] theorem setSlot_resetPin : (s.setSlot k x).resetPin = s.resetPin := rfl
@[simp] theorem setSlot_now : (s.setSlot k x).now = s.now := rfl
@[simp] theorem setSlot_freeCount : (s.setSlot k x).freeCount = s.freeCount := rfl
@[simp] theorem setSlot_register : (s.setSlot k x).register = s.register := rfl
@[simp] theorem setSlot_classifier : (s.setSlot k x).classifier = s.classifier := rfl
@[simp] theorem setSlot_stations : (s.setSlot k x).stations = s.stations := rfl
@[simp] theorem setSlot_arbiter : (s.setSlot k x).arbiter = s.arbiter := rfl
@[simp] theorem setSlot_slots : (s.setSlot k x).slots = s.slots.set k.val x k.isLt := rfl
@[simp] theorem setSlot_chamber : (s.setSlot k x).chamber = s.chamber := rfl
@[simp] theorem setSlot_condenser : (s.setSlot k x).condenser = s.condenser := rfl
@[simp] theorem setSlot_monitor : (s.setSlot k x).monitor = s.monitor := rfl
@[simp] theorem setSlot_control : (s.setSlot k x).control = s.control := rfl
@[simp] theorem setSlot_link : (s.setSlot k x).link = s.link := rfl
@[simp] theorem setSlot_loop : (s.setSlot k x).loop = s.loop := rfl

end

/-! ## `State.onVessel` -/

section
variable (s : State) (k : SlotId) (f : Vessel → Vessel)

@[simp] theorem onVessel_pending : (s.onVessel k f).pending = s.pending := rfl
@[simp] theorem onVessel_resetPin : (s.onVessel k f).resetPin = s.resetPin := rfl
@[simp] theorem onVessel_now : (s.onVessel k f).now = s.now := rfl
@[simp] theorem onVessel_freeCount : (s.onVessel k f).freeCount = s.freeCount := rfl
@[simp] theorem onVessel_register : (s.onVessel k f).register = s.register := rfl
@[simp] theorem onVessel_classifier : (s.onVessel k f).classifier = s.classifier := rfl
@[simp] theorem onVessel_stations : (s.onVessel k f).stations = s.stations := rfl
@[simp] theorem onVessel_arbiter : (s.onVessel k f).arbiter = s.arbiter := rfl
@[simp] theorem onVessel_slots : (s.onVessel k f).slots = s.slots.set k.val { s.slot k with vessel := (s.slot k).vessel.map f } k.isLt := rfl
@[simp] theorem onVessel_chamber : (s.onVessel k f).chamber = s.chamber := rfl
@[simp] theorem onVessel_condenser : (s.onVessel k f).condenser = s.condenser := rfl
@[simp] theorem onVessel_monitor : (s.onVessel k f).monitor = s.monitor := rfl
@[simp] theorem onVessel_control : (s.onVessel k f).control = s.control := rfl
@[simp] theorem onVessel_link : (s.onVessel k f).link = s.link := rfl
@[simp] theorem onVessel_loop : (s.onVessel k f).loop = s.loop := rfl

end

/-! ## `State.setBank` -/

section
variable (s : State) (bk : BankId) (x : Bank)

@[simp] theorem setBank_pending : (s.setBank bk x).pending = s.pending := by cases bk <;> rfl
@[simp] theorem setBank_resetPin : (s.setBank bk x).resetPin = s.resetPin := by cases bk <;> rfl
@[simp] theorem setBank_now : (s.setBank bk x).now = s.now := by cases bk <;> rfl
@[simp] theorem setBank_freeCount : (s.setBank bk x).freeCount = s.freeCount := by cases bk <;> rfl
@[simp] theorem setBank_register : (s.setBank bk x).register = s.register := by cases bk <;> rfl
@[simp] theorem setBank_classifier : (s.setBank bk x).classifier = s.classifier := by cases bk <;> rfl
@[simp] theorem setBank_stations : (s.setBank bk x).stations = s.stations := by cases bk <;> rfl
@[simp] theorem setBank_arbiter : (s.setBank bk x).arbiter = s.arbiter := by cases bk <;> rfl
@[simp] theorem setBank_slots : (s.setBank bk x).slots = s.slots := by cases bk <;> rfl
@[simp] theorem setBank_chamber : (s.setBank bk x).chamber = s.chamber := by cases bk <;> rfl
@[simp] theorem setBank_monitor : (s.setBank bk x).monitor = s.monitor := by cases bk <;> rfl
@[simp] theorem setBank_control : (s.setBank bk x).control = s.control := by cases bk <;> rfl
@[simp] theorem setBank_link : (s.setBank bk x).link = s.link := by cases bk <;> rfl
@[simp] theorem setBank_loop : (s.setBank bk x).loop = s.loop := by cases bk <;> rfl

end

/-! ## `State.onBank` -/

section
variable (s : State) (bk : BankId) (f : Bank → Bank)

@[simp] theorem onBank_pending : (s.onBank bk f).pending = s.pending := by cases bk <;> rfl
@[simp] theorem onBank_resetPin : (s.onBank bk f).resetPin = s.resetPin := by cases bk <;> rfl
@[simp] theorem onBank_now : (s.onBank bk f).now = s.now := by cases bk <;> rfl
@[simp] theorem onBank_freeCount : (s.onBank bk f).freeCount = s.freeCount := by cases bk <;> rfl
@[simp] theorem onBank_register : (s.onBank bk f).register = s.register := by cases bk <;> rfl
@[simp] theorem onBank_classifier : (s.onBank bk f).classifier = s.classifier := by cases bk <;> rfl
@[simp] theorem onBank_stations : (s.onBank bk f).stations = s.stations := by cases bk <;> rfl
@[simp] theorem onBank_arbiter : (s.onBank bk f).arbiter = s.arbiter := by cases bk <;> rfl
@[simp] theorem onBank_slots : (s.onBank bk f).slots = s.slots := by cases bk <;> rfl
@[simp] theorem onBank_chamber : (s.onBank bk f).chamber = s.chamber := by cases bk <;> rfl
@[simp] theorem onBank_monitor : (s.onBank bk f).monitor = s.monitor := by cases bk <;> rfl
@[simp] theorem onBank_control : (s.onBank bk f).control = s.control := by cases bk <;> rfl
@[simp] theorem onBank_link : (s.onBank bk f).link = s.link := by cases bk <;> rfl
@[simp] theorem onBank_loop : (s.onBank bk f).loop = s.loop := by cases bk <;> rfl

end

/-! ## `State.onChamber` -/

section
variable (s : State) (f : Chamber → Chamber)

@[simp] theorem onChamber_pending : (s.onChamber f).pending = s.pending := rfl
@[simp] theorem onChamber_resetPin : (s.onChamber f).resetPin = s.resetPin := rfl
@[simp] theorem onChamber_now : (s.onChamber f).now = s.now := rfl
@[simp] theorem onChamber_freeCount : (s.onChamber f).freeCount = s.freeCount := rfl
@[simp] theorem onChamber_register : (s.onChamber f).register = s.register := rfl
@[simp] theorem onChamber_classifier : (s.onChamber f).classifier = s.classifier := rfl
@[simp] theorem onChamber_stations : (s.onChamber f).stations = s.stations := rfl
@[simp] theorem onChamber_arbiter : (s.onChamber f).arbiter = s.arbiter := rfl
@[simp] theorem onChamber_slots : (s.onChamber f).slots = s.slots := rfl
@[simp] theorem onChamber_chamber : (s.onChamber f).chamber = f s.chamber := rfl
@[simp] theorem onChamber_condenser : (s.onChamber f).condenser = s.condenser := rfl
@[simp] theorem onChamber_monitor : (s.onChamber f).monitor = s.monitor := rfl
@[simp] theorem onChamber_control : (s.onChamber f).control = s.control := rfl
@[simp] theorem onChamber_link : (s.onChamber f).link = s.link := rfl
@[simp] theorem onChamber_loop : (s.onChamber f).loop = s.loop := rfl

end

/-! ## `State.onUnit` -/

section
variable (s : State) (tag : Tag) (f : UnitRecord → UnitRecord)

@[simp] theorem onUnit_pending : (s.onUnit tag f).pending = s.pending := rfl
@[simp] theorem onUnit_resetPin : (s.onUnit tag f).resetPin = s.resetPin := rfl
@[simp] theorem onUnit_now : (s.onUnit tag f).now = s.now := rfl
@[simp] theorem onUnit_freeCount : (s.onUnit tag f).freeCount = s.freeCount := rfl
@[simp] theorem onUnit_register : (s.onUnit tag f).register = { s.register with units := s.register.units.map fun r => if r.tag == tag then f r else r } := rfl
@[simp] theorem onUnit_classifier : (s.onUnit tag f).classifier = s.classifier := rfl
@[simp] theorem onUnit_stations : (s.onUnit tag f).stations = s.stations := rfl
@[simp] theorem onUnit_arbiter : (s.onUnit tag f).arbiter = s.arbiter := rfl
@[simp] theorem onUnit_slots : (s.onUnit tag f).slots = s.slots := rfl
@[simp] theorem onUnit_chamber : (s.onUnit tag f).chamber = s.chamber := rfl
@[simp] theorem onUnit_condenser : (s.onUnit tag f).condenser = s.condenser := rfl
@[simp] theorem onUnit_monitor : (s.onUnit tag f).monitor = s.monitor := rfl
@[simp] theorem onUnit_control : (s.onUnit tag f).control = s.control := rfl
@[simp] theorem onUnit_link : (s.onUnit tag f).link = s.link := rfl
@[simp] theorem onUnit_loop : (s.onUnit tag f).loop = s.loop := rfl

end

/-! ## `State.addUnit` -/

section
variable (s : State) (r : UnitRecord)

@[simp] theorem addUnit_pending : (s.addUnit r).pending = s.pending := rfl
@[simp] theorem addUnit_resetPin : (s.addUnit r).resetPin = s.resetPin := rfl
@[simp] theorem addUnit_now : (s.addUnit r).now = s.now := rfl
@[simp] theorem addUnit_freeCount : (s.addUnit r).freeCount = s.freeCount := rfl
@[simp] theorem addUnit_register : (s.addUnit r).register = { s.register with units := s.register.units ++ [r] } := rfl
@[simp] theorem addUnit_classifier : (s.addUnit r).classifier = s.classifier := rfl
@[simp] theorem addUnit_stations : (s.addUnit r).stations = s.stations := rfl
@[simp] theorem addUnit_arbiter : (s.addUnit r).arbiter = s.arbiter := rfl
@[simp] theorem addUnit_slots : (s.addUnit r).slots = s.slots := rfl
@[simp] theorem addUnit_chamber : (s.addUnit r).chamber = s.chamber := rfl
@[simp] theorem addUnit_condenser : (s.addUnit r).condenser = s.condenser := rfl
@[simp] theorem addUnit_monitor : (s.addUnit r).monitor = s.monitor := rfl
@[simp] theorem addUnit_control : (s.addUnit r).control = s.control := rfl
@[simp] theorem addUnit_link : (s.addUnit r).link = s.link := rfl
@[simp] theorem addUnit_loop : (s.addUnit r).loop = s.loop := rfl

end

/-! ## `State.setNode` -/

section
variable (s : State) (n : Node) (x : NodeState)

@[simp] theorem setNode_pending : (s.setNode n x).pending = s.pending := rfl
@[simp] theorem setNode_resetPin : (s.setNode n x).resetPin = s.resetPin := rfl
@[simp] theorem setNode_now : (s.setNode n x).now = s.now := rfl
@[simp] theorem setNode_freeCount : (s.setNode n x).freeCount = s.freeCount := rfl
@[simp] theorem setNode_register : (s.setNode n x).register = s.register := rfl
@[simp] theorem setNode_classifier : (s.setNode n x).classifier = s.classifier := rfl
@[simp] theorem setNode_stations : (s.setNode n x).stations = s.stations := rfl
@[simp] theorem setNode_arbiter : (s.setNode n x).arbiter = s.arbiter := rfl
@[simp] theorem setNode_slots : (s.setNode n x).slots = s.slots := rfl
@[simp] theorem setNode_chamber : (s.setNode n x).chamber = s.chamber := rfl
@[simp] theorem setNode_condenser : (s.setNode n x).condenser = s.condenser := rfl
@[simp] theorem setNode_monitor : (s.setNode n x).monitor = s.monitor := rfl
@[simp] theorem setNode_control : (s.setNode n x).control = s.control := rfl
@[simp] theorem setNode_link : (s.setNode n x).link = s.link := rfl
@[simp] theorem setNode_loop : (s.setNode n x).loop = { s.loop with nodes := s.loop.nodes.set (nodeIndex n).val x (nodeIndex n).isLt } := rfl

end

/-! ## `State.setRequests` -/

section
variable (s : State) (q : List Request)

@[simp] theorem setRequests_pending : (s.setRequests q).pending = s.pending := rfl
@[simp] theorem setRequests_resetPin : (s.setRequests q).resetPin = s.resetPin := rfl
@[simp] theorem setRequests_now : (s.setRequests q).now = s.now := rfl
@[simp] theorem setRequests_freeCount : (s.setRequests q).freeCount = s.freeCount := rfl
@[simp] theorem setRequests_register : (s.setRequests q).register = s.register := rfl
@[simp] theorem setRequests_classifier : (s.setRequests q).classifier = s.classifier := rfl
@[simp] theorem setRequests_stations : (s.setRequests q).stations = s.stations := rfl
@[simp] theorem setRequests_arbiter : (s.setRequests q).arbiter = { s.arbiter with requests := q } := rfl
@[simp] theorem setRequests_slots : (s.setRequests q).slots = s.slots := rfl
@[simp] theorem setRequests_chamber : (s.setRequests q).chamber = s.chamber := rfl
@[simp] theorem setRequests_condenser : (s.setRequests q).condenser = s.condenser := rfl
@[simp] theorem setRequests_monitor : (s.setRequests q).monitor = s.monitor := rfl
@[simp] theorem setRequests_control : (s.setRequests q).control = s.control := rfl
@[simp] theorem setRequests_link : (s.setRequests q).link = s.link := rfl
@[simp] theorem setRequests_loop : (s.setRequests q).loop = s.loop := rfl

end

/-! ## `State.setCycle` -/

section
variable (s : State) (c : Option SampleCycle)

@[simp] theorem setCycle_pending : (s.setCycle c).pending = s.pending := rfl
@[simp] theorem setCycle_resetPin : (s.setCycle c).resetPin = s.resetPin := rfl
@[simp] theorem setCycle_now : (s.setCycle c).now = s.now := rfl
@[simp] theorem setCycle_freeCount : (s.setCycle c).freeCount = s.freeCount := rfl
@[simp] theorem setCycle_register : (s.setCycle c).register = s.register := rfl
@[simp] theorem setCycle_classifier : (s.setCycle c).classifier = { s.classifier with cycle := c } := rfl
@[simp] theorem setCycle_stations : (s.setCycle c).stations = s.stations := rfl
@[simp] theorem setCycle_arbiter : (s.setCycle c).arbiter = s.arbiter := rfl
@[simp] theorem setCycle_slots : (s.setCycle c).slots = s.slots := rfl
@[simp] theorem setCycle_chamber : (s.setCycle c).chamber = s.chamber := rfl
@[simp] theorem setCycle_condenser : (s.setCycle c).condenser = s.condenser := rfl
@[simp] theorem setCycle_monitor : (s.setCycle c).monitor = s.monitor := rfl
@[simp] theorem setCycle_control : (s.setCycle c).control = s.control := rfl
@[simp] theorem setCycle_link : (s.setCycle c).link = s.link := rfl
@[simp] theorem setCycle_loop : (s.setCycle c).loop = s.loop := rfl

end

/-! ## `State.setQueue` -/

section
variable (s : State) (q : List StationId)

@[simp] theorem setQueue_pending : (s.setQueue q).pending = s.pending := rfl
@[simp] theorem setQueue_resetPin : (s.setQueue q).resetPin = s.resetPin := rfl
@[simp] theorem setQueue_now : (s.setQueue q).now = s.now := rfl
@[simp] theorem setQueue_freeCount : (s.setQueue q).freeCount = s.freeCount := rfl
@[simp] theorem setQueue_register : (s.setQueue q).register = s.register := rfl
@[simp] theorem setQueue_classifier : (s.setQueue q).classifier = { s.classifier with queue := q } := rfl
@[simp] theorem setQueue_stations : (s.setQueue q).stations = s.stations := rfl
@[simp] theorem setQueue_arbiter : (s.setQueue q).arbiter = s.arbiter := rfl
@[simp] theorem setQueue_slots : (s.setQueue q).slots = s.slots := rfl
@[simp] theorem setQueue_chamber : (s.setQueue q).chamber = s.chamber := rfl
@[simp] theorem setQueue_condenser : (s.setQueue q).condenser = s.condenser := rfl
@[simp] theorem setQueue_monitor : (s.setQueue q).monitor = s.monitor := rfl
@[simp] theorem setQueue_control : (s.setQueue q).control = s.control := rfl
@[simp] theorem setQueue_link : (s.setQueue q).link = s.link := rfl
@[simp] theorem setQueue_loop : (s.setQueue q).loop = s.loop := rfl

end

/-! ## `State.setOrders` -/

section
variable (s : State) (q : List Order)

@[simp] theorem setOrders_pending : (s.setOrders q).pending = s.pending := rfl
@[simp] theorem setOrders_resetPin : (s.setOrders q).resetPin = s.resetPin := rfl
@[simp] theorem setOrders_now : (s.setOrders q).now = s.now := rfl
@[simp] theorem setOrders_freeCount : (s.setOrders q).freeCount = s.freeCount := rfl
@[simp] theorem setOrders_register : (s.setOrders q).register = s.register := rfl
@[simp] theorem setOrders_classifier : (s.setOrders q).classifier = s.classifier := rfl
@[simp] theorem setOrders_stations : (s.setOrders q).stations = s.stations := rfl
@[simp] theorem setOrders_arbiter : (s.setOrders q).arbiter = s.arbiter := rfl
@[simp] theorem setOrders_slots : (s.setOrders q).slots = s.slots := rfl
@[simp] theorem setOrders_chamber : (s.setOrders q).chamber = s.chamber := rfl
@[simp] theorem setOrders_condenser : (s.setOrders q).condenser = s.condenser := rfl
@[simp] theorem setOrders_monitor : (s.setOrders q).monitor = s.monitor := rfl
@[simp] theorem setOrders_control : (s.setOrders q).control = s.control := rfl
@[simp] theorem setOrders_link : (s.setOrders q).link = s.link := rfl
@[simp] theorem setOrders_loop : (s.setOrders q).loop = { s.loop with orders := q } := rfl

end

/-! ## `State.setMonitor` -/

section
variable (s : State) (m : Monitor)

@[simp] theorem setMonitor_pending : (s.setMonitor m).pending = s.pending := rfl
@[simp] theorem setMonitor_resetPin : (s.setMonitor m).resetPin = s.resetPin := rfl
@[simp] theorem setMonitor_now : (s.setMonitor m).now = s.now := rfl
@[simp] theorem setMonitor_freeCount : (s.setMonitor m).freeCount = s.freeCount := rfl
@[simp] theorem setMonitor_register : (s.setMonitor m).register = s.register := rfl
@[simp] theorem setMonitor_classifier : (s.setMonitor m).classifier = s.classifier := rfl
@[simp] theorem setMonitor_stations : (s.setMonitor m).stations = s.stations := rfl
@[simp] theorem setMonitor_arbiter : (s.setMonitor m).arbiter = s.arbiter := rfl
@[simp] theorem setMonitor_slots : (s.setMonitor m).slots = s.slots := rfl
@[simp] theorem setMonitor_chamber : (s.setMonitor m).chamber = s.chamber := rfl
@[simp] theorem setMonitor_condenser : (s.setMonitor m).condenser = s.condenser := rfl
@[simp] theorem setMonitor_monitor : (s.setMonitor m).monitor = m := rfl
@[simp] theorem setMonitor_control : (s.setMonitor m).control = s.control := rfl
@[simp] theorem setMonitor_link : (s.setMonitor m).link = s.link := rfl
@[simp] theorem setMonitor_loop : (s.setMonitor m).loop = s.loop := rfl

end

/-! ## `State.setControl` -/

section
variable (s : State) (c : LineControl)

@[simp] theorem setControl_pending : (s.setControl c).pending = s.pending := rfl
@[simp] theorem setControl_resetPin : (s.setControl c).resetPin = s.resetPin := rfl
@[simp] theorem setControl_now : (s.setControl c).now = s.now := rfl
@[simp] theorem setControl_freeCount : (s.setControl c).freeCount = s.freeCount := rfl
@[simp] theorem setControl_register : (s.setControl c).register = s.register := rfl
@[simp] theorem setControl_classifier : (s.setControl c).classifier = s.classifier := rfl
@[simp] theorem setControl_stations : (s.setControl c).stations = s.stations := rfl
@[simp] theorem setControl_arbiter : (s.setControl c).arbiter = s.arbiter := rfl
@[simp] theorem setControl_slots : (s.setControl c).slots = s.slots := rfl
@[simp] theorem setControl_chamber : (s.setControl c).chamber = s.chamber := rfl
@[simp] theorem setControl_condenser : (s.setControl c).condenser = s.condenser := rfl
@[simp] theorem setControl_monitor : (s.setControl c).monitor = s.monitor := rfl
@[simp] theorem setControl_control : (s.setControl c).control = c := rfl
@[simp] theorem setControl_link : (s.setControl c).link = s.link := rfl
@[simp] theorem setControl_loop : (s.setControl c).loop = s.loop := rfl

end

/-! ## `State.send` -/

section
variable (s : State) (lines : List Text)

@[simp] theorem send_pending : (s.send lines).pending = s.pending := rfl
@[simp] theorem send_resetPin : (s.send lines).resetPin = s.resetPin := rfl
@[simp] theorem send_now : (s.send lines).now = s.now := rfl
@[simp] theorem send_freeCount : (s.send lines).freeCount = s.freeCount := rfl
@[simp] theorem send_register : (s.send lines).register = s.register := rfl
@[simp] theorem send_classifier : (s.send lines).classifier = s.classifier := rfl
@[simp] theorem send_stations : (s.send lines).stations = s.stations := rfl
@[simp] theorem send_arbiter : (s.send lines).arbiter = s.arbiter := rfl
@[simp] theorem send_slots : (s.send lines).slots = s.slots := rfl
@[simp] theorem send_chamber : (s.send lines).chamber = s.chamber := rfl
@[simp] theorem send_condenser : (s.send lines).condenser = s.condenser := rfl
@[simp] theorem send_monitor : (s.send lines).monitor = s.monitor := rfl
@[simp] theorem send_control : (s.send lines).control = s.control := rfl
@[simp] theorem send_link : (s.send lines).link = { s.link with sent := s.link.sent ++ lines } := rfl
@[simp] theorem send_loop : (s.send lines).loop = s.loop := rfl

end

/-! ## `State.setLink` -/

section
variable (s : State) (l : LinkState)

@[simp] theorem setLink_pending : (s.setLink l).pending = s.pending := rfl
@[simp] theorem setLink_resetPin : (s.setLink l).resetPin = s.resetPin := rfl
@[simp] theorem setLink_now : (s.setLink l).now = s.now := rfl
@[simp] theorem setLink_freeCount : (s.setLink l).freeCount = s.freeCount := rfl
@[simp] theorem setLink_register : (s.setLink l).register = s.register := rfl
@[simp] theorem setLink_classifier : (s.setLink l).classifier = s.classifier := rfl
@[simp] theorem setLink_stations : (s.setLink l).stations = s.stations := rfl
@[simp] theorem setLink_arbiter : (s.setLink l).arbiter = s.arbiter := rfl
@[simp] theorem setLink_slots : (s.setLink l).slots = s.slots := rfl
@[simp] theorem setLink_chamber : (s.setLink l).chamber = s.chamber := rfl
@[simp] theorem setLink_condenser : (s.setLink l).condenser = s.condenser := rfl
@[simp] theorem setLink_monitor : (s.setLink l).monitor = s.monitor := rfl
@[simp] theorem setLink_control : (s.setLink l).control = s.control := rfl
@[simp] theorem setLink_link : (s.setLink l).link = { s.link with state := l } := rfl
@[simp] theorem setLink_loop : (s.setLink l).loop = s.loop := rfl

end

/-! ## `State.issueFor` -/

section
variable (s : State) (b : Issuer) (n : Node) (k : OrderKind) (c : OrderCause)

@[simp] theorem issueFor_pending : (s.issueFor b n k c).pending = s.pending := rfl
@[simp] theorem issueFor_resetPin : (s.issueFor b n k c).resetPin = s.resetPin := rfl
@[simp] theorem issueFor_now : (s.issueFor b n k c).now = s.now := rfl
@[simp] theorem issueFor_freeCount : (s.issueFor b n k c).freeCount = s.freeCount + 1 := rfl
@[simp] theorem issueFor_register : (s.issueFor b n k c).register = s.register := rfl
@[simp] theorem issueFor_classifier : (s.issueFor b n k c).classifier = s.classifier := rfl
@[simp] theorem issueFor_stations : (s.issueFor b n k c).stations = s.stations := rfl
@[simp] theorem issueFor_arbiter : (s.issueFor b n k c).arbiter = s.arbiter := rfl
@[simp] theorem issueFor_slots : (s.issueFor b n k c).slots = s.slots := rfl
@[simp] theorem issueFor_chamber : (s.issueFor b n k c).chamber = s.chamber := rfl
@[simp] theorem issueFor_condenser : (s.issueFor b n k c).condenser = s.condenser := rfl
@[simp] theorem issueFor_monitor : (s.issueFor b n k c).monitor = s.monitor := rfl
@[simp] theorem issueFor_control : (s.issueFor b n k c).control = s.control := rfl
@[simp] theorem issueFor_link : (s.issueFor b n k c).link = s.link := rfl

end

/-! ## `State.issue` -/

section
variable (s : State) (b : Issuer) (n : Node) (k : OrderKind)

@[simp] theorem issue_pending : (s.issue b n k).pending = s.pending := rfl
@[simp] theorem issue_resetPin : (s.issue b n k).resetPin = s.resetPin := rfl
@[simp] theorem issue_now : (s.issue b n k).now = s.now := rfl
@[simp] theorem issue_freeCount : (s.issue b n k).freeCount = s.freeCount + 1 := rfl
@[simp] theorem issue_register : (s.issue b n k).register = s.register := rfl
@[simp] theorem issue_classifier : (s.issue b n k).classifier = s.classifier := rfl
@[simp] theorem issue_stations : (s.issue b n k).stations = s.stations := rfl
@[simp] theorem issue_arbiter : (s.issue b n k).arbiter = s.arbiter := rfl
@[simp] theorem issue_slots : (s.issue b n k).slots = s.slots := rfl
@[simp] theorem issue_chamber : (s.issue b n k).chamber = s.chamber := rfl
@[simp] theorem issue_condenser : (s.issue b n k).condenser = s.condenser := rfl
@[simp] theorem issue_monitor : (s.issue b n k).monitor = s.monitor := rfl
@[simp] theorem issue_control : (s.issue b n k).control = s.control := rfl
@[simp] theorem issue_link : (s.issue b n k).link = s.link := rfl

end

/-! ## `State.orderStation` -/

section
variable (s : State) (i : StationId) (k : OrderKind)

@[simp] theorem orderStation_pending : (s.orderStation i k).pending = s.pending := rfl
@[simp] theorem orderStation_resetPin : (s.orderStation i k).resetPin = s.resetPin := rfl
@[simp] theorem orderStation_now : (s.orderStation i k).now = s.now := rfl
@[simp] theorem orderStation_freeCount : (s.orderStation i k).freeCount = s.freeCount + 1 := rfl
@[simp] theorem orderStation_register : (s.orderStation i k).register = s.register := rfl
@[simp] theorem orderStation_classifier : (s.orderStation i k).classifier = s.classifier := rfl
@[simp] theorem orderStation_stations : (s.orderStation i k).stations = s.stations := rfl
@[simp] theorem orderStation_arbiter : (s.orderStation i k).arbiter = s.arbiter := rfl
@[simp] theorem orderStation_slots : (s.orderStation i k).slots = s.slots := rfl
@[simp] theorem orderStation_chamber : (s.orderStation i k).chamber = s.chamber := rfl
@[simp] theorem orderStation_condenser : (s.orderStation i k).condenser = s.condenser := rfl
@[simp] theorem orderStation_monitor : (s.orderStation i k).monitor = s.monitor := rfl
@[simp] theorem orderStation_control : (s.orderStation i k).control = s.control := rfl
@[simp] theorem orderStation_link : (s.orderStation i k).link = s.link := rfl

end

/-! ## `State.orderSampleValve` -/

section
variable (s : State) (i : StationId) (o : Bool)

@[simp] theorem orderSampleValve_pending : (s.orderSampleValve i o).pending = s.pending := rfl
@[simp] theorem orderSampleValve_resetPin : (s.orderSampleValve i o).resetPin = s.resetPin := rfl
@[simp] theorem orderSampleValve_now : (s.orderSampleValve i o).now = s.now := rfl
@[simp] theorem orderSampleValve_freeCount : (s.orderSampleValve i o).freeCount = s.freeCount + 1 := rfl
@[simp] theorem orderSampleValve_register : (s.orderSampleValve i o).register = s.register := rfl
@[simp] theorem orderSampleValve_classifier : (s.orderSampleValve i o).classifier = s.classifier := rfl
@[simp] theorem orderSampleValve_stations : (s.orderSampleValve i o).stations = s.stations := rfl
@[simp] theorem orderSampleValve_arbiter : (s.orderSampleValve i o).arbiter = s.arbiter := rfl
@[simp] theorem orderSampleValve_slots : (s.orderSampleValve i o).slots = s.slots := rfl
@[simp] theorem orderSampleValve_chamber : (s.orderSampleValve i o).chamber = s.chamber := rfl
@[simp] theorem orderSampleValve_condenser : (s.orderSampleValve i o).condenser = s.condenser := rfl
@[simp] theorem orderSampleValve_monitor : (s.orderSampleValve i o).monitor = s.monitor := rfl
@[simp] theorem orderSampleValve_control : (s.orderSampleValve i o).control = s.control := rfl
@[simp] theorem orderSampleValve_link : (s.orderSampleValve i o).link = s.link := rfl

end

/-! ## `State.orderTrain` -/

section
variable (s : State) (t : TrainId) (k : OrderKind)

@[simp] theorem orderTrain_pending : (s.orderTrain t k).pending = s.pending := rfl
@[simp] theorem orderTrain_resetPin : (s.orderTrain t k).resetPin = s.resetPin := rfl
@[simp] theorem orderTrain_now : (s.orderTrain t k).now = s.now := rfl
@[simp] theorem orderTrain_freeCount : (s.orderTrain t k).freeCount = s.freeCount + 1 := rfl
@[simp] theorem orderTrain_register : (s.orderTrain t k).register = s.register := rfl
@[simp] theorem orderTrain_classifier : (s.orderTrain t k).classifier = s.classifier := rfl
@[simp] theorem orderTrain_stations : (s.orderTrain t k).stations = s.stations := rfl
@[simp] theorem orderTrain_arbiter : (s.orderTrain t k).arbiter = s.arbiter := rfl
@[simp] theorem orderTrain_slots : (s.orderTrain t k).slots = s.slots := rfl
@[simp] theorem orderTrain_chamber : (s.orderTrain t k).chamber = s.chamber := rfl
@[simp] theorem orderTrain_condenser : (s.orderTrain t k).condenser = s.condenser := rfl
@[simp] theorem orderTrain_monitor : (s.orderTrain t k).monitor = s.monitor := rfl
@[simp] theorem orderTrain_control : (s.orderTrain t k).control = s.control := rfl
@[simp] theorem orderTrain_link : (s.orderTrain t k).link = s.link := rfl

end

/-! ## `State.orderChamber` -/

section
variable (s : State) (k : OrderKind)

@[simp] theorem orderChamber_pending : (s.orderChamber k).pending = s.pending := rfl
@[simp] theorem orderChamber_resetPin : (s.orderChamber k).resetPin = s.resetPin := rfl
@[simp] theorem orderChamber_now : (s.orderChamber k).now = s.now := rfl
@[simp] theorem orderChamber_freeCount : (s.orderChamber k).freeCount = s.freeCount + 1 := rfl
@[simp] theorem orderChamber_register : (s.orderChamber k).register = s.register := rfl
@[simp] theorem orderChamber_classifier : (s.orderChamber k).classifier = s.classifier := rfl
@[simp] theorem orderChamber_stations : (s.orderChamber k).stations = s.stations := rfl
@[simp] theorem orderChamber_arbiter : (s.orderChamber k).arbiter = s.arbiter := rfl
@[simp] theorem orderChamber_slots : (s.orderChamber k).slots = s.slots := rfl
@[simp] theorem orderChamber_chamber : (s.orderChamber k).chamber = s.chamber := rfl
@[simp] theorem orderChamber_condenser : (s.orderChamber k).condenser = s.condenser := rfl
@[simp] theorem orderChamber_monitor : (s.orderChamber k).monitor = s.monitor := rfl
@[simp] theorem orderChamber_control : (s.orderChamber k).control = s.control := rfl
@[simp] theorem orderChamber_link : (s.orderChamber k).link = s.link := rfl

end

/-! ## `State.orderBank` -/

section
variable (s : State) (k : OrderKind)

@[simp] theorem orderBank_pending : (s.orderBank k).pending = s.pending := rfl
@[simp] theorem orderBank_resetPin : (s.orderBank k).resetPin = s.resetPin := rfl
@[simp] theorem orderBank_now : (s.orderBank k).now = s.now := rfl
@[simp] theorem orderBank_freeCount : (s.orderBank k).freeCount = s.freeCount + 1 := rfl
@[simp] theorem orderBank_register : (s.orderBank k).register = s.register := rfl
@[simp] theorem orderBank_classifier : (s.orderBank k).classifier = s.classifier := rfl
@[simp] theorem orderBank_stations : (s.orderBank k).stations = s.stations := rfl
@[simp] theorem orderBank_arbiter : (s.orderBank k).arbiter = s.arbiter := rfl
@[simp] theorem orderBank_slots : (s.orderBank k).slots = s.slots := rfl
@[simp] theorem orderBank_chamber : (s.orderBank k).chamber = s.chamber := rfl
@[simp] theorem orderBank_condenser : (s.orderBank k).condenser = s.condenser := rfl
@[simp] theorem orderBank_monitor : (s.orderBank k).monitor = s.monitor := rfl
@[simp] theorem orderBank_control : (s.orderBank k).control = s.control := rfl
@[simp] theorem orderBank_link : (s.orderBank k).link = s.link := rfl

end

/-! ## `State.setPending` -/

section
variable (s : State) (q : List Instr)

@[simp] theorem setPending_pending : (s.setPending q).pending = q := rfl
@[simp] theorem setPending_resetPin : (s.setPending q).resetPin = s.resetPin := rfl
@[simp] theorem setPending_now : (s.setPending q).now = s.now := rfl
@[simp] theorem setPending_freeCount : (s.setPending q).freeCount = s.freeCount := rfl
@[simp] theorem setPending_register : (s.setPending q).register = s.register := rfl
@[simp] theorem setPending_classifier : (s.setPending q).classifier = s.classifier := rfl
@[simp] theorem setPending_stations : (s.setPending q).stations = s.stations := rfl
@[simp] theorem setPending_arbiter : (s.setPending q).arbiter = s.arbiter := rfl
@[simp] theorem setPending_slots : (s.setPending q).slots = s.slots := rfl
@[simp] theorem setPending_chamber : (s.setPending q).chamber = s.chamber := rfl
@[simp] theorem setPending_condenser : (s.setPending q).condenser = s.condenser := rfl
@[simp] theorem setPending_monitor : (s.setPending q).monitor = s.monitor := rfl
@[simp] theorem setPending_control : (s.setPending q).control = s.control := rfl
@[simp] theorem setPending_link : (s.setPending q).link = s.link := rfl
@[simp] theorem setPending_loop : (s.setPending q).loop = s.loop := rfl

end

/-! ## Reading after writing -/

theorem get_set_self {α : Type} {n : Nat} (v : Vector α n) (i : Fin n) (x : α) :
    (v.set i.val x i.isLt).get i = x :=
  Vector.getElem_set_self i.isLt

theorem get_set_ne {α : Type} {n : Nat} (v : Vector α n) (i j : Fin n) (x : α) (h : i ≠ j) :
    (v.set i.val x i.isLt).get j = v.get j :=
  Vector.getElem_set_ne i.isLt j.isLt fun e => h (Fin.ext e)

@[simp] theorem station_setStation (s : State) (i : StationId) (x : Station) :
    (s.setStation i x).station i = x := get_set_self _ _ _

theorem station_setStation_ne (s : State) (i j : StationId) (x : Station) (h : i ≠ j) :
    (s.setStation i x).station j = s.station j := get_set_ne _ _ _ _ h

@[simp] theorem station_onStation (s : State) (i : StationId) (f : Station → Station) :
    (s.onStation i f).station i = f (s.station i) := station_setStation ..

theorem station_onStation_ne (s : State) (i j : StationId) (f : Station → Station) (h : i ≠ j) :
    (s.onStation i f).station j = s.station j := station_setStation_ne _ _ _ _ h

@[simp] theorem train_setTrain (s : State) (t : TrainId) (x : Train) :
    (s.setTrain t x).train t = x := get_set_self _ _ _

theorem train_setTrain_ne (s : State) (t u : TrainId) (x : Train) (h : t ≠ u) :
    (s.setTrain t x).train u = s.train u := get_set_ne _ _ _ _ h

@[simp] theorem train_onTrain (s : State) (t : TrainId) (f : Train → Train) :
    (s.onTrain t f).train t = f (s.train t) := train_setTrain ..

theorem train_onTrain_ne (s : State) (t u : TrainId) (f : Train → Train) (h : t ≠ u) :
    (s.onTrain t f).train u = s.train u := train_setTrain_ne _ _ _ _ h

@[simp] theorem slot_setSlot (s : State) (k : SlotId) (x : Slot) :
    (s.setSlot k x).slot k = x := get_set_self _ _ _

theorem slot_setSlot_ne (s : State) (k j : SlotId) (x : Slot) (h : k ≠ j) :
    (s.setSlot k x).slot j = s.slot j := get_set_ne _ _ _ _ h

@[simp] theorem bank_setBank (s : State) (bk : BankId) (x : Bank) :
    (s.setBank bk x).bank bk = x := by
  cases bk <;> rfl

@[simp] theorem bank_setBank_other (s : State) (bk : BankId) (x : Bank) :
    (s.setBank bk x).bank (otherBank bk) = s.bank (otherBank bk) := by
  cases bk <;> rfl

@[simp] theorem bank_onBank (s : State) (bk : BankId) (f : Bank → Bank) :
    (s.onBank bk f).bank bk = f (s.bank bk) := bank_setBank ..

@[simp] theorem bank_onBank_other (s : State) (bk : BankId) (f : Bank → Bank) :
    (s.onBank bk f).bank (otherBank bk) = s.bank (otherBank bk) := bank_setBank_other ..

@[simp] theorem started_onBank (s : State) (bk : BankId) (f : Bank → Bank) :
    (s.onBank bk f).condenser.started = s.condenser.started := by
  cases bk <;> rfl

@[simp] theorem lastDrainBank_onBank (s : State) (bk : BankId) (f : Bank → Bank) :
    (s.onBank bk f).condenser.lastDrainBank = s.condenser.lastDrainBank := by
  cases bk <;> rfl

/-- A node's index names it: the polling round has a place of its own for every node. -/
theorem nodeAt_nodeIndex (n : Node) : nodeAt (nodeIndex n) = n := by
  cases n with
  | station i => revert i; decide
  | train t => revert t; decide
  | _ => rfl

theorem nodeIndex_injective {m n : Node} (h : nodeIndex m = nodeIndex n) : m = n := by
  rw [← nodeAt_nodeIndex m, h, nodeAt_nodeIndex]

@[simp] theorem node_setNode (s : State) (n : Node) (x : NodeState) :
    (s.setNode n x).node n = x := get_set_self _ _ _

theorem node_setNode_ne (s : State) (m n : Node) (x : NodeState) (h : m ≠ n) :
    (s.setNode m x).node n = s.node n :=
  get_set_ne _ _ _ _ fun e => h (nodeIndex_injective e)

/-! ## The orders after an issue (R192) -/

/-- An issued order stands last among the orders, with the next number, its deadline and its cause. -/
theorem issueFor_orders (s : State) (b : Issuer) (n : Node) (k : OrderKind) (c : OrderCause) :
    (s.issueFor b n k c).loop.orders = s.loop.orders ++
      [{ number := s.orderNumber, node := n, kind := k, issuer := b
         deadline := s.now + orderTimeoutOf k, acknowledged := false, cause := c }] := rfl

theorem issue_orders (s : State) (b : Issuer) (n : Node) (k : OrderKind) :
    (s.issue b n k).loop.orders = s.loop.orders ++
      [{ number := s.orderNumber, node := n, kind := k, issuer := b
         deadline := s.now + orderTimeoutOf k, acknowledged := false, cause := .work }] := rfl

@[simp] theorem issueFor_nodes (s : State) (b : Issuer) (n : Node) (k : OrderKind) (c : OrderCause) :
    (s.issueFor b n k c).loop.nodes = s.loop.nodes := rfl

@[simp] theorem issueFor_nextPoll (s : State) (b : Issuer) (n : Node) (k : OrderKind)
    (c : OrderCause) : (s.issueFor b n k c).loop.nextPoll = s.loop.nextPoll := rfl

@[simp] theorem issue_nodes (s : State) (b : Issuer) (n : Node) (k : OrderKind) :
    (s.issue b n k).loop.nodes = s.loop.nodes := rfl

@[simp] theorem issue_nextPoll (s : State) (b : Issuer) (n : Node) (k : OrderKind) :
    (s.issue b n k).loop.nextPoll = s.loop.nextPoll := rfl

/-! ## Applying an operation for each item -/

@[simp] theorem forAll_nil {α : Type} (s : State) (f : State → α → State) : forAll [] s f = s := rfl

@[simp] theorem forAll_cons {α : Type} (x : α) (xs : List α) (s : State) (f : State → α → State) :
    forAll (x :: xs) s f = forAll xs (f s x) f := rfl

/-- What each application keeps, the whole keeps. -/
theorem forAll_keeps {α : Type} (P : State → Prop) (f : State → α → State)
    (h : ∀ s x, P s → P (f s x)) (xs : List α) (s : State) (hs : P s) : P (forAll xs s f) := by
  induction xs generalizing s with
  | nil => exact hs
  | cons x xs ih => exact ih _ (h _ _ hs)

end Sys2Proof.Laws
end

