-- ==== Sys2Proof/Laws/Changes.lean ====
section
/-!
SUPPORT. What any effect of the HB-740 can do to the state, said once: `Changes p s t`, when `t` comes
from `s` by a run of primitive changes (`Change p`), each of which carries what the invariants of
Safety.lean need.  `p` permits what the blocks do not change by themselves: what only a command line or a
clear reset changes (the interface, the settings, the masks, the path lists, the signature table, records
that join or leave the tables), and what only an event from outside changes (the moment, the nodes, the
poll, a line kept in the empty buffer).

`Changes.keeps` turns a property that every primitive change keeps into one that every effect keeps;
the lemmas of Laws/Effects.lean say of every operation that it is a run of such changes.
-/

namespace Sys2Proof.Laws

open Sys2Proof.Machine

/-! ## Changes of one block -/

/-- A write to a record: the tag stands, and sound books stay sound. -/
def RecordKept (r r' : UnitRecord) : Prop := r'.tag = r.tag ∧ (r.sound → r'.sound)

/-- The changes of the register. -/
inductive RegisterStep : Bool → UnitRegister → UnitRegister → Prop
  | write {b : Bool} (u : UnitRegister) (f : UnitRecord → UnitRecord)
      (h : ∀ r, RecordKept r (f r)) : RegisterStep b u { u with units := u.units.map f }
  | toLog {b : Bool} (u : UnitRegister) (tag : Tag) (r : UnitRecord) (d : Disposition)
      (h : (u.units.find? fun x => x.tag == tag) = some r) (room : u.log.length < Config.logSize)
      (none : u.closing = []) :
      RegisterStep b u
        { u with units := u.units.filter fun x => x.tag != tag
                 log := u.log ++ [r.closed d] }
  | toClosing {b : Bool} (u : UnitRegister) (tag : Tag) (r : UnitRecord) (d : Disposition)
      (h : (u.units.find? fun x => x.tag == tag) = some r)
      (full : ¬ (u.log.length < Config.logSize ∧ u.closing = [])) :
      RegisterStep b u
        { u with units := u.units.filter fun x => x.tag != tag
                 closing := u.closing ++ [{ r.closed d with place := some .closing }]
                 logFull := true }
  | add (u : UnitRegister) (r : UnitRecord) (hr : r.sound)
      (new : ((u.units ++ u.closing).find? fun x => x.tag == r.tag) = none)
      (room : u.units.length + u.closing.length < Config.registerSize) :
      RegisterStep true u { u with units := u.units ++ [r] }
  | take (u : UnitRegister) (n : Nat) : RegisterStep true u (u.take n)
  | empty (u : UnitRegister) :
      RegisterStep true u { units := [], closing := [], log := [], logFull := false }

/-- The changes of the Condition Monitor. -/
inductive MonitorStep : Bool → Monitor → Monitor → Prop
  | enter {b : Bool} (m : Monitor) (kind : ConditionKind) (origin : Origin) (detail : Detail) :
      MonitorStep b m (m.enter kind origin detail)
  | attn {b : Bool} (m : Monitor) (level : Bool) : MonitorStep b m { m with attn := level }
  | masks (m : Monitor) (x : Masks) : MonitorStep true m { m with masks := x }
  | report (m : Monitor) :
      MonitorStep true m { m with entries := leftEntries m.masks m.entries, overflow := false }
  | empty (m : Monitor) : MonitorStep true m { m with entries := [], overflow := false }

/-- The HALT pin is asserted exactly in HALTED. -/
def haltAgrees (c : LineControl) : Prop := c.haltPin = (c.line == .halted)

/-- What a change of Line Control keeps: the settings, or by a command their bounds, the HALT pin's agreement with the line,
credits in STEP only, and the watch list's soundness. -/
structure ControlKept (b : Bool) (c c' : LineControl) : Prop where
  settings : c'.settings = c.settings ∨ b = true ∧ ∃ name v,
    settingLow c.settings name ≤ v ∧ v ≤ settingHigh c.settings name ∧
      c'.settings = writeSetting c.settings name v
  halt : haltAgrees c → haltAgrees c'
  stepOnly : c.stepOnly → c'.stepOnly
  watch : c.watchSound → c'.watchSound

/-- A line that ends in its check (R185). -/
def Sealed (l : Text) : Prop := ∃ body, l = sealLine body

@[simp] theorem sealed_sealLine (body : Text) : Sealed (sealLine body) := ⟨body, rfl⟩

@[simp] theorem sealed_okLine (w : CommandWord) (fields : Text) : Sealed (okLine w fields) := ⟨_, rfl⟩

@[simp] theorem sealed_noLine (w : CommandWord) (r : Reason) : Sealed (noLine w r) := ⟨_, rfl⟩

@[simp] theorem sealed_framingLine (f : FramingReply) : Sealed (framingLine f) := ⟨_, rfl⟩

@[simp] theorem sealed_lineField (w : CommandWord) (l : LineState) : Sealed (lineField w l) := ⟨_, rfl⟩

@[simp] theorem sealed_unitLine (r : UnitRecord) : Sealed r.sentLine := ⟨_, rfl⟩

@[simp] theorem sealed_conditionLine (e : ConditionEntry) : Sealed e.line := ⟨_, rfl⟩

@[simp] theorem sealed_loadReply (l : Load) : Sealed (loadReply l) := by
  unfold loadReply
  split <;> simp

@[simp] theorem sealed_queryReply (s : State) (tag : Tag) (final : Bool) :
    Sealed (s.queryReply tag final) := by
  unfold State.queryReply
  split <;> simp

/-! ## A primitive change -/

/-- What a run of changes may change beside what the blocks change by themselves. -/
structure Permit where
  commands : Bool
  loop : Bool

/-- One primitive change of the state.  None touches the queue of commands or the RESET pin. -/
inductive Change : Permit → State → State → Prop
  | station {p : Permit} (s : State) (i : StationId) (x : Station) : Change p s (s.setStation i x)
  | train {p : Permit} (s : State) (t : TrainId) (x : Train) : Change p s (s.setTrain t x)
  | slot {p : Permit} (s : State) (k : SlotId) (x : Slot) : Change p s (s.setSlot k x)
  | bank {p : Permit} (s : State) (bk : BankId) (x : Bank)
      (condenses : x.state = .condensing → (s.bank bk).state = .condensing ∨
        (s.bank (otherBank bk)).state ≠ .condensing)
      (drains : x.drainSlot.isSome = true → (s.bank bk).drainSlot.isSome = true ∨
        (s.bank (otherBank bk)).drainSlot.isSome = false) :
      Change p s (s.setBank bk x)
  | marks {p : Permit} (s : State) (started : Bool) (last : Option BankId) :
      Change p s { s with condenser :=
        { s.condenser with started := started, lastDrainBank := last } }
  | chamber {p : Permit} (s : State) (c : Chamber) (h : s.chamber.feedSound → c.feedSound) :
      Change p s { s with chamber := c }
  | register {p : Permit} (s : State) (u : UnitRegister) (h : RegisterStep p.commands s.register u) :
      Change p s { s with register := u }
  | requests {p : Permit} (s : State) (q : List Request)
      (h : s.arbiter.requestsSound → ({ s.arbiter with requests := q } : Arbiter).requestsSound) :
      Change p s (s.setRequests q)
  | paths {l : Bool} (s : State) (i : StationId) (ts : List TrainId)
      (h : ts ≠ [] ∧ ts.length ≤ 4 ∧ ts.Nodup) :
      Change ⟨true, l⟩ s { s with arbiter :=
        { s.arbiter with paths := s.arbiter.paths.set i.val ts i.isLt } }
  | queue {p : Permit} (s : State) (q : List StationId) (h : s.classifier.queue.Nodup → q.Nodup) :
      Change p s (s.setQueue q)
  | cycle {p : Permit} (s : State) (c : Option SampleCycle) : Change p s (s.setCycle c)
  | table {l : Bool} (s : State) (t : Vector (Option Signature) 16) :
      Change ⟨true, l⟩ s { s with classifier := { s.classifier with table := t } }
  | issue {p : Permit} (s : State) (who : Issuer) (n : Node) (k : OrderKind) (c : OrderCause) :
      Change p s (s.issueFor who n k c)
  | orders {p : Permit} (s : State) (q : List Order)
      (h : ∀ o ∈ q, ∃ p ∈ s.loop.orders, p.number = o.number) : Change p s (s.setOrders q)
  | node {c : Bool} (s : State) (n : Node) (x : NodeState) : Change ⟨c, true⟩ s (s.setNode n x)
  | poll {c : Bool} (s : State) (k : Fin 17) (p : Option Poll) :
      Change ⟨c, true⟩ s { s with loop := { s.loop with nextPoll := k, lastPoll := p } }
  | monitor {p : Permit} (s : State) (m : Monitor) (h : MonitorStep p.commands s.monitor m) :
      Change p s (s.setMonitor m)
  | control {p : Permit} (s : State) (c : LineControl) (h : ControlKept p.commands s.control c) :
      Change p s (s.setControl c)
  | link {l : Bool} (s : State) (x : CommandLine)
      (h : ∀ y ∈ x.sent, y ∈ s.link.sent ∨ Sealed y)
      (buffered : l = true ∨ (s.link.buffer = none → x.buffer = none)) :
      Change ⟨true, l⟩ s { s with link := x }
  | time {c : Bool} (s : State) (now : Moment) : Change ⟨c, true⟩ s { s with now := now }
  | count {p : Permit} (s : State) (n : Nat) : Change p s { s with freeCount := n }

/-- A run of primitive changes. -/
inductive Changes (p : Permit) : State → State → Prop
  | refl (s : State) : Changes p s s
  | step {s t u : State} (h : Changes p s t) (c : Change p t u) : Changes p s u

theorem Changes.trans {p : Permit} {s t u : State} (h : Changes p s t) (h' : Changes p t u) :
    Changes p s u := by
  induction h' with
  | refl => exact h
  | step _ c ih => exact ih.step c

theorem Change.changes {p : Permit} {s t : State} (c : Change p s t) : Changes p s t := (Changes.refl s).step c

/-- What every primitive change keeps, a run of them keeps. -/
theorem Changes.keeps {p : Permit} {P : State → Prop} (hP : ∀ s t, Change p s t → P s → P t)
    {s t : State} (h : Changes p s t) (hs : P s) : P t := by
  induction h with
  | refl => exact hs
  | step _ c ih => exact hP _ _ c ih

/-- A quantity that every primitive change leaves alone, a run of them leaves alone. -/
theorem Changes.same {p : Permit} {α : Sort _} (q : State → α)
    (hq : ∀ s t, Change p s t → q t = q s) {s t : State} (h : Changes p s t) : q t = q s :=
  h.keeps (P := fun u => q u = q s) (fun _ _ c e => (hq _ _ c).trans e) rfl

/-- No effect touches the queue of commands. -/
theorem Changes.pending {p : Permit} {s t : State} (h : Changes p s t) : t.pending = s.pending :=
  h.same (·.pending) fun _ _ c => by cases c <;> simp

/-- No effect touches the RESET pin. -/
theorem Changes.resetPin {p : Permit} {s t : State} (h : Changes p s t) : t.resetPin = s.resetPin :=
  h.same (·.resetPin) fun _ _ c => by cases c <;> simp

/-- What a step makes of the register, a command may make of it too. -/
theorem RegisterStep.loud {b : Bool} {u v : UnitRegister} (h : RegisterStep b u v) :
    RegisterStep true u v := by
  cases h <;> constructor <;> assumption

theorem MonitorStep.loud {b : Bool} {m n : Monitor} (h : MonitorStep b m n) :
    MonitorStep true m n := by
  cases h <;> constructor

theorem ControlKept.loud {b : Bool} {c c' : LineControl} (h : ControlKept b c c') :
    ControlKept true c c' where
  settings := h.settings.imp_right fun e => ⟨rfl, e.2⟩
  halt := h.halt
  stepOnly := h.stepOnly
  watch := h.watch

/-- A change that less permits, the whole permit allows. -/
theorem Change.loud {p : Permit} {s t : State} (h : Change p s t) : Change ⟨true, true⟩ s t := by
  cases h
  case register h => exact .register _ _ h.loud
  case monitor h => exact .monitor _ _ h.loud
  case control h => exact .control _ _ h.loud
  case link h _ => exact .link _ _ h (.inl rfl)
  all_goals constructor <;> assumption

theorem Changes.loud {p : Permit} {s t : State} (h : Changes p s t) :
    Changes ⟨true, true⟩ s t := by
  induction h with
  | refl => exact .refl _
  | step _ c ih => exact ih.step c.loud

/-! ## What the blocks leave alone by themselves -/

section
variable {c l : Bool} {s t : State}

theorem Changes.link (h : Changes ⟨false, l⟩ s t) : t.link = s.link :=
  h.same (·.link) fun _ _ c => by cases c <;> simp

theorem Changes.settings (h : Changes ⟨false, l⟩ s t) :
    t.control.settings = s.control.settings :=
  h.same (·.control.settings) fun _ _ c => by
    cases c
    case control h => rcases h.settings with e | e <;> simp_all
    all_goals simp

theorem Changes.masks (h : Changes ⟨false, l⟩ s t) : t.monitor.masks = s.monitor.masks :=
  h.same (·.monitor.masks) fun _ _ c => by
    cases c
    case monitor h =>
      cases h
      case enter =>
        unfold Monitor.enter
        dsimp only [setMonitor_monitor]
        (repeat' split) <;> rfl
      case attn => rfl
    all_goals simp

theorem Changes.paths (h : Changes ⟨false, l⟩ s t) : t.arbiter.paths = s.arbiter.paths :=
  h.same (·.arbiter.paths) fun _ _ c => by cases c <;> simp

theorem Changes.table (h : Changes ⟨false, l⟩ s t) : t.classifier.table = s.classifier.table :=
  h.same (·.classifier.table) fun _ _ c => by cases c <;> simp

theorem Changes.now (h : Changes ⟨c, false⟩ s t) : t.now = s.now :=
  h.same (·.now) fun _ _ c => by cases c <;> simp

theorem Changes.nodes (h : Changes ⟨c, false⟩ s t) : t.loop.nodes = s.loop.nodes :=
  h.same (·.loop.nodes) fun _ _ c => by cases c <;> simp

theorem Changes.node (h : Changes ⟨c, false⟩ s t) (n : Node) : t.node n = s.node n := by
  unfold State.node
  rw [h.nodes]

theorem Changes.lastPoll (h : Changes ⟨c, false⟩ s t) :
    t.loop.nextPoll = s.loop.nextPoll ∧ t.loop.lastPoll = s.loop.lastPoll :=
  ⟨h.same (·.loop.nextPoll) fun _ _ c => by cases c <;> first | rfl | simp,
    h.same (·.loop.lastPoll) fun _ _ c => by cases c <;> first | rfl | simp⟩

/-- Only a line from outside fills the empty buffer (R187). -/
theorem Changes.buffer (h : Changes ⟨c, false⟩ s t) (empty : s.link.buffer = none) :
    t.link.buffer = none :=
  h.keeps (P := fun u => u.link.buffer = none) (fun _ _ c e => by
    cases c
    case link kept => exact kept.resolve_left nofun e
    all_goals simpa using e) empty

end

end Sys2Proof.Laws
end

