-- ==== Sys2Proof/Laws/Effects.lean ====
section
/-!
SUPPORT. Every operation of the model is a run of primitive changes: `<operation>_changes`, in the form
"a run of changes up to `s` goes on through the operation", so that the lemmas chain along a meaning.
-/

namespace Sys2Proof.Laws

open Sys2Proof.Machine

section
variable {π : Permit} {b cmd fl : Bool} {s₀ s : State}

/-! ## Writes to a record -/

@[simp] theorem recordKept_of_same {r r' : UnitRecord} (tag : r'.tag = r.tag) (total : r'.total = r.total)
    (allocations : r'.allocations = r.allocations) (agent : r'.agent = r.agent)
    (windows : r'.windows = r.windows) (evacuations : r'.evacuations = r.evacuations) :
    RecordKept r r' := by
  refine ⟨tag, fun h => ?_⟩
  simpa [UnitRecord.sound, UnitRecord.booked, UnitRecord.shared, total, allocations, agent, windows,
    evacuations] using h

@[simp] theorem recordKept_refl (r : UnitRecord) : RecordKept r r := ⟨rfl, id⟩

@[simp] theorem recordKept_classify (r : UnitRecord) (m : RefrigerantClass)
    (bands : Option (Vector Nat 6)) (hit : Option SignatureId) :
    RecordKept r (r.classify m bands hit) := recordKept_of_same rfl rfl rfl rfl rfl rfl

@[simp] theorem recordKept_countEvacuation (r : UnitRecord) : RecordKept r r.countEvacuation := by
  refine ⟨rfl, fun h => ?_⟩
  unfold UnitRecord.sound at *
  refine ⟨h.1, h.2.1, h.2.2.1, h.2.2.2.1, ?_⟩
  unfold UnitRecord.countEvacuation
  dsimp only
  split <;> omega

theorem closed_countP (l : List Allocation) : (l.map Allocation.close).countP (·.isOpen) = 0 := by
  induction l <;> simp_all [Allocation.close]

theorem closed_grams (l : List Allocation) :
    (l.map Allocation.close).map (·.grams) = l.map (·.grams) := by
  simp [Function.comp_def, Allocation.close]

@[simp] theorem recordKept_closeEntry (r : UnitRecord) : RecordKept r r.closeEntry := by
  refine ⟨rfl, fun h => ⟨?_, ?_, ?_, h.2.2.2⟩⟩
  · simp only [UnitRecord.closeEntry, UnitRecord.booked, closed_grams]; exact h.1
  · simpa [UnitRecord.closeEntry] using h.2.1
  · simp only [UnitRecord.closeEntry, closed_countP]; omega

@[simp] theorem recordKept_openEntry (r : UnitRecord) (k : SlotId) (v : Nat) :
    RecordKept r (r.openEntry k v) := by
  unfold UnitRecord.openEntry
  split
  · exact recordKept_refl r
  · rename_i full
    refine ⟨rfl, fun h => ⟨?_, ?_, ?_, h.2.2.2⟩⟩
    · simp only [UnitRecord.closeEntry, UnitRecord.booked, List.map_append, closed_grams]
      simpa [UnitRecord.booked] using h.1
    · simp only [UnitRecord.closeEntry, List.length_append, List.length_map, List.length_singleton]
      omega
    · simp [UnitRecord.closeEntry, List.countP_append, Allocation.close]

theorem addToOpen_grams (d : Grams) (l : List Allocation) (h : l.any (·.isOpen) = true) :
    ((addToOpen d l).map (·.grams)).sum = (l.map (·.grams)).sum + d := by
  induction l with
  | nil => simp at h
  | cons e es ih =>
    unfold addToOpen
    split
    · exact Nat.add_right_comm ..
    · have : es.any (·.isOpen) = true := by simp_all
      simp only [List.map_cons, List.sum_cons, ih this]
      exact (Nat.add_assoc ..).symm

theorem addToLast_grams (d : Grams) (l : List Allocation) (h : l ≠ []) :
    ((addToLast d l).map (·.grams)).sum = (l.map (·.grams)).sum + d := by
  induction l with
  | nil => simp at h
  | cons e es ih =>
    cases es with
    | nil => simp [addToLast]
    | cons e' es' =>
      have e := ih (by simp)
      simp only [addToLast, List.map_cons, List.sum_cons] at e ⊢
      rw [e]
      exact (Nat.add_assoc ..).symm

theorem addToOpen_isOpen (d : Grams) (l : List Allocation) :
    (addToOpen d l).map (·.isOpen) = l.map (·.isOpen) := by
  induction l with
  | nil => rfl
  | cons e es ih => unfold addToOpen; split <;> simp_all

theorem addToLast_isOpen (d : Grams) (l : List Allocation) :
    (addToLast d l).map (·.isOpen) = l.map (·.isOpen) := by
  induction l with
  | nil => rfl
  | cons e es ih => cases es <;> simp_all [addToLast]

theorem countP_isOpen (l : List Allocation) :
    l.countP (·.isOpen) = (l.map (·.isOpen)).countP id := by
  rw [List.countP_map]; rfl

@[simp] theorem recordKept_book (r : UnitRecord) (d : Grams) : RecordKept r (r.book d) := by
  unfold UnitRecord.book
  split
  · exact recordKept_refl r
  · rename_i some
    refine ⟨rfl, fun h => ⟨?_, ?_, ?_, h.2.2.2⟩⟩
    · have e := h.1
      simp only [UnitRecord.booked] at e ⊢
      split
      · rename_i o; rw [addToOpen_grams d _ (by simpa [UnitRecord.hasOpenEntry] using o), ← e]
      · rw [addToLast_grams d _ (by simpa using some), ← e]
    · have e := h.2.1
      dsimp only
      split
      · rw [← List.length_map (f := (·.isOpen)), addToOpen_isOpen]; simpa using e
      · rw [← List.length_map (f := (·.isOpen)), addToLast_isOpen]; simpa using e
    · have e := h.2.2.1
      rw [countP_isOpen] at e ⊢
      dsimp only
      split
      · rw [addToOpen_isOpen]; exact e
      · rw [addToLast_isOpen]; exact e

@[simp] theorem recordKept_addWindow (r : UnitRecord) (bk : BankId) (foam : Option Grams) :
    RecordKept r (r.addWindow bk foam) := by
  refine ⟨rfl, fun h => ?_⟩
  simpa [UnitRecord.addWindow, UnitRecord.sound, UnitRecord.shared, UnitRecord.booked] using h

theorem setLastFoam_shares (g : Grams) (l : List WindowEntry) :
    (setLastFoam g l).map (fun w => w.share.getD 0) = l.map fun w => w.share.getD 0 := by
  induction l with
  | nil => rfl
  | cons w ws ih => cases ws <;> simp_all [setLastFoam]

@[simp] theorem recordKept_lastFoam (r : UnitRecord) (g : Grams) :
    RecordKept r { r with windows := setLastFoam g r.windows } := by
  refine ⟨rfl, fun h => ?_⟩
  simpa [UnitRecord.sound, UnitRecord.shared, UnitRecord.booked, setLastFoam_shares] using h

theorem setShare_shares (bk : BankId) (g : Grams) (l : List WindowEntry)
    (h : (l.any fun w => w.bank == bk && w.share.isNone) = true) :
    ((setShare bk g l).map fun w => w.share.getD 0).sum = (l.map fun w => w.share.getD 0).sum + g := by
  induction l with
  | nil => simp at h
  | cons w ws ih =>
    unfold setShare
    split
    · rename_i c
      have : w.share = none := by simp_all
      simp only [List.map_cons, List.sum_cons, this, Option.getD_some, Option.getD_none]
      exact (Nat.add_comm ..).trans (by rw [Nat.zero_add])
    · have : (ws.any fun w => w.bank == bk && w.share.isNone) = true := by
        simp only [List.any_cons, Bool.or_eq_true] at h
        rcases h with h | h
        · contradiction
        · exact h
      simp only [List.map_cons, List.sum_cons, ih this]
      exact (Nat.add_assoc ..).symm

@[simp] theorem recordKept_takeShare (r : UnitRecord) (bk : BankId) (g : Grams) (e : Bool) :
    RecordKept r (r.takeShare bk g e) := by
  unfold UnitRecord.takeShare
  split
  · rename_i w
    refine ⟨rfl, fun h => ?_⟩
    obtain ⟨h1, h2, h3, h4, h5⟩ := h
    refine ⟨h1, h2, h3, ?_, h5⟩
    simp only [UnitRecord.shared] at h4 ⊢
    rw [setShare_shares bk g _ w, h4]
  · exact recordKept_refl r

/-! ## The primitive changes -/

@[simp] theorem changes_refl : Changes π s s := .refl s

@[simp] theorem setStation_changes (i : StationId) (x : Station) (h : Changes π s₀ s) :
    Changes π s₀ (s.setStation i x) := h.step (.station ..)

@[simp] theorem onStation_changes (i : StationId) (f : Station → Station) (h : Changes π s₀ s) :
    Changes π s₀ (s.onStation i f) := h.step (.station ..)

@[simp] theorem setTrain_changes (t : TrainId) (x : Train) (h : Changes π s₀ s) :
    Changes π s₀ (s.setTrain t x) := h.step (.train ..)

@[simp] theorem onTrain_changes (t : TrainId) (f : Train → Train) (h : Changes π s₀ s) :
    Changes π s₀ (s.onTrain t f) := h.step (.train ..)

@[simp] theorem setSlot_changes (k : SlotId) (x : Slot) (h : Changes π s₀ s) :
    Changes π s₀ (s.setSlot k x) := h.step (.slot ..)

@[simp] theorem onVessel_changes (k : SlotId) (f : Vessel → Vessel) (h : Changes π s₀ s) :
    Changes π s₀ (s.onVessel k f) := h.step (.slot ..)

/-- A change of a bank that neither enters CONDENSING nor takes a drain slot. -/
@[simp] theorem onBank_changes (bk : BankId) (f : Bank → Bank)
    (state : ∀ x, (f x).state = .condensing → x.state = .condensing)
    (slot : ∀ x, (f x).drainSlot.isSome = true → x.drainSlot.isSome = true) (h : Changes π s₀ s) :
    Changes π s₀ (s.onBank bk f) :=
  h.step (.bank _ _ _ (fun e => .inl (state _ e)) fun e => .inl (slot _ e))

theorem chamber_changes (f : Chamber → Chamber)
    (feed : (f s.chamber).feed.length ≤ s.chamber.feed.length) (h : Changes π s₀ s) :
    Changes π s₀ (s.onChamber f) :=
  h.step (.chamber _ _ fun e => Nat.le_trans feed e)

/-- A change of the chamber that does not lengthen the feed queue. -/
@[simp] theorem onChamber_changes (f : Chamber → Chamber)
    (feed : ∀ c, (f c).feed.length ≤ c.feed.length) (h : Changes π s₀ s) :
    Changes π s₀ (s.onChamber f) :=
  chamber_changes f (feed _) h

@[simp] theorem onUnit_changes (tag : Tag) (f : UnitRecord → UnitRecord)
    (kept : ∀ r, RecordKept r (f r)) (h : Changes π s₀ s) : Changes π s₀ (s.onUnit tag f) := by
  refine h.step (.register _ _ (.write _ _ fun r => ?_))
  split
  · exact kept r
  · exact recordKept_refl r

@[simp] theorem setCycle_changes (c : Option SampleCycle) (h : Changes π s₀ s) :
    Changes π s₀ (s.setCycle c) := h.step (.cycle ..)

@[simp] theorem setNode_changes (n : Node) (x : NodeState) (h : Changes ⟨cmd, true⟩ s₀ s) :
    Changes ⟨cmd, true⟩ s₀ (s.setNode n x) := h.step (.node ..)

@[simp] theorem send_changes (lines : List Text) (sealed : ∀ l ∈ lines, Sealed l)
    (h : Changes ⟨true, fl⟩ s₀ s) : Changes ⟨true, fl⟩ s₀ (s.send lines) :=
  h.step (.link _ _ (fun l hl => (List.mem_append.1 hl).imp_right (sealed l)) (.inr id))

@[simp] theorem setLink_changes (l : LinkState) (h : Changes ⟨true, fl⟩ s₀ s) : Changes ⟨true, fl⟩ s₀ (s.setLink l) :=
  h.step (.link _ _ (fun _ hl => .inl hl) (.inr id))

@[simp] theorem issueFor_changes (who : Issuer) (n : Node) (k : OrderKind) (c : OrderCause)
    (h : Changes π s₀ s) : Changes π s₀ (s.issueFor who n k c) := h.step (.issue ..)

@[simp] theorem issue_changes (who : Issuer) (n : Node) (k : OrderKind) (h : Changes π s₀ s) :
    Changes π s₀ (s.issue who n k) := issueFor_changes _ _ _ _ h

/-- Requests leave the list. -/
@[simp] theorem setRequests_changes (q : List Request) (fewer : q.Sublist s.arbiter.requests)
    (h : Changes π s₀ s) : Changes π s₀ (s.setRequests q) :=
  h.step (.requests _ _ fun e => ⟨e.1.sublist fewer, e.2.sublist (fewer.map _)⟩)

/-- Stations leave the queue. -/
@[simp] theorem setQueue_changes (q : List StationId) (fewer : q.Sublist s.classifier.queue)
    (h : Changes π s₀ s) : Changes π s₀ (s.setQueue q) := h.step (.queue _ _ fun e => e.sublist fewer)

/-- Outstanding orders end, or change all but their numbers. -/
@[simp] theorem setOrders_changes (q : List Order)
    (held : ∀ o ∈ q, ∃ p ∈ s.loop.orders, p.number = o.number) (h : Changes π s₀ s) :
    Changes π s₀ (s.setOrders q) := h.step (.orders _ _ held)

@[simp] theorem setMonitor_changes (m : Monitor) (step : MonitorStep π.commands s.monitor m)
    (h : Changes π s₀ s) : Changes π s₀ (s.setMonitor m) := h.step (.monitor _ _ step)

theorem register_changes (u : UnitRegister) (step : RegisterStep π.commands s.register u) (h : Changes π s₀ s) :
    Changes π s₀ { s with register := u } := h.step (.register _ _ step)

@[simp] theorem enter_changes (kind : ConditionKind) (origin : Origin) (detail : Detail)
    (h : Changes π s₀ s) : Changes π s₀ (s.setMonitor (s.monitor.enter kind origin detail)) :=
  h.step (.monitor _ _ (.enter ..))

theorem control_changes (c : LineControl) (kept : ControlKept π.commands s.control c) (h : Changes π s₀ s) :
    Changes π s₀ (s.setControl c) := h.step (.control _ _ kept)

/-- A change of the credits, the holders and the model's own hit, in STEP or downwards. -/
theorem controlKept_credits {c c' : LineControl} (settings : c'.settings = c.settings)
    (line : c'.line = c.line) (pin : c'.haltPin = c.haltPin) (watch : c'.watch = c.watch)
    (step : c.stepOnly → c'.stepOnly) : ControlKept b c c' where
  settings := .inl settings
  halt e := by simpa [haltAgrees, line, pin] using e
  stepOnly := step
  watch e := by simpa [LineControl.watchSound, watch] using e

@[simp] theorem forAll_changes {α : Type} (items : List α) (f : State → α → State)
    (each : ∀ s x, Changes π s₀ s → Changes π s₀ (f s x)) (h : Changes π s₀ s) :
    Changes π s₀ (forAll items s f) := forAll_keeps (Changes π s₀) f each items s h

@[simp] theorem ite_changes (c : Prop) [Decidable c] (t u : State) (ht : Changes π s₀ t)
    (hu : Changes π s₀ u) : Changes π s₀ (if c then t else u) := by
  split
  · exact ht
  · exact hu

theorem controlKept_halt (c : LineControl) :
    ControlKept b c { c.clearStep with line := .halted, haltPin := true } where
  settings := .inl rfl
  halt _ := rfl
  stepOnly _ _ := ⟨rfl, rfl, rfl, rfl⟩
  watch e := e

theorem controlKept_stop (c : LineControl) (h : c.line ≠ .halted) :
    ControlKept b c { c.clearStep with line := .stopped } where
  settings := .inl rfl
  halt e := by
    have n : (c.line == .halted) = false := by simpa using h
    exact Eq.trans e n
  stepOnly _ _ := ⟨rfl, rfl, rfl, rfl⟩
  watch e := e

theorem controlKept_reset (c : LineControl) :
    ControlKept b c { c.clearStep with line := .stopped, haltPin := false } where
  settings := .inl rfl
  halt _ := rfl
  stepOnly _ _ := ⟨rfl, rfl, rfl, rfl⟩
  watch e := e

/-- Entries leave the watch list. -/
theorem controlKept_watch (c : LineControl) (keep : WatchEntry → Bool) (hit : Option Hit) :
    ControlKept b c { c with watch := c.watch.filter keep, hitTop := hit } where
  settings := .inl rfl
  halt e := e
  stepOnly e := e
  watch e := by
    obtain ⟨h1, h2, h3⟩ := e
    refine ⟨Nat.le_trans (List.length_filter_le ..) h1, h2.sublist List.filter_sublist, ?_⟩
    exact fun w hw => h3 w (List.mem_of_mem_filter hw)

/-! ## The shared operations -/

@[simp] theorem orderStation_changes (i : StationId) (kind : OrderKind) (h : Changes π s₀ s) :
    Changes π s₀ (s.orderStation i kind) := by
  simp (maxDischargeDepth := 60) [State.orderStation, h]

@[simp] theorem orderSampleValve_changes (i : StationId) (toOpen : Bool) (h : Changes π s₀ s) :
    Changes π s₀ (s.orderSampleValve i toOpen) := by
  simp (maxDischargeDepth := 60) [State.orderSampleValve, h]

@[simp] theorem orderTrain_changes (t : TrainId) (kind : OrderKind) (h : Changes π s₀ s) :
    Changes π s₀ (s.orderTrain t kind) := by
  simp (maxDischargeDepth := 60) [State.orderTrain, h]

@[simp] theorem orderChamber_changes (kind : OrderKind) (h : Changes π s₀ s) :
    Changes π s₀ (s.orderChamber kind) := by
  simp (maxDischargeDepth := 60) [State.orderChamber, h]

@[simp] theorem orderBank_changes (kind : OrderKind) (h : Changes π s₀ s) :
    Changes π s₀ (s.orderBank kind) := by
  simp (maxDischargeDepth := 60) [State.orderBank, h]

@[simp] theorem closeValves_changes (i : StationId) (h : Changes π s₀ s) :
    Changes π s₀ (s.closeValves i) := by
  simp (maxDischargeDepth := 60) [State.closeValves, h]

@[simp] theorem abandonCycle_changes (close : Option Nat) (h : Changes π s₀ s) :
    Changes π s₀ (s.abandonCycle close) := by
  dsimp only [State.abandonCycle]
  (repeat' split) <;> simp (maxDischargeDepth := 60) [*]

@[simp] theorem haltStation_changes (i : StationId) (h : Changes π s₀ s) :
    Changes π s₀ (s.haltStation i) := by
  dsimp only [State.haltStation]
  (repeat' split) <;> simp (maxDischargeDepth := 60) [*]

@[simp] theorem haltClassifier_changes (h : Changes π s₀ s) : Changes π s₀ (s.haltClassifier) := by
  dsimp only [State.haltClassifier]
  (repeat' split) <;> simp (maxDischargeDepth := 60) [*]

@[simp] theorem haltOrderTrain_changes (t : TrainId) (kind : OrderKind) (h : Changes π s₀ s) :
    Changes π s₀ (s.haltOrderTrain t kind) := by
  simp (maxDischargeDepth := 60) [State.haltOrderTrain, h]

@[simp] theorem haltTrain_changes (t : TrainId) (h : Changes π s₀ s) :
    Changes π s₀ (s.haltTrain t) := by
  dsimp only [State.haltTrain]
  (repeat' split) <;> simp (maxDischargeDepth := 60) [*]

@[simp] theorem haltOrderChamber_changes (kind : OrderKind) (h : Changes π s₀ s) :
    Changes π s₀ (s.haltOrderChamber kind) := by
  simp (maxDischargeDepth := 60) [State.haltOrderChamber, h]

@[simp] theorem haltChamber_changes (h : Changes π s₀ s) : Changes π s₀ (s.haltChamber) := by
  simp (maxDischargeDepth := 60) [State.haltChamber, h]

@[simp] theorem haltBank_changes (bk : BankId) (h : Changes π s₀ s) :
    Changes π s₀ (s.haltBank bk) := by
  dsimp only [State.haltBank]
  (repeat' split) <;> simp (maxDischargeDepth := 60) [*]

@[simp] theorem halt_changes (h : Changes π s₀ s) : Changes π s₀ s.halt := by
  unfold State.halt
  split
  · exact h
  · exact forAll_changes _ _ (fun _ _ h => haltBank_changes _ h)
      (haltChamber_changes (forAll_changes _ _ (fun _ _ h => haltTrain_changes _ h)
        (haltClassifier_changes (forAll_changes _ _ (fun _ _ h => haltStation_changes _ h)
          (control_changes _ (controlKept_halt s.control) h)))))

@[simp] theorem raise_changes (kind : ConditionKind) (origin : Origin) (detail : Detail) (h :
    Changes π s₀ s) :
    Changes π s₀ (s.raise kind origin detail) := by
  dsimp only [State.raise]
  (repeat' split) <;> simp (maxDischargeDepth := 60) [*]

@[simp] theorem closeEvac_changes (i : StationId) (h : Changes π s₀ s) :
    Changes π s₀ (s.closeEvac i) := by
  dsimp only [State.closeEvac]
  (repeat' split) <;> simp (maxDischargeDepth := 60) [*]

@[simp] theorem stopStation_changes (i : StationId) (h : Changes π s₀ s) :
    Changes π s₀ (s.stopStation i) := by
  dsimp only [State.stopStation]
  (repeat' split) <;> simp (maxDischargeDepth := 60) [*]

@[simp] theorem pauseTrain_changes (t : TrainId) (h : Changes π s₀ s) :
    Changes π s₀ (s.pauseTrain t) := by
  dsimp only [State.pauseTrain]
  (repeat' split) <;> simp (maxDischargeDepth := 60) [*]

/-- The line stops from RUN or STEP. -/
theorem lineStop_changes (line : s.halted = false) (h : Changes π s₀ s) : Changes π s₀ s.lineStop :=
  forAll_changes _ _ (fun _ _ h => pauseTrain_changes _ h)
    (forAll_changes _ _ (fun _ _ h => stopStation_changes _ h)
      (control_changes _ (controlKept_stop s.control (by simpa [State.halted] using line)) h))

theorem not_halted_of_running (h : s.running = true) : s.halted = false := by
  unfold State.running at h
  unfold State.halted
  cases e : s.control.line <;> simp_all

@[simp] theorem watchEntry_changes (rank : Nat) (tag : Option Tag) (phase : PhaseName)
    (h : Changes π s₀ s) : Changes π s₀ (s.watchEntry rank tag phase) := by
  dsimp only [State.watchEntry]
  split
  · exact h
  · split
    · split
      · exact lineStop_changes (not_halted_of_running ‹_›)
          (raise_changes _ _ _ (control_changes _ (controlKept_watch s.control _ _) h))
      · exact raise_changes _ _ _ (control_changes _ (controlKept_watch s.control _ _) h)
    · exact h

@[simp] theorem enterPhase_changes (i : StationId) (p : StationPhase) (h : Changes π s₀ s) :
    Changes π s₀ (s.enterPhase i p) := by
  simp (maxDischargeDepth := 60) [State.enterPhase, h]

@[simp] theorem enterChamberPhase_changes (p : ChamberPhase) (h : Changes π s₀ s) :
    Changes π s₀ (s.enterChamberPhase p) := by
  simp (maxDischargeDepth := 60) [State.enterChamberPhase, h]

@[simp] theorem spendCredit_changes (i : StationId) (h : Changes π s₀ s) :
    Changes π s₀ (s.spendCredit i) :=
  control_changes _ (controlKept_credits rfl rfl rfl rfl fun e n => by simp [e n]) h

@[simp] theorem spendChamberCredit_changes (h : Changes π s₀ s) : Changes π s₀ s.spendChamberCredit :=
  control_changes _ (controlKept_credits rfl rfl rfl rfl fun e n => by simp [e n]) h

/-! ## The Unit Register -/

/-- A record joins the register, where there is room and its tag is new. -/
@[simp] theorem addUnit_changes (r : UnitRecord) (sound : r.sound)
    (new : s.findInRegister r.tag = none) (room : s.registerCount < Config.registerSize)
    (h : Changes ⟨true, fl⟩ s₀ s) : Changes ⟨true, fl⟩ s₀ (s.addUnit r) := register_changes _ (.add _ r sound new room) h

@[simp] theorem closeEntry_changes (tag : Tag) (h : Changes π s₀ s) :
    Changes π s₀ (s.closeEntry tag) := by
  simp (maxDischargeDepth := 60) [State.closeEntry, h]

/-- A record closes, into the log or into CLOSING. -/
@[simp] theorem closeUnit_changes (tag : Tag) (d : Disposition) (h : Changes π s₀ s) :
    Changes π s₀ (s.closeUnit tag d) := by
  unfold State.closeUnit
  split
  · exact h
  · rename_i r found
    unfold State.placeClosed
    dsimp only
    split
    · rename_i room
      have room : s.register.log.length < Config.logSize ∧ s.register.closing = [] := by
        simpa using room
      exact register_changes _ (.toLog s.register tag r d found room.1 room.2) h
    · rename_i full
      have full : ¬ (s.register.log.length < Config.logSize ∧ s.register.closing = []) := by
        simpa using full
      have closing := register_changes _ (.toClosing s.register tag r d found full) h
      split
      · exact closing
      · exact raise_changes _ _ _ closing

@[simp] theorem attributeOrClose_changes (tag : Tag) (d : Disposition) (h : Changes π s₀ s) :
    Changes π s₀ (s.attributeOrClose tag d) := by
  dsimp only [State.attributeOrClose]
  (repeat' split) <;> simp (maxDischargeDepth := 60) [*]

@[simp] theorem doQueryUnit_changes (tag : Nat) (final : Bool) (h : Changes ⟨true, fl⟩ s₀ s) :
    Changes ⟨true, fl⟩ s₀ (doQueryUnit tag final s) := by
  dsimp only [doQueryUnit]
  (repeat' split) <;> simp (maxDischargeDepth := 60) [*]

@[simp] theorem doTakeClosed_changes (count : Nat) (h : Changes ⟨true, fl⟩ s₀ s) :
    Changes ⟨true, fl⟩ s₀ (doTakeClosed count s) := by
  have sealed : ∀ l ∈ (s.register.log.take count).map UnitRecord.sentLine, Sealed l := by
    intro l hl
    obtain ⟨r, -, rfl⟩ := List.mem_map.1 hl
    exact sealed_unitLine r
  dsimp only [doTakeClosed]
  split
  · split
    · exact send_changes _ (List.forall_mem_cons.2 ⟨sealed_okLine .., sealed⟩) h
    · exact register_changes _ (.take ..)
        (send_changes _ (List.forall_mem_cons.2 ⟨sealed_okLine .., sealed⟩) h)
  · exact send_changes _ (by simp) h

/-! ## The Station Controller -/

@[simp] theorem startTail_changes (t : TrainId) (h : Changes π s₀ s) :
    Changes π s₀ (s.startTail t) := by
  dsimp only [State.startTail]
  (repeat' split) <;> simp (maxDischargeDepth := 60) [*]

@[simp] theorem writeFaultedPhase_changes (i : StationId) (f : StationFault) (h : Changes π s₀ s) :
    Changes π s₀ (s.writeFaultedPhase i f) := by
  dsimp only [State.writeFaultedPhase]
  (repeat' split) <;> simp (maxDischargeDepth := 60) [*]

@[simp] theorem leaveLists_changes (i : StationId) (h : Changes π s₀ s) :
    Changes π s₀ (s.leaveLists i) := by
  exact setRequests_changes _ List.filter_sublist (setQueue_changes _ List.filter_sublist h)

@[simp] theorem abandonFor_changes (i : StationId) (h : Changes π s₀ s) :
    Changes π s₀ (s.abandonFor i) := by
  dsimp only [State.abandonFor]
  (repeat' split) <;> simp (maxDischargeDepth := 60) [*]

@[simp] theorem tailFor_changes (i : StationId) (h : Changes π s₀ s) :
    Changes π s₀ (s.tailFor i) := by
  dsimp only [State.tailFor]
  (repeat' split) <;> simp (maxDischargeDepth := 60) [*]

@[simp] theorem faultStation_changes (i : StationId) (f : StationFault) (tail : Bool) (h : Changes
    π s₀ s) :
    Changes π s₀ (s.faultStation i f tail) := by
  dsimp only [State.faultStation]
  (repeat' split) <;> simp (maxDischargeDepth := 60) [*]

@[simp] theorem failStation_changes (i : StationId) (h : Changes π s₀ s) :
    Changes π s₀ (s.failStation i) := by
  simp (maxDischargeDepth := 60) [State.failStation, h]

@[simp] theorem openEvac_changes (i : StationId) (h : Changes π s₀ s) :
    Changes π s₀ (s.openEvac i) := by
  dsimp only [State.openEvac]
  (repeat' split) <;> simp (maxDischargeDepth := 60) [*]

@[simp] theorem onStationUnit_changes (i : StationId) (f : UnitRecord → UnitRecord) (kept : ∀ r,
    RecordKept r (f r)) (h : Changes π s₀ s) :
    Changes π s₀ (s.onStationUnit i f) := by
  dsimp only [State.onStationUnit]
  (repeat' split) <;> simp (maxDischargeDepth := 60) [*]

@[simp] theorem enterEvacuate_changes (i : StationId) (t : TrainId) (h : Changes π s₀ s) :
    Changes π s₀ (s.enterEvacuate i t) := by
  simp (maxDischargeDepth := 60) [State.enterEvacuate, h]

@[simp] theorem awaitVessel_changes (i : StationId) (h : Changes π s₀ s) :
    Changes π s₀ (s.awaitVessel i) := by
  simp (maxDischargeDepth := 60) [State.awaitVessel, h]

@[simp] theorem vesselFound_changes (i : StationId) (h : Changes π s₀ s) :
    Changes π s₀ (s.vesselFound i) := by
  simp (maxDischargeDepth := 60) [State.vesselFound, h]

@[simp] theorem dropTrain_changes (i : StationId) (h : Changes π s₀ s) :
    Changes π s₀ (s.dropTrain i) := by
  simp (maxDischargeDepth := 60) [State.dropTrain, h]

@[simp] theorem unclamp_changes (i : StationId) (h : Changes π s₀ s) :
    Changes π s₀ (s.unclamp i) := by
  simp (maxDischargeDepth := 60) [State.unclamp, h]

@[simp] theorem emptyStation_changes (i : StationId) (h : Changes π s₀ s) :
    Changes π s₀ (s.emptyStation i) := by
  simp (maxDischargeDepth := 60) [State.emptyStation, h]

@[simp] theorem unclampFailed_changes (i : StationId) (h : Changes π s₀ s) :
    Changes π s₀ (s.unclampFailed i) := by
  dsimp only [State.unclampFailed]
  (repeat' split) <;> simp (maxDischargeDepth := 60) [*]

@[simp] theorem endDrain_changes (i : StationId) (h : Changes π s₀ s) :
    Changes π s₀ (s.endDrain i) := by
  simp (maxDischargeDepth := 60) [State.endDrain, h]

/-! ## The Path Arbiter -/

@[simp] theorem orderTrainOnce_changes (t : TrainId) (kind : OrderKind) (h : Changes π s₀ s) :
    Changes π s₀ (s.orderTrainOnce t kind) := by
  dsimp only [State.orderTrainOnce]
  (repeat' split) <;> simp (maxDischargeDepth := 60) [*]

@[simp] theorem orderTrainAfterHalt_changes (t : TrainId) (kind : OrderKind) (h : Changes π s₀ s) :
    Changes π s₀ (s.orderTrainAfterHalt t kind) := by
  dsimp only [State.orderTrainAfterHalt]
  (repeat' split) <;> simp (maxDischargeDepth := 60) [*]

@[simp] theorem stopTrainAfterHalt_changes (t : TrainId) (h : Changes π s₀ s) :
    Changes π s₀ (s.stopTrainAfterHalt t) := by
  simp (maxDischargeDepth := 60) [State.stopTrainAfterHalt, h]

@[simp] theorem stopTrainOnce_changes (t : TrainId) (h : Changes π s₀ s) :
    Changes π s₀ (s.stopTrainOnce t) := by
  simp (maxDischargeDepth := 60) [State.stopTrainOnce, h]

@[simp] theorem stopTrain_changes (t : TrainId) (h : Changes π s₀ s) :
    Changes π s₀ (s.stopTrain t) := by
  simp (maxDischargeDepth := 60) [State.stopTrain, h]

@[simp] theorem reportDrawing_changes (t : TrainId) (h : Changes π s₀ s) :
    Changes π s₀ (s.reportDrawing t) := by
  dsimp only [State.reportDrawing]
  (repeat' split) <;> simp (maxDischargeDepth := 60) [*]

@[simp] theorem orderOutlet_changes (t : TrainId) (h : Changes π s₀ s) :
    Changes π s₀ (s.orderOutlet t) := by
  dsimp only [State.orderOutlet]
  (repeat' split) <;> simp (maxDischargeDepth := 60) [*]

@[simp] theorem setTrainState_changes (t : TrainId) (x : TrainState) (h : Changes π s₀ s) :
    Changes π s₀ (s.setTrainState t x) := by
  simp (maxDischargeDepth := 60) [State.setTrainState, h]

@[simp] theorem openTrainEntry_changes (t : TrainId) (k : SlotId) (h : Changes π s₀ s) :
    Changes π s₀ (s.openTrainEntry t k) := by
  dsimp only [State.openTrainEntry]
  (repeat' split) <;> simp (maxDischargeDepth := 60) [*]

@[simp] theorem startPurge_changes (t : TrainId) (h : Changes π s₀ s) :
    Changes π s₀ (s.startPurge t) := by
  simp (maxDischargeDepth := 60) [State.startPurge, h]

@[simp] theorem drawAfresh_changes (t : TrainId) (h : Changes π s₀ s) :
    Changes π s₀ (s.drawAfresh t) := by
  simp (maxDischargeDepth := 60) [State.drawAfresh, h]

@[simp] theorem leavePurge_changes (t : TrainId) (h : Changes π s₀ s) :
    Changes π s₀ (s.leavePurge t) := by
  dsimp only [State.leavePurge]
  (repeat' split) <;> simp (maxDischargeDepth := 60) [*]

@[simp] theorem grantTrain_changes (i : StationId) (tag : Tag) (t : TrainId) (k : SlotId) (cls :
    VesselClass) (h : Changes π s₀ s) :
    Changes π s₀ (s.grantTrain i tag t k cls) := by
  dsimp only [State.grantTrain]
  (repeat' split) <;> simp (maxDischargeDepth := 60) [*]

@[simp] theorem exhaustRequest_changes (i : StationId) (tag : Tag) (h : Changes π s₀ s) :
    Changes π s₀ (s.exhaustRequest i tag) := by
  simp (maxDischargeDepth := 60) [State.exhaustRequest, h]

@[simp] theorem scanRequest_changes (q : Request) (h : Changes π s₀ s) :
    Changes π s₀ (s.scanRequest q) := by
  dsimp only [State.scanRequest]
  (repeat' split) <;> simp (maxDischargeDepth := 60) [*]

@[simp] theorem grantScan_changes (h : Changes π s₀ s) : Changes π s₀ (s.grantScan) := by
  simp +contextual (maxDischargeDepth := 60) [State.grantScan, h]

theorem insertRequest_mem (q r : Request) (rs : List Request) (h : r ∈ insertRequest q rs) :
    r = q ∨ r ∈ rs := by
  induction rs with
  | nil => simpa [insertRequest] using h
  | cons x xs ih =>
    unfold insertRequest at h
    split at h
    · rcases List.mem_cons.mp h with e | e
      · exact .inr (by simp [e])
      · rcases ih e with e | e
        · exact .inl e
        · exact .inr (by simp [e])
    · simpa using h

/-- A request takes its place in the order of request times (R83). -/
theorem insertRequest_sorted (q : Request) (rs : List Request)
    (h : rs.Pairwise fun x y => x.time ≤ y.time) :
    (insertRequest q rs).Pairwise fun x y => x.time ≤ y.time := by
  induction rs with
  | nil => simp [insertRequest]
  | cons x xs ih =>
    have hx := List.pairwise_cons.mp h
    unfold insertRequest
    split
    · rename_i le
      refine List.pairwise_cons.mpr ⟨fun r hr => ?_, ih hx.2⟩
      rcases insertRequest_mem q r xs hr with e | e
      · exact e ▸ le
      · exact hx.1 r e
    · rename_i lt
      refine List.pairwise_cons.mpr ⟨fun r hr => ?_, h⟩
      have lt := Nat.le_of_lt (Nat.lt_of_not_le lt)
      rcases List.mem_cons.mp hr with e | e
      · exact e ▸ lt
      · exact Nat.le_trans lt (hx.1 r e)

/-- A request of a station that holds none joins the stations of the list. -/
theorem insertRequest_nodup (q : Request) (rs : List Request) (h : (rs.map (·.station)).Nodup)
    (fresh : ∀ r ∈ rs, r.station ≠ q.station) : ((insertRequest q rs).map (·.station)).Nodup := by
  induction rs with
  | nil => simp [insertRequest]
  | cons x xs ih =>
    have hx := List.nodup_cons.mp h
    unfold insertRequest
    split
    · refine List.nodup_cons.mpr ⟨fun hm => ?_, ih hx.2 fun r hr => fresh r (.tail _ hr)⟩
      obtain ⟨r, hr, e⟩ := List.mem_map.mp hm
      rcases insertRequest_mem q r xs hr with rfl | hr
      · exact fresh x (.head _) e.symm
      · exact hx.1 (e ▸ List.mem_map_of_mem hr)
    · refine List.nodup_cons.mpr ⟨fun hm => ?_, h⟩
      obtain ⟨r, hr, e⟩ := List.mem_map.mp hm
      exact fresh r hr e

/-- A station's request joins the list in its place, in the room of one that it held (R83). -/
theorem joinedRequests_sound (a : Arbiter) (q : Request) (h : a.requestsSound) :
    ({ a with requests := insertRequest q (a.requests.filter (·.station != q.station)) } :
      Arbiter).requestsSound :=
  ⟨insertRequest_sorted _ _ (h.1.sublist List.filter_sublist),
    insertRequest_nodup _ _ (h.2.sublist (List.filter_sublist.map _)) fun r hr => by
      simpa using (List.mem_filter.mp hr).2⟩

@[simp] theorem joinRequests_changes (i : StationId) (time : Moment) (h : Changes π s₀ s) :
    Changes π s₀ (s.joinRequests i time) :=
  grantScan_changes (h.step (.requests _ _ fun e => joinedRequests_sound _ _ e))

@[simp] theorem endTail_changes (t : TrainId) (h : Changes π s₀ s) :
    Changes π s₀ (s.endTail t) := by
  dsimp only [State.endTail]
  (repeat' split) <;> simp (maxDischargeDepth := 60) [*]

@[simp] theorem stationTrainFault_changes (i : StationId) (h : Changes π s₀ s) :
    Changes π s₀ (s.stationTrainFault i) := by
  dsimp only [State.stationTrainFault]
  (repeat' split) <;> simp (maxDischargeDepth := 60) [*]

@[simp] theorem stripTrain_changes (t : TrainId) (h : Changes π s₀ s) :
    Changes π s₀ (s.stripTrain t) := by
  dsimp only [State.stripTrain]
  (repeat' split) <;> simp (maxDischargeDepth := 60) [*]

@[simp] theorem faultTrain_changes (t : TrainId) (h : Changes π s₀ s) :
    Changes π s₀ (s.faultTrain t) := by
  dsimp only [State.faultTrain]
  (repeat' split) <;> simp (maxDischargeDepth := 60) [*]

@[simp] theorem exhaustTrain_changes (t : TrainId) (h : Changes π s₀ s) :
    Changes π s₀ (s.exhaustTrain t) := by
  dsimp only [State.exhaustTrain]
  (repeat' split) <;> simp (maxDischargeDepth := 60) [*]

@[simp] theorem waitForVessel_changes (t : TrainId) (h : Changes π s₀ s) :
    Changes π s₀ (s.waitForVessel t) := by
  dsimp only [State.waitForVessel]
  (repeat' split) <;> simp (maxDischargeDepth := 60) [*]

@[simp] theorem changeTrain_changes (k : SlotId) (t : TrainId) (h : Changes π s₀ s) :
    Changes π s₀ (State.changeTrain k s t) := by
  dsimp only [State.changeTrain]
  (repeat' split) <;> simp (maxDischargeDepth := 60) [*]

@[simp] theorem changeTrains_changes (k : SlotId) (h : Changes π s₀ s) :
    Changes π s₀ (s.changeTrains k) := by
  dsimp only [State.changeTrains]
  (repeat' split) <;> simp +contextual (maxDischargeDepth := 60) [*]

@[simp] theorem resumeTrain_changes (cls : VesselClass) (t : TrainId) (h : Changes π s₀ s) :
    Changes π s₀ (State.resumeTrain cls s t) := by
  dsimp only [State.resumeTrain]
  (repeat' split) <;> simp (maxDischargeDepth := 60) [*]

@[simp] theorem resumeTrains_changes (cls : VesselClass) (h : Changes π s₀ s) :
    Changes π s₀ (s.resumeTrains cls) := by
  dsimp only [State.resumeTrains]
  (repeat' split) <;> simp +contextual (maxDischargeDepth := 60) [*]

@[simp] theorem endPurge_changes (t : TrainId) (h : Changes π s₀ s) :
    Changes π s₀ (s.endPurge t) := by
  dsimp only [State.endPurge]
  (repeat' split) <;> simp (maxDischargeDepth := 60) [*]

@[simp] theorem clearSuspension_changes (i : StationId) (h : Changes π s₀ s) :
    Changes π s₀ (s.clearSuspension i) := by
  dsimp only [State.clearSuspension]
  (repeat' split) <;> simp (maxDischargeDepth := 60) [*]

theorem nodup_of_noRepeats {α : Type} [BEq α] [LawfulBEq α] (l : List α)
    (h : noRepeats l = true) : l.Nodup := by
  induction l with
  | nil => simp
  | cons x xs ih => simp_all [noRepeats]

@[simp] theorem doSetPaths_changes (station : Nat) (trains : List Nat) (h : Changes ⟨true, fl⟩ s₀ s) :
    Changes ⟨true, fl⟩ s₀ (doSetPaths station trains s) := by
  dsimp only [doSetPaths]
  split
  · rename_i i ts _ _
    split
    · simp [h]
    · rename_i fit
      split
      · simp [h]
      · refine send_changes _ (by simp) (h.step (.paths s i ts ?_))
        simp only [Bool.or_eq_true, not_or, decide_eq_true_eq, Bool.not_eq_true,
          Bool.not_eq_false'] at fit
        exact ⟨by simpa using fit.1.1, by omega, nodup_of_noRepeats ts (by simpa using fit.2)⟩
  · simp [h]

@[simp] theorem doTrainService_changes (train : Nat) (intoService : Bool) (h : Changes ⟨true, fl⟩
    s₀ s) :
    Changes ⟨true, fl⟩ s₀ (doTrainService train intoService s) := by
  dsimp only [doTrainService]
  (repeat' split) <;> simp (maxDischargeDepth := 60) [*]

/-! ## The Classifier -/

@[simp] theorem raiseClass_changes (i : StationId) (tag : Tag) (declared : Option
    RefrigerantClass) (measured : RefrigerantClass) (h : Changes π s₀ s) :
    Changes π s₀ (s.raiseClass i tag declared measured) := by
  dsimp only [State.raiseClass]
  (repeat' split) <;> simp (maxDischargeDepth := 60) [*]

@[simp] theorem classifyUnit_changes (i : StationId) (tag : Tag) (measured : RefrigerantClass)
    (bands : Option (Vector Nat 6)) (hit : Option SignatureId) (h : Changes π s₀ s) :
    Changes π s₀ (s.classifyUnit i tag measured bands hit) := by
  dsimp only [State.classifyUnit]
  (repeat' split) <;> simp (maxDischargeDepth := 60) [*]

@[simp] theorem grantAnalyser_changes (h : Changes π s₀ s) : Changes π s₀ (s.grantAnalyser) := by
  dsimp only [State.grantAnalyser]
  (repeat' split) <;> simp (maxDischargeDepth := 60) [*]

@[simp] theorem joinQueue_changes (i : StationId) (h : Changes π s₀ s) :
    Changes π s₀ (s.joinQueue i) := by
  refine grantAnalyser_changes (h.step (.queue _ _ fun e => ?_))
  split
  · exact e
  · rename_i new
    exact List.nodup_append.mpr ⟨e, by simp, fun x hx y hy c => by simp_all⟩

@[simp] theorem doSignatureDigest_changes (h : Changes ⟨true, fl⟩ s₀ s) :
    Changes ⟨true, fl⟩ s₀ (doSignatureDigest s) := by
  simp (maxDischargeDepth := 60) [doSignatureDigest, h]

@[simp] theorem doClearSignatures_changes (h : Changes ⟨true, fl⟩ s₀ s) :
    Changes ⟨true, fl⟩ s₀ (doClearSignatures s) := by
  dsimp only [doClearSignatures]
  split
  · exact send_changes _ (by simp) h
  · exact send_changes _ (by simp) (h.step (.table ..))

@[simp] theorem doLoadSignatures_changes (rows : Nat) (h : Changes ⟨true, fl⟩ s₀ s) :
    Changes ⟨true, fl⟩ s₀ (doLoadSignatures rows s) := by
  dsimp only [doLoadSignatures]
  (repeat' split) <;> simp (maxDischargeDepth := 60) [*]

/-! ## A station's phases -/

@[simp] theorem beginPierce_changes (i : StationId) (h : Changes π s₀ s) :
    Changes π s₀ (s.beginPierce i) := by
  simp (maxDischargeDepth := 60) [State.beginPierce, h]

@[simp] theorem beginTrainWait_changes (i : StationId) (h : Changes π s₀ s) :
    Changes π s₀ (s.beginTrainWait i) := by
  simp (maxDischargeDepth := 60) [State.beginTrainWait, h]

@[simp] theorem beginRiseTest_changes (i : StationId) (h : Changes π s₀ s) :
    Changes π s₀ (s.beginRiseTest i) := by
  simp (maxDischargeDepth := 60) [State.beginRiseTest, h]

@[simp] theorem beginOilDrain_changes (i : StationId) (h : Changes π s₀ s) :
    Changes π s₀ (s.beginOilDrain i) := by
  simp (maxDischargeDepth := 60) [State.beginOilDrain, h]

@[simp] theorem beginPhase_changes (i : StationId) (p : StationPhase) (h : Changes π s₀ s) :
    Changes π s₀ (s.beginPhase i p) := by
  dsimp only [State.beginPhase]
  (repeat' split) <;> simp (maxDischargeDepth := 60) [*]

@[simp] theorem testStation_changes (i : StationId) (h : Changes π s₀ s) :
    Changes π s₀ (s.testStation i) := by
  dsimp only [State.testStation]
  (repeat' split) <;> simp (maxDischargeDepth := 60) [*]

@[simp] theorem endPhase_changes (i : StationId) (p : StationPhase) (h : Changes π s₀ s) :
    Changes π s₀ (s.endPhase i p) := by
  simp (maxDischargeDepth := 60) [State.endPhase, h]

@[simp] theorem enterLoaded_changes (i : StationId) (h : Changes π s₀ s) :
    Changes π s₀ (s.enterLoaded i) := by
  simp (maxDischargeDepth := 60) [State.enterLoaded, h]

@[simp] theorem enterClamping_changes (i : StationId) (h : Changes π s₀ s) :
    Changes π s₀ (s.enterClamping i) := by
  simp (maxDischargeDepth := 60) [State.enterClamping, h]

@[simp] theorem workDone_changes (i : StationId) (kind : OrderKind) (h : Changes π s₀ s) :
    Changes π s₀ (s.workDone i kind) := by
  dsimp only [State.workDone]
  (repeat' split) <;> simp (maxDischargeDepth := 60) [*]

@[simp] theorem evacDone_changes (i : StationId) (h : Changes π s₀ s) :
    Changes π s₀ (s.evacDone i) := by
  dsimp only [State.evacDone]
  (repeat' split) <;> simp (maxDischargeDepth := 60) [*]

@[simp] theorem drainDone_changes (i : StationId) (toOpen : Bool) (oil : Grams) (h : Changes π s₀
    s) :
    Changes π s₀ (s.drainDone i toOpen oil) := by
  dsimp only [State.drainDone]
  (repeat' split) <;> simp (maxDischargeDepth := 60) [*]

@[simp] theorem stationOrderDone_changes (i : StationId) (o : Order) (oil : Grams) (h : Changes π
    s₀ s) :
    Changes π s₀ (s.stationOrderDone i o oil) := by
  dsimp only [State.stationOrderDone]
  (repeat' split) <;> simp (maxDischargeDepth := 60) [*]

@[simp] theorem stationOrderFailed_changes (i : StationId) (o : Order) (h : Changes π s₀ s) :
    Changes π s₀ (s.stationOrderFailed i o) := by
  dsimp only [State.stationOrderFailed]
  (repeat' split) <;> simp (maxDischargeDepth := 60) [*]

@[simp] theorem readPierce_changes (i : StationId) (pressure : Nat) (h : Changes π s₀ s) :
    Changes π s₀ (s.readPierce i pressure) := by
  dsimp only [State.readPierce]
  (repeat' split) <;> simp (maxDischargeDepth := 60) [*]

@[simp] theorem reachTarget_changes (i : StationId) (pressure : Nat) (h : Changes π s₀ s) :
    Changes π s₀ (s.reachTarget i pressure) := by
  simp (maxDischargeDepth := 60) [State.reachTarget, h]

@[simp] theorem latchRise_changes (i : StationId) (entry pressure : Nat) (h : Changes π s₀ s) :
    Changes π s₀ (s.latchRise i entry pressure) := by
  dsimp only [State.latchRise]
  (repeat' split) <;> simp (maxDischargeDepth := 60) [*]

@[simp] theorem readRise_changes (i : StationId) (pressure : Nat) (h : Changes π s₀ s) :
    Changes π s₀ (s.readRise i pressure) := by
  dsimp only [State.readRise]
  (repeat' split) <;> simp (maxDischargeDepth := 60) [*]

@[simp] theorem readOil_changes (i : StationId) (oil : Grams) (h : Changes π s₀ s) :
    Changes π s₀ (s.readOil i oil) := by
  dsimp only [State.readOil]
  (repeat' split) <;> simp (maxDischargeDepth := 60) [*]

@[simp] theorem takeStationReadings_changes (i : StationId) (before : Station) (a : StationAnswer)
    (h : Changes π s₀ s) :
    Changes π s₀ (s.takeStationReadings i before a) := by
  dsimp only [State.takeStationReadings]
  (repeat' split) <;> simp (maxDischargeDepth := 60) [*]

@[simp] theorem stationSilent_changes (i : StationId) (h : Changes π s₀ s) :
    Changes π s₀ (s.stationSilent i) := by
  dsimp only [State.stationSilent]
  (repeat' split) <;> simp (maxDischargeDepth := 60) [*]

@[simp] theorem evacOvertime_changes (i : StationId) (h : Changes π s₀ s) :
    Changes π s₀ (s.evacOvertime i) := by
  simp (maxDischargeDepth := 60) [State.evacOvertime, h]

@[simp] theorem resetStation_changes (i : StationId) (h : Changes π s₀ s) :
    Changes π s₀ (s.resetStation i) := by
  dsimp only [State.resetStation]
  (repeat' split) <;> simp (maxDischargeDepth := 60) [*]

theorem create_sound (tag : Tag) (i : StationId) (r : Option RefrigerantClass)
    (f : Option GasClass) : (UnitRecord.create tag i r f).sound :=
  ⟨rfl, Nat.zero_le _, Nat.zero_le _, rfl, Nat.zero_le _⟩

@[simp] theorem doAdmit_changes (tag station : Nat) (refrigerant : Option RefrigerantClass)
    (foam : Option GasClass) (h : Changes ⟨true, fl⟩ s₀ s) :
    Changes ⟨true, fl⟩ s₀ (doAdmit tag station refrigerant foam s) := by
  dsimp only [doAdmit]
  split
  · exact send_changes _ (by simp) h
  · split
    · exact send_changes _ (by simp) h
    · split
      · exact send_changes _ (by simp) h
      · rename_i new
        split
        · exact send_changes _ (by simp) h
        · rename_i room
          (repeat' split) <;> try exact send_changes _ (by simp) h
          exact send_changes _ (by simp) (enterClamping_changes _ (onStation_changes _ _
            (addUnit_changes _ (create_sound ..) (by simpa [UnitRecord.create] using new) (Nat.lt_of_not_le room) h)))

@[simp] theorem doRetire_changes (station : Nat) (h : Changes ⟨true, fl⟩ s₀ s) :
    Changes ⟨true, fl⟩ s₀ (doRetire station s) := by
  dsimp only [doRetire]
  (repeat' split) <;> simp (maxDischargeDepth := 60) [*]

@[simp] theorem resumeAt_changes (i : StationId) (p : StationPhase) (h : Changes π s₀ s) :
    Changes π s₀ (s.resumeAt i p) := by
  simp (maxDischargeDepth := 60) [State.resumeAt, h]

@[simp] theorem resumeFrom_changes (i : StationId) (p : StationPhase) (h : Changes π s₀ s) :
    Changes π s₀ (s.resumeFrom i p) := by
  dsimp only [State.resumeFrom]
  (repeat' split) <;> simp (maxDischargeDepth := 60) [*]

@[simp] theorem doResume_changes (station : Nat) (h : Changes ⟨true, fl⟩ s₀ s) :
    Changes ⟨true, fl⟩ s₀ (doResume station s) := by
  dsimp only [doResume]
  (repeat' split) <;> simp (maxDischargeDepth := 60) [*]

/-! ## The sample cycle -/

@[simp] theorem onCycle_changes (f : SampleCycle → SampleCycle) (h : Changes π s₀ s) :
    Changes π s₀ (s.onCycle f) := by
  simp (maxDischargeDepth := 60) [State.onCycle, h]

@[simp] theorem freeCycle_changes (h : Changes π s₀ s) : Changes π s₀ (s.freeCycle) := by
  dsimp only [State.freeCycle]
  (repeat' split) <;> simp (maxDischargeDepth := 60) [*]

@[simp] theorem sampleOpenDone_changes (c : SampleCycle) (h : Changes π s₀ s) :
    Changes π s₀ (s.sampleOpenDone c) := by
  dsimp only [State.sampleOpenDone]
  (repeat' split) <;> simp (maxDischargeDepth := 60) [*]

@[simp] theorem sampleOpenFailed_changes (c : SampleCycle) (h : Changes π s₀ s) :
    Changes π s₀ (s.sampleOpenFailed c) := by
  dsimp only [State.sampleOpenFailed]
  (repeat' split) <;> simp (maxDischargeDepth := 60) [*]

@[simp] theorem closeSample_changes (c : SampleCycle) (h : Changes π s₀ s) :
    Changes π s₀ (s.closeSample c) := by
  dsimp only [State.closeSample]
  (repeat' split) <;> simp (maxDischargeDepth := 60) [*]

@[simp] theorem sampleOver_changes (h : Changes π s₀ s) : Changes π s₀ (s.sampleOver) := by
  simp (maxDischargeDepth := 60) [State.sampleOver, h]

@[simp] theorem sampleResult_changes (c : SampleCycle) (readings : Vector Nat 6) (h : Changes π s₀
    s) :
    Changes π s₀ (s.sampleResult c readings) := by
  dsimp only [State.sampleResult]
  (repeat' split) <;> simp (maxDischargeDepth := 60) [*]

@[simp] theorem sampleLost_changes (c : SampleCycle) (h : Changes π s₀ s) :
    Changes π s₀ (s.sampleLost c) := by
  dsimp only [State.sampleLost]
  (repeat' split) <;> simp (maxDischargeDepth := 60) [*]

@[simp] theorem sampleClosed_changes (h : Changes π s₀ s) : Changes π s₀ (s.sampleClosed) := by
  simp (maxDischargeDepth := 60) [State.sampleClosed, h]

@[simp] theorem sampleValveDone_changes (i : StationId) (number : Nat) (h : Changes π s₀ s) :
    Changes π s₀ (s.sampleValveDone i number) := by
  dsimp only [State.sampleValveDone]
  (repeat' split) <;> simp (maxDischargeDepth := 60) [*]

@[simp] theorem sampleValveFailed_changes (i : StationId) (number : Nat) (h : Changes π s₀ s) :
    Changes π s₀ (s.sampleValveFailed i number) := by
  dsimp only [State.sampleValveFailed]
  (repeat' split) <;> simp (maxDischargeDepth := 60) [*]

@[simp] theorem unblock_changes (i : StationId) (sampleOpen : Bool) (h : Changes π s₀ s) :
    Changes π s₀ (s.unblock i sampleOpen) := by
  dsimp only [State.unblock]
  (repeat' split) <;> simp (maxDischargeDepth := 60) [*]

@[simp] theorem startSampleDone_changes (number : Nat) (a : AnalyserAnswer) (h : Changes π s₀ s) :
    Changes π s₀ (s.startSampleDone number a) := by
  dsimp only [State.startSampleDone]
  (repeat' split) <;> simp (maxDischargeDepth := 60) [*]

@[simp] theorem startSampleFailed_changes (number : Nat) (h : Changes π s₀ s) :
    Changes π s₀ (s.startSampleFailed number) := by
  dsimp only [State.startSampleFailed]
  (repeat' split) <;> simp (maxDischargeDepth := 60) [*]

@[simp] theorem takeRow_changes (l : Load) (row : Option RowEntry) (h : Changes ⟨true, fl⟩ s₀ s) :
    Changes ⟨true, fl⟩ s₀ (s.takeRow l row) := by
  dsimp only [State.takeRow]
  have row : Changes ⟨true, fl⟩ s₀ (match l.badRow, row with
      | false, some e => { s with classifier := s.classifier.write e }
      | _, _ => s) := by
    split
    · exact h.step (.table ..)
    · exact h
  split
  · exact send_changes _ (by simp) (setLink_changes _ row)
  · exact setLink_changes _ row

/-! ## A bank's drain -/

@[simp] theorem enterCooling_changes (bk : BankId) (h : Changes π s₀ s) :
    Changes π s₀ (s.enterCooling bk) := by
  simp (maxDischargeDepth := 60) [State.enterCooling, h]

@[simp] theorem enterWarm_changes (bk : BankId) (h : Changes π s₀ s) :
    Changes π s₀ (s.enterWarm bk) := by
  dsimp only [State.enterWarm]
  (repeat' split) <;> simp (maxDischargeDepth := 60) [*]

@[simp] theorem enterDefrost_changes (bk : BankId) (h : Changes π s₀ s) :
    Changes π s₀ (s.enterDefrost bk) := by
  dsimp only [State.enterDefrost]
  (repeat' split) <;> simp (maxDischargeDepth := 60) [*]

@[simp] theorem enterDrainWait_changes (bk : BankId) (h : Changes π s₀ s) :
    Changes π s₀ (s.enterDrainWait bk) := by
  simp (maxDischargeDepth := 60) [State.enterDrainWait, h]

/-- A bank takes a drain slot while the other bank has none. -/
@[simp] theorem openDrain_changes (bk : BankId) (k : SlotId)
    (free : (s.bank (otherBank bk)).drainSlot.isSome = false) (h : Changes π s₀ s) :
    Changes π s₀ (s.openDrain bk k) :=
  (orderBank_changes _ h).step (.bank _ _ _ nofun fun _ => .inr free)

@[simp] theorem raiseNoAgent_changes (bk : BankId) (h : Changes π s₀ s) :
    Changes π s₀ (s.raiseNoAgent bk) := by
  simp (maxDischargeDepth := 60) [State.raiseNoAgent, h]

@[simp] theorem testDrain_changes (bk : BankId) (h : Changes π s₀ s) :
    Changes π s₀ (s.testDrain bk) := by
  dsimp only [State.testDrain]
  (repeat' split) <;> simp (maxDischargeDepth := 60) [*]

@[simp] theorem retestDrain_changes (bk : BankId) (h : Changes π s₀ s) :
    Changes π s₀ (s.retestDrain bk) := by
  dsimp only [State.retestDrain]
  (repeat' split) <;> simp (maxDischargeDepth := 60) [*]

@[simp] theorem testWaiting_changes (h : Changes π s₀ s) : Changes π s₀ (s.testWaiting) := by
  dsimp only [State.testWaiting]
  (repeat' split) <;> simp +contextual (maxDischargeDepth := 60) [*]

@[simp] theorem closeDrain_changes (bk : BankId) (h : Changes π s₀ s) :
    Changes π s₀ (s.closeDrain bk) := by
  simp (maxDischargeDepth := 60) [State.closeDrain, h]

@[simp] theorem endOpening_changes (bk : BankId) (h : Changes π s₀ s) :
    Changes π s₀ (s.endOpening bk) := by
  simp (maxDischargeDepth := 60) [State.endOpening, h]

@[simp] theorem setLastDrain_changes (bk : BankId) (h : Changes π s₀ s) :
    Changes π s₀ (s.setLastDrain bk) := by
  exact h.step (.marks s s.condenser.started (some bk))

@[simp] theorem dropDrainSlot_changes (bk : BankId) (h : Changes π s₀ s) :
    Changes π s₀ (s.dropDrainSlot bk) := by
  dsimp only [State.dropDrainSlot]
  (repeat' split) <;> simp (maxDischargeDepth := 60) [*]

@[simp] theorem writeShare_changes (bk : BankId) (allZero : Bool) (w : Cabinet × Grams) (h :
    Changes π s₀ s) :
    Changes π s₀ (State.writeShare bk allZero s w) := by
  dsimp only [State.writeShare]
  (repeat' split) <;> simp (maxDischargeDepth := 60) [*]

@[simp] theorem apportion_changes (bk : BankId) (h : Changes π s₀ s) :
    Changes π s₀ (s.apportion bk) := by
  dsimp only [State.apportion]
  (repeat' split) <;> simp +contextual (maxDischargeDepth := 60) [*]

@[simp] theorem finishDrain_changes (bk : BankId) (h : Changes π s₀ s) :
    Changes π s₀ (s.finishDrain bk) := by
  dsimp only [State.finishDrain]
  (repeat' split) <;> simp (maxDischargeDepth := 60) [*]

@[simp] theorem confirmClose_changes (bk : BankId) (h : Changes π s₀ s) :
    Changes π s₀ (s.confirmClose bk) := by
  dsimp only [State.confirmClose]
  (repeat' split) <;> simp (maxDischargeDepth := 60) [*]

/-- A re-routed drain keeps a slot that it held. -/
@[simp] theorem changeDrain_changes (k : SlotId) (h : Changes π s₀ s) :
    Changes π s₀ (s.changeDrain k) := by
  dsimp only [State.changeDrain]
  split
  · exact h
  · split
    · rename_i bk _ cond
      have held : (s.bank bk).drainSlot.isSome = true := by
        simp only [Bool.and_eq_true, beq_iff_eq] at cond
        simp [cond.1.1]
      split
      · exact (orderBank_changes _ h).step (.bank _ _ _ .inl fun _ => .inl held)
      · exact raiseNoAgent_changes _ (enterDrainWait_changes _ (closeDrain_changes _ h))
    · exact h

/-! ## The Vessel Table -/

@[simp] theorem vesselFilled_changes (k : SlotId) (h : Changes π s₀ s) :
    Changes π s₀ (s.vesselFilled k) := by
  dsimp only [State.vesselFilled]
  (repeat' split) <;> simp (maxDischargeDepth := 60) [*]

@[simp] theorem bookVessel_changes (k : SlotId) (d : Grams) (h : Changes π s₀ s) :
    Changes π s₀ (s.bookVessel k d) := by
  dsimp only [State.bookVessel]
  (repeat' split) <;> simp (maxDischargeDepth := 60) [*]

@[simp] theorem bookTrain_changes (tag : Tag) (d : Grams) (h : Changes π s₀ s) :
    Changes π s₀ (s.bookTrain tag d) := by
  dsimp only [State.bookTrain]
  (repeat' split) <;> simp (maxDischargeDepth := 60) [*]

@[simp] theorem testOverfill_changes (k : SlotId) (h : Changes π s₀ s) :
    Changes π s₀ (s.testOverfill k) := by
  dsimp only [State.testOverfill]
  (repeat' split) <;> simp (maxDischargeDepth := 60) [*]

@[simp] theorem writePlatform_changes (readings : Vector Platform 12) (k : SlotId) (h : Changes π
    s₀ s) :
    Changes π s₀ (State.writePlatform readings s k) := by
  simp (maxDischargeDepth := 60) [State.writePlatform, h]

@[simp] theorem takeBayReadings_changes (a : BayAnswer) (h : Changes π s₀ s) :
    Changes π s₀ (s.takeBayReadings a) := by
  simp +contextual (maxDischargeDepth := 60) [State.takeBayReadings, h]

@[simp] theorem vesselReady_changes (cls : VesselClass) (h : Changes π s₀ s) :
    Changes π s₀ (s.vesselReady cls) := by
  dsimp only [State.vesselReady]
  (repeat' split) <;> simp (maxDischargeDepth := 60) [*]

@[simp] theorem doInsertVessel_changes (slot id : Nat) (cls : VesselClass) (tare initial fill :
    Nat) (h : Changes ⟨true, fl⟩ s₀ s) :
    Changes ⟨true, fl⟩ s₀ (doInsertVessel slot id cls tare initial fill s) := by
  dsimp only [doInsertVessel]
  (repeat' split) <;> simp (maxDischargeDepth := 60) [*]

@[simp] theorem doCloseVessel_changes (slot : Nat) (h : Changes ⟨true, fl⟩ s₀ s) :
    Changes ⟨true, fl⟩ s₀ (doCloseVessel slot s) := by
  dsimp only [doCloseVessel]
  (repeat' split) <;> simp (maxDischargeDepth := 60) [*]

@[simp] theorem doRemoveVessel_changes (slot : Nat) (h : Changes ⟨true, fl⟩ s₀ s) :
    Changes ⟨true, fl⟩ s₀ (doRemoveVessel slot s) := by
  dsimp only [doRemoveVessel]
  (repeat' split) <;> simp (maxDischargeDepth := 60) [*]

@[simp] theorem doQueryVessel_changes (slot : Nat) (h : Changes ⟨true, fl⟩ s₀ s) :
    Changes ⟨true, fl⟩ s₀ (doQueryVessel slot s) := by
  dsimp only [doQueryVessel]
  (repeat' split) <;> simp (maxDischargeDepth := 60) [*]

/-! ## The Chamber Sequencer -/

@[simp] theorem onChamberUnit_changes (f : UnitRecord → UnitRecord) (kept : ∀ r, RecordKept r (f
    r)) (h : Changes π s₀ s) :
    Changes π s₀ (s.onChamberUnit f) := by
  dsimp only [State.onChamberUnit]
  (repeat' split) <;> simp (maxDischargeDepth := 60) [*]

@[simp] theorem handCabinet_changes (h : Changes π s₀ s) : Changes π s₀ (s.handCabinet) := by
  dsimp only [State.handCabinet]
  (repeat' split) <;> simp (maxDischargeDepth := 60) [Bank.addCabinet, *]

@[simp] theorem writeLastFoam_changes (tag : Tag) (g : Grams) (h : Changes π s₀ s) :
    Changes π s₀ (s.writeLastFoam tag g) := by
  dsimp only [State.writeLastFoam]
  (repeat' split) <;> simp (maxDischargeDepth := 60) [Bank.writeFoam, *]

@[simp] theorem recordFoam_changes (h : Changes π s₀ s) : Changes π s₀ (s.recordFoam) := by
  dsimp only [State.recordFoam]
  (repeat' split) <;> simp (maxDischargeDepth := 60) [*]

@[simp] theorem beginPurge_changes (repurge : Bool) (h : Changes π s₀ s) :
    Changes π s₀ (s.beginPurge repurge) := by
  simp (maxDischargeDepth := 60) [State.beginPurge, h]

@[simp] theorem beginShred_changes (h : Changes π s₀ s) : Changes π s₀ (s.beginShred) := by
  simp (maxDischargeDepth := 60) [State.beginShred, h]

@[simp] theorem beginClear_changes (h : Changes π s₀ s) : Changes π s₀ (s.beginClear) := by
  simp (maxDischargeDepth := 60) [State.beginClear, h]

/-- The head of the feed queue is taken. -/
@[simp] theorem takeHead_changes (tag : Tag) (rest : List Tag)
    (queue : s.chamber.feed = tag :: rest) (h : Changes π s₀ s) :
    Changes π s₀ (s.takeHead tag rest) := by
  have h := chamber_changes (fun c => { c with feed := rest, unit := some tag })
    (by simp [queue]) h
  simp (maxDischargeDepth := 60) [State.takeHead, h]

@[simp] theorem tryShred_changes (h : Changes π s₀ s) : Changes π s₀ (s.tryShred) := by
  dsimp only [State.tryShred]
  (repeat' split) <;> simp (maxDischargeDepth := 60) [*]

@[simp] theorem testChamber_changes (h : Changes π s₀ s) : Changes π s₀ (s.testChamber) := by
  have credit : s.spendChamberCredit.chamber = s.chamber := rfl
  dsimp only [State.testChamber]
  (repeat' split) <;> simp (maxDischargeDepth := 60) [*]

@[simp] theorem endChamberPhase_changes (p : ChamberPhase) (h : Changes π s₀ s) :
    Changes π s₀ (s.endChamberPhase p) := by
  simp (maxDischargeDepth := 60) [State.endChamberPhase, h]

@[simp] theorem endAirlock_changes (h : Changes π s₀ s) : Changes π s₀ (s.endAirlock) := by
  dsimp only [State.endAirlock]
  (repeat' split) <;> simp (maxDischargeDepth := 60) [*]

@[simp] theorem endShred_changes (h : Changes π s₀ s) : Changes π s₀ (s.endShred) := by
  dsimp only [State.endShred]
  (repeat' split) <;> simp (maxDischargeDepth := 60) [*]

@[simp] theorem returnToShred_changes (h : Changes π s₀ s) : Changes π s₀ (s.returnToShred) := by
  dsimp only [State.returnToShred]
  (repeat' split) <;> simp (maxDischargeDepth := 60) [*]

@[simp] theorem endPurgePhase_changes (h : Changes π s₀ s) : Changes π s₀ (s.endPurgePhase) := by
  dsimp only [State.endPurgePhase]
  (repeat' split) <;> simp (maxDischargeDepth := 60) [*]

@[simp] theorem pauseShred_changes (o2 : Nat) (h : Changes π s₀ s) :
    Changes π s₀ (s.pauseShred o2) := by
  simp (maxDischargeDepth := 60) [State.pauseShred, h]

@[simp] theorem faultChamberIn_changes (p : ChamberPhase) (h : Changes π s₀ s) :
    Changes π s₀ (s.faultChamberIn p) := by
  dsimp only [State.faultChamberIn]
  (repeat' split) <;> simp (maxDischargeDepth := 60) [*]

@[simp] theorem faultChamber_changes (h : Changes π s₀ s) : Changes π s₀ (s.faultChamber) :=
  faultChamberIn_changes _ h

@[simp] theorem purgeTimedOut_changes (h : Changes π s₀ s) : Changes π s₀ (s.purgeTimedOut) := by
  simp (maxDischargeDepth := 60) [State.purgeTimedOut, h]

@[simp] theorem suspendChamber_changes (h : Changes π s₀ s) : Changes π s₀ (s.suspendChamber) := by
  dsimp only [State.suspendChamber]
  (repeat' split) <;> simp (maxDischargeDepth := 60) [*]

@[simp] theorem bankLost_changes (h : Changes π s₀ s) : Changes π s₀ (s.bankLost) := by
  dsimp only [State.bankLost]
  (repeat' split) <;> simp (maxDischargeDepth := 60) [*]

@[simp] theorem returnChamber_changes (h : Changes π s₀ s) : Changes π s₀ (s.returnChamber) := by
  dsimp only [State.returnChamber]
  (repeat' split) <;> simp (maxDischargeDepth := 60) [*]

@[simp] theorem bankCondenses_changes (h : Changes π s₀ s) : Changes π s₀ (s.bankCondenses) := by
  dsimp only [State.bankCondenses]
  (repeat' split) <;> simp (maxDischargeDepth := 60) [*]

@[simp] theorem chamberOrderDone_changes (o : Order) (h : Changes π s₀ s) :
    Changes π s₀ (s.chamberOrderDone o) := by
  dsimp only [State.chamberOrderDone]
  (repeat' split) <;> simp (maxDischargeDepth := 60) [*]

@[simp] theorem chamberOrderFailed_changes (o : Order) (h : Changes π s₀ s) :
    Changes π s₀ (s.chamberOrderFailed o) := by
  dsimp only [State.chamberOrderFailed]
  (repeat' split) <;> simp (maxDischargeDepth := 60) [*]

@[simp] theorem chamberSilent_changes (h : Changes π s₀ s) : Changes π s₀ (s.chamberSilent) := by
  dsimp only [State.chamberSilent]
  (repeat' split) <;> simp (maxDischargeDepth := 60) [*]

@[simp] theorem warnLel_changes (lel : Nat) (h : Changes π s₀ s) :
    Changes π s₀ (s.warnLel lel) := by
  dsimp only [State.warnLel]
  (repeat' split) <;> simp (maxDischargeDepth := 60) [*]

@[simp] theorem testPause_changes (o2 : Nat) (h : Changes π s₀ s) :
    Changes π s₀ (s.testPause o2) := by
  dsimp only [State.testPause]
  (repeat' split) <;> simp (maxDischargeDepth := 60) [*]

@[simp] theorem testHigh_changes (inProgress : Bool) (o2 : Nat) (h : Changes π s₀ s) :
    Changes π s₀ (s.testHigh inProgress o2) := by
  dsimp only [State.testHigh]
  (repeat' split) <;> simp (maxDischargeDepth := 60) [*]

@[simp] theorem takeEmpty_changes (h : Changes π s₀ s) : Changes π s₀ (s.takeEmpty) := by
  dsimp only [State.takeEmpty]
  (repeat' split) <;> simp (maxDischargeDepth := 60) [*]

@[simp] theorem testPurgeEnd_changes (o2 : Nat) (h : Changes π s₀ s) :
    Changes π s₀ (s.testPurgeEnd o2) := by
  dsimp only [State.testPurgeEnd]
  (repeat' split) <;> simp (maxDischargeDepth := 60) [*]

@[simp] theorem takeChamberReadings_changes (before : Chamber) (r : ChamberReadings) (h : Changes
    π s₀ s) :
    Changes π s₀ (s.takeChamberReadings before r) := by
  dsimp only [State.takeChamberReadings]
  (repeat' split) <;> simp (maxDischargeDepth := 60) [*]

@[simp] theorem leaveClear_changes (h : Changes π s₀ s) : Changes π s₀ (s.leaveClear) := by
  dsimp only [State.leaveClear]
  (repeat' split) <;> simp (maxDischargeDepth := 60) [*]

@[simp] theorem resetChamber_changes (h : Changes π s₀ s) : Changes π s₀ (s.resetChamber) := by
  dsimp only [State.resetChamber]
  (repeat' split) <;> simp (maxDischargeDepth := 60) [*]

@[simp] theorem joinFeed_changes (tag : Tag) (room : s.chamber.feed.length < Config.feedSize) (h :
    Changes π s₀ s) :
    Changes π s₀ (s.joinFeed tag) := by
  refine h.step (.chamber _ _ fun _ => ?_)
  simpa [Chamber.feedSound] using room

@[simp] theorem doRelease_changes (station : Nat) (h : Changes ⟨true, fl⟩ s₀ s) :
    Changes ⟨true, fl⟩ s₀ (doRelease station s) := by
  dsimp only [doRelease]
  (repeat' split) <;> try exact send_changes _ (by simp) h
  rename_i room
  exact send_changes _ (by simp) (testChamber_changes (unclamp_changes _ (onUnit_changes _ _
    (fun _ => recordKept_of_same rfl rfl rfl rfl rfl rfl)
    (joinFeed_changes _ (Nat.lt_of_not_le room) h))))

@[simp] theorem doWithdrawFeed_changes (tag : Nat) (h : Changes ⟨true, fl⟩ s₀ s) :
    Changes ⟨true, fl⟩ s₀ (doWithdrawFeed tag s) := by
  dsimp only [doWithdrawFeed]
  (repeat' split) <;> simp (maxDischargeDepth := 60) [List.length_filter_le, *]

@[simp] theorem abortUnit_changes (tag : Tag) (h : Changes π s₀ s) :
    Changes π s₀ (s.abortUnit tag) := by
  simp (maxDischargeDepth := 60) [State.abortUnit, h]

@[simp] theorem doAbortChamber_changes (h : Changes ⟨true, fl⟩ s₀ s) :
    Changes ⟨true, fl⟩ s₀ (doAbortChamber s) := by
  dsimp only [doAbortChamber]
  (repeat' split) <;> simp (maxDischargeDepth := 60) [*]

/-! ## The Condenser -/

/-- A bank enters CONDENSING while the other bank is not. -/
@[simp] theorem enterCondensing_changes (bk : BankId)
    (free : (s.bank (otherBank bk)).state ≠ .condensing) (h : Changes π s₀ s) :
    Changes π s₀ (s.enterCondensing bk) :=
  bankCondenses_changes ((orderBank_changes _ h).step (.bank _ _ _ (fun _ => .inr free) .inl))

theorem not_condensing (h : s.condensing = none) (bk : BankId) :
    (s.bank bk).state ≠ .condensing := by
  have h : ∀ x ∈ bankIds, ¬ ((s.bank x).state == .condensing) = true := by
    simpa [State.condensing] using h
  have := h bk (by cases bk <;> simp [bankIds])
  simpa using this

@[simp] theorem tryCondense_changes (bk : BankId) (h : Changes π s₀ s) :
    Changes π s₀ (s.tryCondense bk) := by
  dsimp only [State.tryCondense]
  split
  · rename_i cond
    have none : s.condensing = none := by
      simp only [Bool.and_eq_true, Option.isNone_iff_eq_none] at cond
      exact cond.1.2
    exact enterCondensing_changes bk (not_condensing none _) h
  · exact h

@[simp] theorem otherBank_otherBank (bk : BankId) : otherBank (otherBank bk) = bk := by
  cases bk <;> rfl

@[simp] theorem enterDefrost_state (bk : BankId) :
    ((s.enterDefrost bk).bank bk).state = .defrost := by
  have either (c : Bool) (u v : State) (hu : (u.bank bk).state = .defrost)
      (hv : (v.bank bk).state = .defrost) : ((if c then u else v).bank bk).state = .defrost := by
    split
    · exact hu
    · exact hv
  exact either _ _ _ (congrArg Bank.state (bank_onBank s bk _))
    (congrArg Bank.state (bank_onBank s bk _))

@[simp] theorem swapBanks_changes (bk : BankId) (h : Changes π s₀ s) :
    Changes π s₀ (s.swapBanks bk) := by
  simp (maxDischargeDepth := 60) [State.swapBanks, h]

@[simp] theorem swapTest_changes (h : Changes π s₀ s) : Changes π s₀ (s.swapTest) := by
  dsimp only [State.swapTest]
  (repeat' split) <;> simp (maxDischargeDepth := 60) [*]

@[simp] theorem hardTest_changes (bk : BankId) (h : Changes π s₀ s) :
    Changes π s₀ (s.hardTest bk) := by
  dsimp only [State.hardTest]
  (repeat' split) <;> simp (maxDischargeDepth := 60) [*]

@[simp] theorem setPendingIf_changes (bk : BankId) (trigger : Bool) (h : Changes π s₀ s) :
    Changes π s₀ (s.setPendingIf bk trigger) := by
  simp (maxDischargeDepth := 60) [State.setPendingIf, h]

@[simp] theorem testTriggers_changes (h : Changes π s₀ s) : Changes π s₀ (s.testTriggers) := by
  dsimp only [State.testTriggers]
  (repeat' split) <;> simp (maxDischargeDepth := 60) [*]

@[simp] theorem testHardLoad_changes (h : Changes π s₀ s) : Changes π s₀ (s.testHardLoad) := by
  dsimp only [State.testHardLoad]
  (repeat' split) <;> simp (maxDischargeDepth := 60) [*]

@[simp] theorem enterCold_changes (bk : BankId) (h : Changes π s₀ s) :
    Changes π s₀ (s.enterCold bk) := by
  simp (maxDischargeDepth := 60) [State.enterCold, h]

@[simp] theorem endDefrost_changes (bk : BankId) (h : Changes π s₀ s) :
    Changes π s₀ (s.endDefrost bk) := by
  simp (maxDischargeDepth := 60) [State.endDefrost, h]

@[simp] theorem loseBank_changes (bk : BankId) (h : Changes π s₀ s) :
    Changes π s₀ (s.loseBank bk) := by
  simp (maxDischargeDepth := 60) [State.loseBank, h]

@[simp] theorem faultDrain_changes (bk : BankId) (h : Changes π s₀ s) :
    Changes π s₀ (s.faultDrain bk) := by
  simp (maxDischargeDepth := 60) [State.faultDrain, h]

@[simp] theorem faultBank_changes (bk : BankId) (h : Changes π s₀ s) :
    Changes π s₀ (s.faultBank bk) := by
  dsimp only [State.faultBank]
  (repeat' split) <;> simp (maxDischargeDepth := 60) [*]

@[simp] theorem bankOrderDone_changes (o : Order) (h : Changes π s₀ s) :
    Changes π s₀ (s.bankOrderDone o) := by
  dsimp only [State.bankOrderDone]
  (repeat' split) <;> simp (maxDischargeDepth := 60) [*]

@[simp] theorem bankOrderFailed_changes (o : Order) (h : Changes π s₀ s) :
    Changes π s₀ (s.bankOrderFailed o) := by
  dsimp only [State.bankOrderFailed]
  (repeat' split) <;> simp (maxDischargeDepth := 60) [*]

@[simp] theorem condenserSilent_changes (h : Changes π s₀ s) :
    Changes π s₀ (s.condenserSilent) := by
  simp +contextual (maxDischargeDepth := 60) [State.condenserSilent, h]

@[simp] theorem testTemperature_changes (bk : BankId) (t : Int) (h : Changes π s₀ s) :
    Changes π s₀ (s.testTemperature bk t) := by
  dsimp only [State.testTemperature]
  (repeat' split) <;> simp (maxDischargeDepth := 60) [*]

@[simp] theorem takeBank_changes (bk : BankId) (r : BankReading) (h : Changes π s₀ s) :
    Changes π s₀ (s.takeBank bk r) := by
  dsimp only [State.takeBank]
  (repeat' split) <;> simp (maxDischargeDepth := 60) [*]

@[simp] theorem takeInlet_changes (d : Grams) (h : Changes π s₀ s) :
    Changes π s₀ (s.takeInlet d) := by
  dsimp only [State.takeInlet]
  (repeat' split) <;> simp (maxDischargeDepth := 60) [*]

@[simp] theorem takeDrain_changes (d : Grams) (h : Changes π s₀ s) :
    Changes π s₀ (s.takeDrain d) := by
  dsimp only [State.takeDrain]
  (repeat' split) <;> simp (maxDischargeDepth := 60) [Bank.takeDelta, *]

@[simp] theorem takeCondenserReadings_changes (a : CondenserAnswer) (h : Changes π s₀ s) :
    Changes π s₀ (s.takeCondenserReadings a) := by
  simp (maxDischargeDepth := 60) [State.takeCondenserReadings, h]

@[simp] theorem coolTimedOut_changes (bk : BankId) (h : Changes π s₀ s) :
    Changes π s₀ (s.coolTimedOut bk) := by
  simp (maxDischargeDepth := 60) [State.coolTimedOut, h]

@[simp] theorem maxTimeReached_changes (bk : BankId) (h : Changes π s₀ s) :
    Changes π s₀ (s.maxTimeReached bk) := by
  simp (maxDischargeDepth := 60) [State.maxTimeReached, h]

@[simp] theorem overrunDefrost_changes (bk : BankId) (h : Changes π s₀ s) :
    Changes π s₀ (s.overrunDefrost bk) := by
  simp (maxDischargeDepth := 60) [State.overrunDefrost, h]

@[simp] theorem startBank_changes (bk : BankId) (h : Changes π s₀ s) :
    Changes π s₀ (s.startBank bk) := by
  dsimp only [State.startBank]
  (repeat' split) <;> simp (maxDischargeDepth := 60) [*]

@[simp] theorem startCondenser_changes (h : Changes π s₀ s) : Changes π s₀ s.startCondenser := by
  dsimp only [State.startCondenser]
  split
  · exact h
  · exact forAll_changes _ _ (fun _ _ h => startBank_changes _ h)
      (h.step (.marks s true s.condenser.lastDrainBank))

@[simp] theorem redrain_changes (bk : BankId) (h : Changes π s₀ s) :
    Changes π s₀ (s.redrain bk) := by
  dsimp only [State.redrain]
  (repeat' split) <;> simp (maxDischargeDepth := 60) [*]

@[simp] theorem resetBank_changes (bk : BankId) (h : Changes π s₀ s) :
    Changes π s₀ (s.resetBank bk) := by
  dsimp only [State.resetBank]
  (repeat' split) <;> simp (maxDischargeDepth := 60) [*]

@[simp] theorem resetCondenser_changes (h : Changes π s₀ s) : Changes π s₀ (s.resetCondenser) := by
  simp +contextual (maxDischargeDepth := 60) [State.resetCondenser, h]

@[simp] theorem emptyWindows_changes (h : Changes π s₀ s) : Changes π s₀ (s.emptyWindows) := by
  simp +contextual (maxDischargeDepth := 60) [State.emptyWindows, h]

@[simp] theorem doBankService_changes (bk : BankId) (h : Changes ⟨true, fl⟩ s₀ s) :
    Changes ⟨true, fl⟩ s₀ (doBankService bk s) := by
  dsimp only [doBankService]
  (repeat' split) <;> simp (maxDischargeDepth := 60) [*]

@[simp] theorem doSwapBanks_changes (h : Changes ⟨true, fl⟩ s₀ s) :
    Changes ⟨true, fl⟩ s₀ (doSwapBanks s) := by
  dsimp only [doSwapBanks]
  (repeat' split) <;> simp (maxDischargeDepth := 60) [*]

@[simp] theorem doQueryCondenser_changes (bk : BankId) (h : Changes ⟨true, fl⟩ s₀ s) :
    Changes ⟨true, fl⟩ s₀ (doQueryCondenser bk s) := by
  simp (maxDischargeDepth := 60) [doQueryCondenser, h]

/-! ## Line Control -/

@[simp] theorem lineEntered_changes (h : Changes π s₀ s) : Changes π s₀ (s.lineEntered) := by
  simp +contextual (maxDischargeDepth := 60) [State.lineEntered, h]

@[simp] theorem withdrawCredits_changes (h : Changes π s₀ s) : Changes π s₀ s.withdrawCredits :=
  control_changes _ (controlKept_credits rfl rfl rfl rfl fun e n => by
    obtain ⟨e1, e2, e3, e4⟩ := e n
    simp [e1, e2, e3, e4]) h

@[simp] theorem testStepEnd_changes (h : Changes π s₀ s) : Changes π s₀ s.testStepEnd := by
  dsimp only [State.testStepEnd]
  split
  · rename_i c
    have line : s.halted = false := by
      simp only [Bool.and_eq_true, beq_iff_eq] at c
      simp [State.halted, c.1.1]
    exact raise_changes _ _ _ (lineStop_changes line h)
  · exact h

@[simp] theorem settleBlocks_changes (h : Changes π s₀ s) : Changes π s₀ (s.settleBlocks) := by
  simp (maxDischargeDepth := 60) [State.settleBlocks, h]

/-- The line enters RUN or STEP from STOPPED, with the credits and holders that it then has. -/
theorem controlKept_enter {c c' : LineControl} (stopped : c.line = .stopped)
    (line : c'.line = .run ∨ c'.line = .step) (settings : c'.settings = c.settings)
    (pin : c'.haltPin = c.haltPin) (watch : c'.watch = c.watch)
    (run : c'.line = .run → c'.credits = c.credits ∧ c'.chamberCredit = c.chamberCredit ∧
      c'.holders = c.holders ∧ c'.chamberHolder = c.chamberHolder) : ControlKept true c c' where
  settings := .inl settings
  halt e := by
    have e : c.haltPin = false := by rw [haltAgrees, stopped] at e; exact e
    rcases line with l | l <;> (rw [haltAgrees, pin, e, l]; rfl)
  stepOnly e n := by
    rcases line with l | l
    · obtain ⟨r1, r2, r3, r4⟩ := run l
      rw [r1, r2, r3, r4]
      exact e (by simp [stopped])
    · exact absurd l n
  watch e := by simpa [LineControl.watchSound, watch] using e

@[simp] theorem doStart_changes (h : Changes ⟨true, fl⟩ s₀ s) : Changes ⟨true, fl⟩ s₀ (doStart s) := by
  dsimp only [doStart]
  split
  · rename_i l
    exact send_changes _ (by simp) (startCondenser_changes (lineEntered_changes
      (control_changes _ (controlKept_enter l (.inl rfl) rfl rfl rfl fun _ => ⟨rfl, rfl, rfl, rfl⟩)
        h)))
  all_goals exact send_changes _ (by simp) h

@[simp] theorem doStop_changes (h : Changes ⟨true, fl⟩ s₀ s) : Changes ⟨true, fl⟩ s₀ (doStop s) := by
  dsimp only [doStop]
  split
  · exact send_changes _ (by simp) h
  · exact send_changes _ (by simp) (lineStop_changes (by simp_all [State.halted]) h)
  · exact send_changes _ (by simp) (lineStop_changes (by simp_all [State.halted]) h)
  · exact send_changes _ (by simp) h

@[simp] theorem doStep_changes (h : Changes ⟨true, fl⟩ s₀ s) : Changes ⟨true, fl⟩ s₀ (doStep s) := by
  dsimp only [doStep]
  split
  · exact send_changes _ (by simp) h
  · exact send_changes _ (by simp) h
  · exact send_changes _ (by simp) h
  · rename_i l
    refine send_changes _ (by simp) (settleBlocks_changes (lineEntered_changes ?_))
    exact control_changes (s := s) _ (controlKept_enter l (.inr rfl) rfl rfl rfl nofun) h

theorem controlKept_setWatch (c : LineControl) (w : WatchEntry) (tag : w.tag ≠ 0)
    (phase : isWatchPhase w.phase = true) (new : w ∉ c.watch)
    (room : c.watch.length < Config.watchSize) :
    ControlKept true c { c with watch := c.watch ++ [w] } where
  settings := .inl rfl
  halt e := e
  stepOnly e := e
  watch e := by
    obtain ⟨_, h2, h3⟩ := e
    refine ⟨by simpa using room, List.nodup_append.mpr ⟨h2, by simp, ?_⟩, ?_⟩
    · intro x hx y hy e
      simp_all
    · intro x hx
      rcases List.mem_append.mp hx with hx | hx
      · exact h3 x hx
      · rw [List.mem_singleton.mp hx]
        exact ⟨tag, phase⟩

@[simp] theorem doSetWatch_changes (tag : Nat) (phase : PhaseName) (h : Changes ⟨true, fl⟩ s₀ s) :
    Changes ⟨true, fl⟩ s₀ (doSetWatch tag phase s) := by
  dsimp only [doSetWatch]
  split
  · exact send_changes _ (by simp) h
  · split
    · exact send_changes _ (by simp) h
    · split
      · exact send_changes _ (by simp) h
      · refine send_changes _ (by simp) (control_changes _ (controlKept_setWatch _ _ ?_ ?_ ?_ ?_) h) <;>
          simp_all

theorem clearedWatch_sublist (ws : List WatchEntry) (which : WatchChoice) :
    (clearedWatch ws which).Sublist ws := by
  cases which with
  | entry => exact List.filter_sublist
  | all => exact List.nil_sublist _

theorem controlKept_fewerWatches (c : LineControl) (ws : List WatchEntry)
    (fewer : ws.Sublist c.watch) : ControlKept true c { c with watch := ws } where
  settings := .inl rfl
  halt e := e
  stepOnly e := e
  watch e := ⟨Nat.le_trans fewer.length_le e.1, e.2.1.sublist fewer,
    fun w hw => e.2.2 w (fewer.subset hw)⟩

@[simp] theorem doClearWatch_changes (which : WatchChoice) (h : Changes ⟨true, fl⟩ s₀ s) :
    Changes ⟨true, fl⟩ s₀ (doClearWatch which s) :=
  send_changes _ (by simp) (control_changes _ (controlKept_fewerWatches _ _ (clearedWatch_sublist ..)) h)

@[simp] theorem doStatus_changes (h : Changes ⟨true, fl⟩ s₀ s) :
    Changes ⟨true, fl⟩ s₀ (doStatus s) := by
  simp (maxDischargeDepth := 60) [doStatus, h]

@[simp] theorem settingChanged_changes (name : SettingName) (h : Changes π s₀ s) :
    Changes π s₀ (s.settingChanged name) := by
  dsimp only [State.settingChanged]
  (repeat' split) <;> simp (maxDischargeDepth := 60) [*]

theorem controlKept_setting (c : LineControl) (name : SettingName) (v : Nat)
    (low : settingLow c.settings name ≤ v) (high : v ≤ settingHigh c.settings name) :
    ControlKept true c { c with settings := writeSetting c.settings name v } where
  settings := .inr ⟨rfl, name, v, low, high, rfl⟩
  halt e := e
  stepOnly e := e
  watch e := e

@[simp] theorem doSetLimit_changes (name : SettingName) (v : Nat) (h : Changes ⟨true, fl⟩ s₀ s) :
    Changes ⟨true, fl⟩ s₀ (doSetLimit name v s) := by
  dsimp only [doSetLimit]
  split
  · exact send_changes _ (by simp) h
  · exact send_changes _ (by simp) h
  · exact send_changes _ (by simp) h
  · split
    · rename_i fit
      simp only [Bool.and_eq_true, decide_eq_true_eq] at fit
      exact send_changes _ (by simp) (settingChanged_changes name
        (control_changes _ (controlKept_setting _ name v fit.1 fit.2) h))
    · exact send_changes _ (by simp) h

@[simp] theorem doGetLimit_changes (name : SettingName) (h : Changes ⟨true, fl⟩ s₀ s) :
    Changes ⟨true, fl⟩ s₀ (doGetLimit name s) := by
  simp (maxDischargeDepth := 60) [doGetLimit, h]

@[simp] theorem doSetMasks_changes (m : Masks) (h : Changes ⟨true, fl⟩ s₀ s) :
    Changes ⟨true, fl⟩ s₀ (doSetMasks m s) :=
  send_changes _ (by simp) (setMonitor_changes _ (.masks ..) h)

@[simp] theorem doReport_changes (h : Changes ⟨true, fl⟩ s₀ s) : Changes ⟨true, fl⟩ s₀ (doReport s) := by
  dsimp only [doReport]
  split
  · exact send_changes _ (by simp) (setMonitor_changes _ (.report ..) h)
  · exact send_changes _ (by simp) h

@[simp] theorem doReset_changes (kind : ResetKind) (h : Changes ⟨true, fl⟩ s₀ s) :
    Changes ⟨true, fl⟩ s₀ (doReset kind s) := by
  simp (maxDischargeDepth := 60) [doReset, h]

@[simp] theorem resetTrain_changes (t : TrainId) (h : Changes π s₀ s) :
    Changes π s₀ (s.resetTrain t) := by
  dsimp only [State.resetTrain]
  (repeat' split) <;> simp (maxDischargeDepth := 60) [*]

@[simp] theorem closeAllEntries_changes (h : Changes π s₀ s) : Changes π s₀ s.closeAllEntries :=
  register_changes _ (.write _ _ recordKept_closeEntry) h

@[simp] theorem resetLine_changes (h : Changes π s₀ s) : Changes π s₀ s.resetLine :=
  control_changes _ (controlKept_reset s.control) h

@[simp] theorem resetBlocks_changes (h : Changes π s₀ s) : Changes π s₀ (s.resetBlocks) := by
  simp +contextual (maxDischargeDepth := 60) [State.resetBlocks, h]

@[simp] theorem lineResetAction_changes (h : Changes π s₀ s) :
    Changes π s₀ (s.lineResetAction) := by
  simp (maxDischargeDepth := 60) [State.lineResetAction, h]

@[simp] theorem emptyTables_changes (h : Changes ⟨true, fl⟩ s₀ s) : Changes ⟨true, fl⟩ s₀ s.emptyTables := by
  have h := register_changes _ (.empty s.register) h
  have h := forAll_changes slotIds (fun s k => s.setSlot k (s.slot k).cleared)
    (fun _ _ h => setSlot_changes _ _ h) h
  exact onChamber_changes (fun c => { c with feed := [] }) (fun _ => Nat.zero_le _)
    (setRequests_changes _ (List.nil_sublist _) (setQueue_changes _ (List.nil_sublist _) h))

@[simp] theorem dropUnits_changes (h : Changes π s₀ s) : Changes π s₀ (s.dropUnits) := by
  simp +contextual (maxDischargeDepth := 60) [State.dropUnits, h]

@[simp] theorem clearResetAction_changes (h : Changes ⟨true, fl⟩ s₀ s) : Changes ⟨true, fl⟩ s₀ s.clearResetAction := by
  have h := setMonitor_changes _ (.empty s.monitor) h
  have h := control_changes _ (controlKept_fewerWatches _ _ (List.nil_sublist _)) h
  exact dropUnits_changes (resetCondenser_changes (emptyWindows_changes (resetChamber_changes
    (emptyTables_changes (resetBlocks_changes h)))))

/-! ## The Command Line -/

@[simp] theorem perform_changes (c : Command) (h : Changes ⟨true, fl⟩ s₀ s) :
    Changes ⟨true, fl⟩ s₀ (perform c s) := by
  dsimp only [perform]
  (repeat' split) <;> simp (maxDischargeDepth := 60) [*]

@[simp] theorem takeLine_changes (l : Line) (h : Changes ⟨true, fl⟩ s₀ s) :
    Changes ⟨true, fl⟩ s₀ (s.takeLine l) := by
  dsimp only [State.takeLine]
  (repeat' split) <;> simp (maxDischargeDepth := 60) [*]

@[simp] theorem bufferLine_changes (l : Line) (h : Changes ⟨true, true⟩ s₀ s) :
    Changes ⟨true, true⟩ s₀ (s.bufferLine l) := by
  dsimp only [State.bufferLine]
  split
  · exact h.step (.link _ _ (fun _ hl => .inl hl) (.inl rfl))
  · exact raise_changes _ _ _ h

@[simp] theorem receive_changes (l : Line) (h : Changes ⟨true, true⟩ s₀ s) :
    Changes ⟨true, true⟩ s₀ (s.receive l) := by
  dsimp only [State.receive]
  (repeat' split) <;> simp (maxDischargeDepth := 60) [*]

@[simp] theorem submit_changes (c : Command) (h : Changes ⟨true, true⟩ s₀ s) :
    Changes ⟨true, true⟩ s₀ (submit c s) := by
  dsimp only [submit]
  (repeat' split) <;> simp (maxDischargeDepth := 60) [*]

@[simp] theorem completeLine_changes (received : List RxChar) (h : Changes ⟨true, true⟩ s₀ s) :
    Changes ⟨true, true⟩ s₀ (completeLine received s) := by
  dsimp only [completeLine]
  split
  · exact h.step (.link _ _ (fun _ hl => .inl hl) (.inl rfl))
  · exact receive_changes _ (h.step (.link _ _ (fun _ hl => .inl hl) (.inl rfl)))

@[simp] theorem takeBuffered_changes (h : Changes ⟨true, fl⟩ s₀ s) : Changes ⟨true, fl⟩ s₀ s.takeBuffered := by
  dsimp only [State.takeBuffered]
  split
  · exact setLink_changes _ h
  · exact takeLine_changes _ ((setLink_changes _ h).step
      (.link _ _ (fun _ hl => .inl hl) (.inr fun _ => rfl)))

@[simp] theorem answerHeld_changes (q : HeldQuery) (final : Bool) (h : Changes ⟨true, fl⟩ s₀ s) :
    Changes ⟨true, fl⟩ s₀ (s.answerHeld q final) := by
  simp (maxDischargeDepth := 60) [State.answerHeld, h]

@[simp] theorem endHeld_changes (h : Changes ⟨true, fl⟩ s₀ s) :
    Changes ⟨true, fl⟩ s₀ (s.endHeld) := by
  dsimp only [State.endHeld]
  (repeat' split) <;> simp (maxDischargeDepth := 60) [*]

@[simp] theorem endHold_changes (h : Changes ⟨true, fl⟩ s₀ s) :
    Changes ⟨true, fl⟩ s₀ (s.endHold) :=
  endHeld_changes (endHeld_changes h)

@[simp] theorem finish_changes (h : Changes π s₀ s) : Changes π s₀ s.finish := by
  have h := h.step (.count s (s.freeCount + 1))
  have h := setMonitor_changes (s := { s with freeCount := s.freeCount + 1 })
    { s.monitor with attn := s.attnLevel } (.attn ..) h
  exact h.step (.control _ { s.control with hitTop := none }
    (controlKept_credits (c := s.control) rfl rfl rfl rfl id))

@[simp] theorem afterEvent_changes (h : Changes ⟨true, fl⟩ s₀ s) :
    Changes ⟨true, fl⟩ s₀ (s.afterEvent) := by
  simp (maxDischargeDepth := 60) [State.afterEvent, h]

@[simp] theorem event_changes (f : State → State) (effect : ∀ s, Changes ⟨true, fl⟩ s₀ s → Changes ⟨true, fl⟩ s₀ (f s))
    (h : Changes ⟨true, fl⟩ s₀ s) : Changes ⟨true, fl⟩ s₀ (event f s) := by
  dsimp only [event]
  split
  · exact h
  · exact afterEvent_changes (effect _ h)

@[simp] theorem takeReset_changes (kind : ResetKind) (act : State → State)
    (acts : ∀ s, Changes ⟨true, fl⟩ s₀ s → Changes ⟨true, fl⟩ s₀ (act s)) (h : Changes ⟨true, fl⟩ s₀ s) :
    Changes ⟨true, fl⟩ s₀ (s.takeReset kind act) := by
  dsimp only [State.takeReset]
  split
  · exact takeBuffered_changes (settleBlocks_changes (acts _ h))
  · exact h

/-! ## The end of a hold (R21, R187) -/

/-- A line taken as a command fills no buffer. -/
theorem takeLine_buffer (l : Line) (empty : s.link.buffer = none) :
    (s.takeLine l).link.buffer = none :=
  (takeLine_changes (fl := false) l (.refl s)).buffer empty

theorem settleBlocks_link : s.settleBlocks.link = s.link :=
  (settleBlocks_changes (π := ⟨false, false⟩) (.refl s)).link

theorem endHeld_of_ready (ready : s.link.state = .ready) : s.endHeld = s := by
  simp [State.endHeld, ready]

/-- With nothing in the buffer, one look ends every hold that the event ends. -/
theorem endHold_of_noBuffer (empty : s.link.buffer = none) : s.endHold = s.endHeld := by
  unfold State.endHold
  rcases held : s.link.state with _ | q | _ | _
  case held =>
    by_cases o : s.openAccumulation q.tag = true
    · simp [State.endHeld, held, o]
    · apply endHeld_of_ready
      simp only [State.endHeld, held, o]
      simp [settleBlocks_link, State.answerHeld, State.takeBuffered, empty]
  all_goals simp [State.endHeld, held]

/-! ## The Field Loop -/

@[simp] theorem tickStation_changes (dt : Moment) (i : StationId) (h : Changes π s₀ s) :
    Changes π s₀ (State.tickStation dt s i) := by
  dsimp only [State.tickStation]
  (repeat' split) <;> simp (maxDischargeDepth := 60) [*]

@[simp] theorem tickBank_changes (dt : Moment) (bk : BankId) (h : Changes π s₀ s) :
    Changes π s₀ (State.tickBank dt s bk) := by
  dsimp only [State.tickBank]
  (repeat' split) <;> simp (maxDischargeDepth := 60) [*]

@[simp] theorem advance_changes (dt : Moment) (h : Changes ⟨cmd, true⟩ s₀ s) : Changes ⟨cmd, true⟩ s₀ (s.advance dt) :=
  (forAll_changes _ _ (fun _ _ h => tickBank_changes _ _ h)
    (forAll_changes _ _ (fun _ _ h => tickStation_changes _ _ h) h)).step (.time ..)

@[simp] theorem advanceTo_changes (t : Moment) (h : Changes ⟨cmd, true⟩ s₀ s) :
    Changes ⟨cmd, true⟩ s₀ (s.advanceTo t) := by
  simp (maxDischargeDepth := 60) [State.advanceTo, h]

@[simp] theorem removeOrder_changes (o : Order) (h : Changes π s₀ s) :
    Changes π s₀ (s.removeOrder o) :=
  setOrders_changes _ (fun p hp => ⟨p, List.mem_of_mem_filter hp, rfl⟩) h

@[simp] theorem acknowledge_changes (o : Order) (h : Changes π s₀ s) :
    Changes π s₀ (s.acknowledge o) := by
  refine setOrders_changes _ (fun p hp => ?_) h
  obtain ⟨q, hq, e⟩ := List.mem_map.mp hp
  refine ⟨q, hq, ?_⟩
  rw [← e]
  split <;> rfl

@[simp] theorem stationNodeFailed_changes (i : StationId) (o : Order) (h : Changes π s₀ s) :
    Changes π s₀ (s.stationNodeFailed i o) := by
  dsimp only [State.stationNodeFailed]
  (repeat' split) <;> simp (maxDischargeDepth := 60) [*]

@[simp] theorem orderFails_changes (o : Order) (h : Changes π s₀ s) :
    Changes π s₀ (s.orderFails o) := by
  dsimp only [State.orderFails]
  (repeat' split) <;> simp (maxDischargeDepth := 60) [*]

@[simp] theorem endFailed_changes (kind : ConditionKind) (o : Order) (h : Changes π s₀ s) :
    Changes π s₀ (s.endFailed kind o) := by
  simp (maxDischargeDepth := 60) [State.endFailed, h]

@[simp] theorem takeReport_changes (n : Node) (done : State → Order → State) (r : OrderReport)
    (ends : ∀ s o, Changes π s₀ s → Changes π s₀ (done s o)) (h : Changes π s₀ s) :
    Changes π s₀ (s.takeReport n done r) := by
  dsimp only [State.takeReport]
  split
  · exact h
  · split
    · exact acknowledge_changes _ h
    · exact ends _ _ (removeOrder_changes _ h)
    · exact endFailed_changes _ _ h

@[simp] theorem silenceCleared_changes (n : Node) (h : Changes π s₀ s) :
    Changes π s₀ (s.silenceCleared n) := by
  dsimp only [State.silenceCleared]
  (repeat' split) <;> simp (maxDischargeDepth := 60) [*]

@[simp] theorem takeAnswer_changes (n : Node) (moment : Moment) (reports : List OrderReport)
    (done : State → Order → State) (quantities : State → State)
    (ends : ∀ s o, Changes ⟨cmd, true⟩ s₀ s → Changes ⟨cmd, true⟩ s₀ (done s o))
    (reads : ∀ s, Changes ⟨cmd, true⟩ s₀ s → Changes ⟨cmd, true⟩ s₀ (quantities s)) (h : Changes ⟨cmd, true⟩ s₀ s) :
    Changes ⟨cmd, true⟩ s₀ (s.takeAnswer n moment reports done quantities) := by
  have h := reads _ (forAll_changes reports _ (fun _ r h => takeReport_changes n done r ends h)
    (setNode_changes n answered (advanceTo_changes moment h)))
  dsimp only [State.takeAnswer]
  split
  · exact silenceCleared_changes _ h
  · exact h

@[simp] theorem stationNodeDone_changes (i : StationId) (a : StationAnswer) (o : Order) (h :
    Changes π s₀ s) :
    Changes π s₀ (stationNodeDone i a s o) := by
  dsimp only [stationNodeDone]
  (repeat' split) <;> simp (maxDischargeDepth := 60) [*]

@[simp] theorem stationQuantities_changes (i : StationId) (before : Station) (a : StationAnswer)
    (h : Changes π s₀ s) :
    Changes π s₀ (stationQuantities i before a s) := by
  simp (maxDischargeDepth := 60) [stationQuantities, h]

@[simp] theorem takeStation_changes (i : StationId) (a : StationAnswer) (h : Changes ⟨cmd, true⟩
    s₀ s) :
    Changes ⟨cmd, true⟩ s₀ (takeStation i a s) := by
  simp +contextual (maxDischargeDepth := 60) [takeStation, h]

@[simp] theorem takeAnalyser_changes (a : AnalyserAnswer) (h : Changes ⟨cmd, true⟩ s₀ s) :
    Changes ⟨cmd, true⟩ s₀ (takeAnalyser a s) := by
  simp +contextual (maxDischargeDepth := 60) [takeAnalyser, h]

@[simp] theorem testDischarge_changes (t : TrainId) (discharge : Nat) (h : Changes π s₀ s) :
    Changes π s₀ (s.testDischarge t discharge) := by
  dsimp only [State.testDischarge]
  (repeat' split) <;> simp (maxDischargeDepth := 60) [*]

@[simp] theorem takeDelta_changes (t : TrainId) (d : Grams) (h : Changes π s₀ s) :
    Changes π s₀ (s.takeDelta t d) := by
  dsimp only [State.takeDelta]
  (repeat' split) <;> simp (maxDischargeDepth := 60) [*]

@[simp] theorem trainQuantities_changes (t : TrainId) (before : TrainState) (a : TrainAnswer) (h :
    Changes π s₀ s) :
    Changes π s₀ (trainQuantities t before a s) := by
  dsimp only [trainQuantities]
  (repeat' split) <;> simp (maxDischargeDepth := 60) [*]

@[simp] theorem takeTrain_changes (t : TrainId) (a : TrainAnswer) (h : Changes ⟨cmd, true⟩ s₀ s) :
    Changes ⟨cmd, true⟩ s₀ (takeTrain t a s) := by
  simp +contextual (maxDischargeDepth := 60) [takeTrain, h]

@[simp] theorem takeBay_changes (a : BayAnswer) (h : Changes ⟨cmd, true⟩ s₀ s) :
    Changes ⟨cmd, true⟩ s₀ (takeBay a s) := by
  simp +contextual (maxDischargeDepth := 60) [takeBay, h]

@[simp] theorem takeChamber_changes (a : ChamberAnswer) (h : Changes ⟨cmd, true⟩ s₀ s) :
    Changes ⟨cmd, true⟩ s₀ (takeChamber a s) := by
  simp +contextual (maxDischargeDepth := 60) [takeChamber, h]

@[simp] theorem takeCondenser_changes (a : CondenserAnswer) (h : Changes ⟨cmd, true⟩ s₀ s) :
    Changes ⟨cmd, true⟩ s₀ (takeCondenser a s) := by
  simp +contextual (maxDischargeDepth := 60) [takeCondenser, h]

@[simp] theorem testGas_changes (lel : Nat) (h : Changes π s₀ s) :
    Changes π s₀ (s.testGas lel) := by
  dsimp only [State.testGas]
  (repeat' split) <;> simp (maxDischargeDepth := 60) [*]

@[simp] theorem testStopInput_changes (active doorOpen : Bool) (h : Changes π s₀ s) :
    Changes π s₀ (s.testStopInput active doorOpen) := by
  dsimp only [State.testStopInput]
  (repeat' split) <;> simp (maxDischargeDepth := 60) [*]

@[simp] theorem takeSafety_changes (a : SafetyAnswer) (h : Changes ⟨cmd, true⟩ s₀ s) :
    Changes ⟨cmd, true⟩ s₀ (takeSafety a s) := by
  simp +contextual (maxDischargeDepth := 60) [takeSafety, h]

@[simp] theorem ownerSilent_changes (n : Node) (h : Changes π s₀ s) :
    Changes π s₀ (s.ownerSilent n) := by
  dsimp only [State.ownerSilent]
  (repeat' split) <;> simp (maxDischargeDepth := 60) [*]

@[simp] theorem failBySilence_changes (o : Order) (h : Changes π s₀ s) :
    Changes π s₀ (s.failBySilence o) := by
  dsimp only [State.failBySilence]
  (repeat' split) <;> simp (maxDischargeDepth := 60) [*]

@[simp] theorem declareSilent_changes (n : Node) (h : Changes ⟨cmd, true⟩ s₀ s) :
    Changes ⟨cmd, true⟩ s₀ (s.declareSilent n) := by
  dsimp only [State.declareSilent]
  (repeat' split) <;> simp +contextual (maxDischargeDepth := 60) [*]

@[simp] theorem missAnswer_changes (n : Node) (moment : Moment) (h : Changes ⟨cmd, true⟩ s₀ s) :
    Changes ⟨cmd, true⟩ s₀ (missAnswer n moment s) := by
  dsimp only [missAnswer]
  (repeat' split) <;> simp (maxDischargeDepth := 60) [*]

@[simp] theorem pollNext_changes (moment : Moment) (h : Changes ⟨cmd, true⟩ s₀ s) :
    Changes ⟨cmd, true⟩ s₀ (pollNext moment s) := (advanceTo_changes moment h).step (.poll ..)

@[simp] theorem expire_changes (deadline : Option Moment) (f : State → State)
    (effect : ∀ s, Changes ⟨cmd, true⟩ s₀ s → Changes ⟨cmd, true⟩ s₀ (f s)) (h : Changes ⟨cmd, true⟩ s₀ s) :
    Changes ⟨cmd, true⟩ s₀ (s.expire deadline f) := by
  dsimp only [State.expire]
  split
  · exact effect _ (advanceTo_changes _ h)
  · exact h

@[simp] theorem timeOutOrder_changes (number : Nat) (h : Changes ⟨cmd, true⟩ s₀ s) :
    Changes ⟨cmd, true⟩ s₀ (timeOutOrder number s) := by
  dsimp only [timeOutOrder]
  (repeat' split) <;> simp (maxDischargeDepth := 60) [*]

@[simp] theorem expireHold_changes (h : Changes ⟨true, true⟩ s₀ s) :
    Changes ⟨true, true⟩ s₀ (expireHold s) := by
  dsimp only [expireHold]
  (repeat' split) <;> simp (maxDischargeDepth := 60) [*]

@[simp] theorem overtime_changes (i : StationId) (h : Changes ⟨cmd, true⟩ s₀ s) :
    Changes ⟨cmd, true⟩ s₀ (overtime i s) := by
  dsimp only [overtime]
  (repeat' split) <;> simp (maxDischargeDepth := 60) [*]

@[simp] theorem oilDeadlinePasses_changes (i : StationId) (h : Changes ⟨cmd, true⟩ s₀ s) :
    Changes ⟨cmd, true⟩ s₀ (oilDeadlinePasses i s) := by
  dsimp only [oilDeadlinePasses]
  split <;> simp +contextual (maxDischargeDepth := 60) [*]

@[simp] theorem purgeEndPasses_changes (t : TrainId) (h : Changes ⟨cmd, true⟩ s₀ s) :
    Changes ⟨cmd, true⟩ s₀ (purgeEndPasses t s) := by
  dsimp only [purgeEndPasses]
  split <;> simp +contextual (maxDischargeDepth := 60) [*]

@[simp] theorem tailEndPasses_changes (t : TrainId) (h : Changes ⟨cmd, true⟩ s₀ s) :
    Changes ⟨cmd, true⟩ s₀ (tailEndPasses t s) := by
  dsimp only [tailEndPasses]
  split <;> simp +contextual (maxDischargeDepth := 60) [*]

@[simp] theorem chamberPurgePasses_changes (h : Changes ⟨cmd, true⟩ s₀ s) :
    Changes ⟨cmd, true⟩ s₀ (chamberPurgePasses s) := by
  dsimp only [chamberPurgePasses]
  split <;> simp +contextual (maxDischargeDepth := 60) [*]

@[simp] theorem clearEndPasses_changes (h : Changes ⟨cmd, true⟩ s₀ s) :
    Changes ⟨cmd, true⟩ s₀ (clearEndPasses s) := by
  dsimp only [clearEndPasses]
  split <;> simp +contextual (maxDischargeDepth := 60) [*]

@[simp] theorem coolDeadlinePasses_changes (bk : BankId) (h : Changes ⟨cmd, true⟩ s₀ s) :
    Changes ⟨cmd, true⟩ s₀ (coolDeadlinePasses bk s) := by
  dsimp only [coolDeadlinePasses]
  split <;> simp +contextual (maxDischargeDepth := 60) [*]

@[simp] theorem maxTimePasses_changes (bk : BankId) (h : Changes ⟨cmd, true⟩ s₀ s) :
    Changes ⟨cmd, true⟩ s₀ (maxTimePasses bk s) := by
  dsimp only [maxTimePasses]
  (repeat' split) <;> simp (maxDischargeDepth := 60) [*]

@[simp] theorem defrostDeadlinePasses_changes (bk : BankId) (h : Changes ⟨cmd, true⟩ s₀ s) :
    Changes ⟨cmd, true⟩ s₀ (defrostDeadlinePasses bk s) := by
  dsimp only [defrostDeadlinePasses]
  split <;> simp +contextual (maxDischargeDepth := 60) [*]

@[simp] theorem drainDeadlinePasses_changes (bk : BankId) (h : Changes ⟨cmd, true⟩ s₀ s) :
    Changes ⟨cmd, true⟩ s₀ (drainDeadlinePasses bk s) := by
  dsimp only [drainDeadlinePasses]
  split <;> simp +contextual (maxDischargeDepth := 60) [*]

/-! ## Every command -/

/-- Every command and event but the two of the RESET pin answers a state that a run of changes makes. -/
theorem exec_changes (c : Instr) (s : State) (assert : c ≠ .resetPinAsserted)
    (release : c ≠ .powerOnReset) : ∃ t, exec c s = .next t ∧ Changes ⟨true, true⟩ s t := by
  cases c
  case resetPinAsserted => exact absurd rfl assert
  case powerOnReset => exact absurd rfl release
  all_goals
    refine ⟨_, rfl, event_changes _ (fun _ h => ?_) (.refl s)⟩
    simp +contextual (maxDischargeDepth := 60) [h]

end

end Sys2Proof.Laws
end

