-- ==== Sys2Proof/Laws/Shared.lean ====
section
/-!
SUPPORT. What the shared operations leave alone and what they do, said once: the rows that are commands,
the numbers of a command, time, a raised condition, the line stop and the watch.
-/

namespace Sys2Proof.Laws

open Sys2Proof.Machine

/-! ## The rows that are commands -/

/-- A command taken in READY does what its owner does, and then what every event ends with. -/
theorem exec_rowFor (c : Command) (s : State) (h : s.takesCommand) :
    exec (rowFor c) s = .next (perform c s).afterEvent := by
  have e : exec (rowFor c) s = .next (event (submit c) s) := by cases c <;> rfl
  rw [e, event, h.1]
  simp [submit, h.2]

/-- A refusal table holds of a command whose owner sends its reasons. -/
theorem refuses_of_perform (c : Command) (s : State) (h : s.takesCommand) (w : CommandWord)
    (table : List (Bool × Reason))
    (answers : ∀ r, firstRefusal table = some r → perform c s = s.send [noLine w r]) :
    s.refuses (rowFor c) w table := by
  intro r hr
  rw [exec_rowFor c s h, answers r hr]

/-! ## The numbers of a command -/

theorem stationOf_none (n : Nat) : stationOf n = none ↔ n = 0 ∨ 8 < n := by
  unfold stationOf
  split <;> simp <;> omega

theorem stationOf_some {n : Nat} {i : StationId} (h : stationOf n = some i) : n = i.val + 1 := by
  unfold stationOf at h
  split at h
  · cases h
    simp
    omega
  · cases h

theorem trainOf_none (n : Nat) : trainOf n = none ↔ n = 0 ∨ 4 < n := by
  unfold trainOf
  split <;> simp <;> omega

theorem trainOf_some {n : Nat} {t : TrainId} (h : trainOf n = some t) : n = t.val + 1 := by
  unfold trainOf at h
  split at h
  · cases h
    simp
    omega
  · cases h

theorem slotOf_none (n : Nat) : slotOf n = none ↔ n = 0 ∨ 12 < n := by
  unfold slotOf
  split <;> simp <;> omega

theorem slotOf_some {n : Nat} {k : SlotId} (h : slotOf n = some k) : n = k.val + 1 := by
  unfold slotOf at h
  split at h
  · cases h
    simp
    omega
  · cases h

@[simp] theorem mem_stationIds (i : StationId) : i ∈ stationIds := by revert i; decide

@[simp] theorem mem_trainIds (t : TrainId) : t ∈ trainIds := by revert t; decide

@[simp] theorem mem_slotIds (k : SlotId) : k ∈ slotIds := by revert k; decide

@[simp] theorem mem_bankIds (bk : BankId) : bk ∈ bankIds := by cases bk <;> decide

/-! ## The same quantity before and after -/

/-- A quantity that each application leaves alone, the whole leaves alone. -/
theorem forAll_same {α β : Type} (q : State → β) (f : State → α → State)
    (h : ∀ s x, q (f s x) = q s) (xs : List α) (s : State) : q (forAll xs s f) = q s :=
  forAll_keeps (fun t => q t = q s) f (fun _ _ e => (h _ _).trans e) xs s rfl

/-! ## Time -/

/-- A quantity that stations, banks and the moment do not bear on, time leaves alone. -/
theorem advance_same {β : Type} (q : State → β)
    (station : ∀ s i x, q (State.setStation s i x) = q s) (bank : ∀ s bk x, q (State.setBank s bk x) = q s)
    (now : ∀ (s : State) (t : Moment), q { s with now := t } = q s) (s : State) (dt : Moment) :
    q (s.advance dt) = q s := by
  have stations : ∀ s i, q (State.tickStation dt s i) = q s := by
    intro s i
    unfold State.tickStation
    split
    · exact station _ _ _
    · rfl
  have banks : ∀ s bk, q (State.tickBank dt s bk) = q s := by
    intro s bk
    unfold State.tickBank
    split
    · exact bank _ _ _
    · rfl
  unfold State.advance
  dsimp only
  rw [now, forAll_same q _ banks, forAll_same q _ stations]

section
variable (s : State) (dt : Moment)

@[simp] theorem advance_pending : (s.advance dt).pending = s.pending :=
  advance_same (·.pending) (by simp) (by simp) (by simp) ..

@[simp] theorem advance_resetPin : (s.advance dt).resetPin = s.resetPin :=
  advance_same (·.resetPin) (by simp) (by simp) (by simp) ..

@[simp] theorem advance_freeCount : (s.advance dt).freeCount = s.freeCount :=
  advance_same (·.freeCount) (by simp) (by simp) (by simp) ..

@[simp] theorem advance_register : (s.advance dt).register = s.register :=
  advance_same (·.register) (by simp) (by simp) (by simp) ..

@[simp] theorem advance_classifier : (s.advance dt).classifier = s.classifier :=
  advance_same (·.classifier) (by simp) (by simp) (by simp) ..

@[simp] theorem advance_arbiter : (s.advance dt).arbiter = s.arbiter :=
  advance_same (·.arbiter) (by simp) (by simp) (by simp) ..

@[simp] theorem advance_slots : (s.advance dt).slots = s.slots :=
  advance_same (·.slots) (by simp) (by simp) (by simp) ..

@[simp] theorem advance_chamber : (s.advance dt).chamber = s.chamber :=
  advance_same (·.chamber) (by simp) (by simp) (by simp) ..

@[simp] theorem advance_monitor : (s.advance dt).monitor = s.monitor :=
  advance_same (·.monitor) (by simp) (by simp) (by simp) ..

@[simp] theorem advance_control : (s.advance dt).control = s.control :=
  advance_same (·.control) (by simp) (by simp) (by simp) ..

@[simp] theorem advance_link : (s.advance dt).link = s.link :=
  advance_same (·.link) (by simp) (by simp) (by simp) ..

@[simp] theorem advance_loop : (s.advance dt).loop = s.loop :=
  advance_same (·.loop) (by simp) (by simp) (by simp) ..

@[simp] theorem advance_started :
    (s.advance dt).condenser.started = s.condenser.started :=
  advance_same (·.condenser.started) (by simp) (fun _ bk _ => by cases bk <;> rfl) (by simp) ..

@[simp] theorem advance_lastDrainBank :
    (s.advance dt).condenser.lastDrainBank = s.condenser.lastDrainBank :=
  advance_same (·.condenser.lastDrainBank) (by simp) (fun _ bk _ => by cases bk <;> rfl) (by simp) ..

@[simp] theorem advance_now : (s.advance dt).now = s.now + dt := by
  have stations := forAll_same (·.now) (State.tickStation dt)
    (fun s i => by unfold State.tickStation; split <;> rfl) stationIds s
  have banks := forAll_same (·.now) (State.tickBank dt)
    (fun s bk => by unfold State.tickBank; split <;> simp) bankIds
      (forAll stationIds s (State.tickStation dt))
  show (forAll bankIds _ _).now + dt = _
  rw [banks, stations]

/-- A station but for its evacuation clock. -/
def timeless (x : Station) : Station := { x with clock := 0 }

/-- Only the evacuation clock of a station counts. -/
theorem timeless_advance (i : StationId) :
    timeless ((s.advance dt).station i) = timeless (s.station i) := by
  have station : ∀ (s : State) (j : StationId),
      timeless ((s.tickStation dt j).station i) = timeless (s.station i) := by
    intro s j
    unfold State.tickStation
    split
    · by_cases e : j = i
      · subst e
        rw [station_onStation]
        rfl
      · rw [station_onStation_ne _ _ _ _ e]
    · rfl
  have bank : ∀ (s : State) (bk : BankId), (s.tickBank dt bk).station i = s.station i := by
    intro s bk
    unfold State.tickBank
    split
    · simp [State.station]
    · rfl
  have banks := forAll_same (·.station i) _ bank bankIds (forAll stationIds s (State.tickStation dt))
  have all := forAll_same (fun s => timeless (s.station i)) _ station stationIds s
  have now : ∀ (u : State) (t : Moment), ({ u with now := t } : State).station i = u.station i :=
    fun _ _ => rfl
  unfold State.advance
  dsimp only
  rw [now, banks]
  exact all

/-- A station after time has passed: only its evacuation clock may differ. -/
theorem station_advance (i : StationId) :
    (s.advance dt).station i =
      { s.station i with clock := ((s.advance dt).station i).clock } := by
  have h := timeless_advance s dt i
  generalize (s.advance dt).station i = x at *
  generalize s.station i = y at *
  cases x
  cases y
  simpa [timeless] using h

/-- A bank but for its condensing time. -/
def timelessBank (x : Bank) : Bank := { x with condensingTime := 0 }

/-- Only the condensing time of a bank counts. -/
theorem timelessBank_advance (bk : BankId) :
    timelessBank ((s.advance dt).bank bk) = timelessBank (s.bank bk) := by
  have station : ∀ (s : State) (i : StationId), (s.tickStation dt i).bank bk = s.bank bk := by
    intro s i
    unfold State.tickStation
    split <;> rfl
  have bank : ∀ (s : State) (other : BankId),
      timelessBank ((s.tickBank dt other).bank bk) = timelessBank (s.bank bk) := by
    intro s other
    unfold State.tickBank
    split
    · cases other <;> cases bk <;> rfl
    · rfl
  have banks := forAll_same (fun s => timelessBank (s.bank bk)) _ bank bankIds
    (forAll stationIds s (State.tickStation dt))
  have stations := forAll_same (·.bank bk) _ station stationIds s
  have now : ∀ (u : State) (t : Moment), ({ u with now := t } : State).bank bk = u.bank bk :=
    fun _ _ => by cases bk <;> rfl
  unfold State.advance
  dsimp only
  rw [now, banks, stations]

/-- A bank after time has passed: only its condensing time may differ. -/
theorem bank_advance (bk : BankId) :
    (s.advance dt).bank bk =
      { s.bank bk with condensingTime := ((s.advance dt).bank bk).condensingTime } := by
  have h := timelessBank_advance s dt bk
  generalize (s.advance dt).bank bk = x at *
  generalize s.bank bk = y at *
  cases x
  cases y
  simpa [timelessBank] using h

@[simp] theorem node_advance (n : Node) : (s.advance dt).node n = s.node n := by
  simp [State.node]

@[simp] theorem train_advance (t : TrainId) : (s.advance dt).train t = s.train t := by
  simp [State.train]

@[simp] theorem slot_advance (k : SlotId) : (s.advance dt).slot k = s.slot k := by
  simp [State.slot]

@[simp] theorem bankState_advance (bk : BankId) :
    ((s.advance dt).bank bk).state = (s.bank bk).state := by rw [bank_advance]

@[simp] theorem stationPhase_advance (i : StationId) :
    ((s.advance dt).station i).phase = (s.station i).phase := by rw [station_advance]

end

/-! ## A raised condition (R161, R163) -/

/-- A condition that is not exigent is entered, and nothing else. -/
theorem raise_quiet {kind : ConditionKind} (h : kindClass kind ≠ .exigent) (s : State)
    (origin : Origin) (detail : Detail) :
    s.raise kind origin detail = s.setMonitor (s.monitor.enter kind origin detail) := by
  unfold State.raise
  rw [if_neg (by simpa using h)]

/-- An exigent condition is entered, and the line halts. -/
theorem raise_exigent {kind : ConditionKind} (h : kindClass kind = .exigent) (s : State)
    (origin : Origin) (detail : Detail) :
    s.raise kind origin detail = (s.setMonitor (s.monitor.enter kind origin detail)).halt := by
  unfold State.raise
  rw [if_pos (by simpa using h)]

/-! ## The line stop (R170) -/

/-- What the operations of a line stop change: stations, trains, orders and credits. -/
theorem stopStation_eq (s : State) (i : StationId) :
    s.stopStation i =
      { s with
        stations := (s.stopStation i).stations
        loop := (s.stopStation i).loop
        freeCount := (s.stopStation i).freeCount } := by
  unfold State.stopStation State.closeEvac
  (repeat' split) <;> rfl

theorem pauseTrain_eq (s : State) (t : TrainId) :
    s.pauseTrain t =
      { s with
        arbiter := (s.pauseTrain t).arbiter
        loop := (s.pauseTrain t).loop
        freeCount := (s.pauseTrain t).freeCount } := by
  unfold State.pauseTrain
  split <;> rfl

/-- A quantity that neither a station's nor a train's part of a line stop changes is what the entry to
STOPPED leaves. -/
theorem lineStop_same {β : Type} (q : State → β)
    (station : ∀ s i, q (State.stopStation s i) = q s) (train : ∀ s t, q (State.pauseTrain s t) = q s)
    (s : State) :
    q s.lineStop = q (s.setControl { s.control.clearStep with line := .stopped }) := by
  show q (forAll trainIds (forAll stationIds _ _) _) = _
  rw [forAll_same q _ train, forAll_same q _ station]

section
variable (s : State)

@[simp] theorem lineStop_register : s.lineStop.register = s.register :=
  lineStop_same (·.register) (fun s i => by rw [stopStation_eq]) (fun s t => by rw [pauseTrain_eq]) s

@[simp] theorem lineStop_classifier : s.lineStop.classifier = s.classifier :=
  lineStop_same (·.classifier) (fun s i => by rw [stopStation_eq]) (fun s t => by rw [pauseTrain_eq]) s

@[simp] theorem lineStop_slots : s.lineStop.slots = s.slots :=
  lineStop_same (·.slots) (fun s i => by rw [stopStation_eq]) (fun s t => by rw [pauseTrain_eq]) s

@[simp] theorem lineStop_chamber : s.lineStop.chamber = s.chamber :=
  lineStop_same (·.chamber) (fun s i => by rw [stopStation_eq]) (fun s t => by rw [pauseTrain_eq]) s

@[simp] theorem lineStop_condenser : s.lineStop.condenser = s.condenser :=
  lineStop_same (·.condenser) (fun s i => by rw [stopStation_eq]) (fun s t => by rw [pauseTrain_eq]) s

@[simp] theorem lineStop_monitor : s.lineStop.monitor = s.monitor :=
  lineStop_same (·.monitor) (fun s i => by rw [stopStation_eq]) (fun s t => by rw [pauseTrain_eq]) s

@[simp] theorem lineStop_control :
    s.lineStop.control = { s.control.clearStep with line := .stopped } :=
  lineStop_same (·.control) (fun s i => by rw [stopStation_eq]) (fun s t => by rw [pauseTrain_eq]) s

@[simp] theorem lineStop_link : s.lineStop.link = s.link :=
  lineStop_same (·.link) (fun s i => by rw [stopStation_eq]) (fun s t => by rw [pauseTrain_eq]) s

@[simp] theorem lineStop_now : s.lineStop.now = s.now :=
  lineStop_same (·.now) (fun s i => by rw [stopStation_eq]) (fun s t => by rw [pauseTrain_eq]) s

@[simp] theorem lineStop_resetPin : s.lineStop.resetPin = s.resetPin :=
  lineStop_same (·.resetPin) (fun s i => by rw [stopStation_eq]) (fun s t => by rw [pauseTrain_eq]) s

@[simp] theorem lineStop_pending : s.lineStop.pending = s.pending :=
  lineStop_same (·.pending) (fun s i => by rw [stopStation_eq]) (fun s t => by rw [pauseTrain_eq]) s

end

/-! ## The watch (R175) -/

/-- A quantity that Line Control's fields, the pending list and a line stop do not bear on, a watch hit
leaves alone. -/
theorem watchEntry_same {β : Type} (q : State → β) (control : ∀ s c, q (State.setControl s c) = q s)
    (monitor : ∀ s m, q (State.setMonitor s m) = q s) (stop : ∀ s, q (State.lineStop s) = q s)
    (s : State) (rank : Nat) (tag : Option Tag) (p : PhaseName) :
    q (s.watchEntry rank tag p) = q s := by
  unfold State.watchEntry
  cases tag with
  | none => rfl
  | some t =>
    dsimp only
    split
    · rw [raise_quiet (by decide)]
      split
      · rw [stop, monitor, control]
      · rw [monitor, control]
    · rfl

section
variable (s : State) (rank : Nat) (tag : Option Tag) (p : PhaseName)

@[simp] theorem watchEntry_register : (s.watchEntry rank tag p).register = s.register :=
  watchEntry_same (·.register) (by simp) (by simp) (by simp) ..

@[simp] theorem watchEntry_classifier : (s.watchEntry rank tag p).classifier = s.classifier :=
  watchEntry_same (·.classifier) (by simp) (by simp) (by simp) ..

@[simp] theorem watchEntry_slots : (s.watchEntry rank tag p).slots = s.slots :=
  watchEntry_same (·.slots) (by simp) (by simp) (by simp) ..

@[simp] theorem watchEntry_chamber : (s.watchEntry rank tag p).chamber = s.chamber :=
  watchEntry_same (·.chamber) (by simp) (by simp) (by simp) ..

@[simp] theorem watchEntry_condenser : (s.watchEntry rank tag p).condenser = s.condenser :=
  watchEntry_same (·.condenser) (by simp) (by simp) (by simp) ..

@[simp] theorem watchEntry_link : (s.watchEntry rank tag p).link = s.link :=
  watchEntry_same (·.link) (by simp) (by simp) (by simp) ..

@[simp] theorem watchEntry_now : (s.watchEntry rank tag p).now = s.now :=
  watchEntry_same (·.now) (by simp) (by simp) (by simp) ..

@[simp] theorem watchEntry_resetPin : (s.watchEntry rank tag p).resetPin = s.resetPin :=
  watchEntry_same (·.resetPin) (by simp) (by simp) (by simp) ..

@[simp] theorem watchEntry_pending : (s.watchEntry rank tag p).pending = s.pending :=
  watchEntry_same (·.pending) (by simp) (by simp) (by simp) ..

@[simp] theorem watchEntry_settings :
    (s.watchEntry rank tag p).control.settings = s.control.settings := by
  unfold State.watchEntry
  cases tag with
  | none => rfl
  | some t =>
    dsimp only
    split
    · rw [raise_quiet (by decide)]
      split
      · simp [LineControl.clearStep]
      · simp
    · rfl

/-- A phase that the watch list does not hold for the tag is entered without more. -/
theorem watchEntry_unwatched {t : Tag} (h : ({ tag := t, phase := p } : WatchEntry) ∉ s.control.watch) :
    s.watchEntry rank (some t) p = s := by
  unfold State.watchEntry
  dsimp only
  rw [if_neg (by simpa using h)]

end

end Sys2Proof.Laws
end

