-- ==== Sys2Proof/Laws/Text.lean ====
section
/-!
SUPPORT. The check of a text, with the evaluation device of its definition taken away.
-/

namespace Sys2Proof.Laws

open Sys2Proof.Machine

/-- Bringing a number to a numeral first changes nothing. -/
@[simp] theorem forceNat_eq {α : Type} (n : Nat) (k : Nat → α) : forceNat n k = k n := by
  cases n <;> rfl

/-- A register's value passed as a number is the register. -/
@[simp] theorem crcFrom_toNat_nil (r : Check) : crcFrom r.toNat [] = r := by
  simp [crcFrom]

/-- One byte of a check. -/
theorem crcFrom_toNat_cons (r : Check) (b : Byte) (t : Text) :
    crcFrom r.toNat (b :: t) = crcFrom (crcByte r b).toNat t := by
  simp [crcFrom]

/-- The check over two texts goes on from the register after the first. -/
theorem crcFrom_append (r : Check) (t u : Text) :
    crcFrom r.toNat (t ++ u) = crcFrom (crcFrom r.toNat t).toNat u := by
  induction t generalizing r with
  | nil => simp
  | cons b t ih => simp only [List.cons_append, crcFrom_toNat_cons, ih]

end Sys2Proof.Laws
end

