-- ==== Sys2Proof/Tests/Slice0.lean ====
section
/-!
SUPPORT. The model's own tests: the checks of WellFormed refuse what they should, the worked examples of
the spec come out as worked, and the hypotheses of each obligation are met by a concrete state.
-/

namespace Sys2Proof.Tests

open Sys2Proof Sys2Proof.Machine

set_option Elab.async false

/-! ## WellFormed: an ill-formed term for each check -/

/-- One more than the greatest number of a line. -/
def tooMuch : Nat := 4294967296

def badReport : OrderReport := { number := 0, status := .done }

def stationReading (pressure oil : Nat) (reports : List OrderReport) : StationAnswer :=
  { moment := 0, reports := reports, pressure := pressure, oil := oil, clampState := 0
    pierceState := 0, evacOpen := true, sampleOpen := true, drainOpen := true }

def trainReading (suction discharge delta : Nat) (reports : List OrderReport) : TrainAnswer :=
  { moment := 0, reports := reports, suction := suction, discharge := discharge, delta := delta
    compressor := .running }

def analyserReading (band : Nat) (reports : List OrderReport) : AnalyserAnswer :=
  { moment := 0, reports := reports, busy := false, sequence := 0, bands := #v[0, 0, band, 0, 0, 0]
    fault := false }

def bayReading (net : Nat) : BayAnswer :=
  { moment := 0, platforms := Vector.replicate 12 { present := true, net := net } }

def gasReading (o2 lel : Nat) : ChamberReadings :=
  { o2 := o2, door := 0, running := false, emptied := false, foam := 0, lel := lel }

def chamberReading (o2 lel : Nat) : ChamberAnswer :=
  { moment := 0, reports := [], readings := gasReading o2 lel }

def bankReading (t : Int) : BankReading :=
  { temperature := t, heaterOn := false, refrigeration := .running, drainOpen := true }

def condenserReading (a b : Int) (inlet drain : Nat) (reports : List OrderReport) : CondenserAnswer :=
  { moment := 0, reports := reports, bankA := bankReading a, bankB := bankReading b, inlet := inlet
    drain := drain }

def safetyReading (lel : Nat) (stop : Bool) : SafetyAnswer :=
  { moment := 0, lel := lel, emergencyStop := stop, doorOpen := true }

theorem test_wf_station_answer :
    (Instr.stationAnswer 0 (stationReading 4000 0 [])).wf = true ∧
    (Instr.stationAnswer 0 (stationReading 4001 0 [])).wf = false ∧
    (Instr.stationAnswer 0 (stationReading 0 tooMuch [])).wf = false ∧
    (Instr.stationAnswer 0 (stationReading 0 0 [badReport])).wf = false ∧
    (Instr.stationAnswer 0 (stationReading 0 0 [{ number := 256, status := .done }])).wf = false := by
  decide

theorem test_wf_train_answer :
    (Instr.trainAnswer 0 (trainReading 4001 0 0 [])).wf = false ∧
    (Instr.trainAnswer 0 (trainReading 0 4001 0 [])).wf = false ∧
    (Instr.trainAnswer 0 (trainReading 0 0 tooMuch [])).wf = false ∧
    (Instr.trainAnswer 0 (trainReading 0 0 0 [badReport])).wf = false := by
  decide

theorem test_wf_analyser_answer :
    (Instr.analyserAnswer (analyserReading 4096 [])).wf = false ∧
    (Instr.analyserAnswer (analyserReading 0 [badReport])).wf = false := by
  decide +kernel

theorem test_wf_bay_answer : (Instr.bayAnswer (bayReading tooMuch)).wf = false := by
  decide +kernel

theorem test_wf_chamber_answer :
    (Instr.chamberAnswer (chamberReading 1001 0)).wf = false ∧
    (Instr.chamberAnswer (chamberReading 0 101)).wf = false ∧
    (Instr.chamberAnswer
      { moment := 0, reports := [], readings := { gasReading 0 0 with foam := tooMuch } }).wf = false ∧
    (Instr.chamberAnswer
      { moment := 0, reports := [badReport], readings := gasReading 0 0 }).wf = false := by
  decide

theorem test_wf_condenser_answer :
    (Instr.condenserAnswer (condenserReading (-201) 0 0 0 [])).wf = false ∧
    (Instr.condenserAnswer (condenserReading 0 151 0 0 [])).wf = false ∧
    (Instr.condenserAnswer (condenserReading 0 0 tooMuch 0 [])).wf = false ∧
    (Instr.condenserAnswer (condenserReading 0 0 0 tooMuch [])).wf = false ∧
    (Instr.condenserAnswer (condenserReading 0 0 0 0 [badReport])).wf = false := by
  decide

theorem test_wf_safety_answer : (Instr.safetyAnswer (safetyReading 101 false)).wf = false := by
  decide

theorem test_wf_order_timeout :
    (Instr.orderTimeout 0).wf = false ∧ (Instr.orderTimeout 256).wf = false := by
  decide

theorem test_wf_lines :
    (Instr.lineCompleted [.byte 0x0A#8]).wf = false ∧
    (Instr.sigRow { chars := [.byte 0x0D#8], overLength := false }).wf = false ∧
    (Instr.sigRow { chars := [.byte 0x0A#8], overLength := false }).wf = false ∧
    (Instr.sigRow { chars := List.replicate 401 (.byte 0x41#8), overLength := false }).wf = false := by
  decide +kernel

theorem test_wf_unit_commands :
    (Instr.admitUnit tooMuch 1 none none).wf = false ∧
    (Instr.admitUnit 1 tooMuch none none).wf = false ∧
    (Instr.queryUnit tooMuch true).wf = false ∧ (Instr.takeClosed tooMuch).wf = false ∧
    (Instr.release tooMuch).wf = false ∧ (Instr.retire tooMuch).wf = false ∧
    (Instr.resume tooMuch).wf = false ∧ (Instr.withdrawFeed tooMuch).wf = false := by
  decide

theorem test_wf_table_commands :
    (Instr.loadSignatures tooMuch).wf = false ∧ (Instr.setPaths tooMuch [1]).wf = false ∧
    (Instr.setPaths 1 [tooMuch]).wf = false ∧ (Instr.setPaths 1 []).wf = false ∧
    (Instr.trainService tooMuch true).wf = false ∧
    (Instr.setWatch tooMuch .done).wf = false ∧
    (Instr.clearWatch (.entry tooMuch .done)).wf = false ∧
    (Instr.setLimit .evacMax tooMuch).wf = false := by
  decide

theorem test_wf_vessel_commands :
    (Instr.insertVessel tooMuch 1 .hfc 0 0 1).wf = false ∧
    (Instr.insertVessel 1 tooMuch .hfc 0 0 1).wf = false ∧
    (Instr.insertVessel 1 1 .hfc tooMuch 0 1).wf = false ∧
    (Instr.insertVessel 1 1 .hfc 0 tooMuch 1).wf = false ∧
    (Instr.insertVessel 1 1 .hfc 0 0 tooMuch).wf = false ∧
    (Instr.closeVessel tooMuch).wf = false ∧ (Instr.removeVessel tooMuch).wf = false ∧
    (Instr.queryVessel tooMuch).wf = false := by
  decide

/-! ## The worked examples of the spec -/

/-- R196: the check of `123456789`, and of `1`. -/
theorem test_check_worked :
    crc (ascii "123456789") = 0xAEE7#16 ∧ crc (ascii "1") = 0x7DA7#16 := by
  decide +kernel

/-- R31: the four worked samples. -/
def workedTable : Classifier :=
  { table := #v[
      some { cls := .hc, invert := false, windows :=
        #v[none, some ⟨3000, 4095⟩, none, none, some ⟨2500, 4095⟩, none] },
      none,
      some { cls := .cfc, invert := false, windows :=
        #v[some ⟨2800, 4095⟩, none, none, none, none, none] },
      some { cls := .hfc, invert := false, windows :=
        #v[none, none, some ⟨1500, 3200⟩, some ⟨0, 900⟩, none, none] },
      some { cls := .unknown, invert := true, windows :=
        #v[none, none, none, none, none, some ⟨0, 199⟩] },
      none, none, none, none, none, none, none, none, none, none, none]
    queue := [], cycle := none }

theorem test_scan_worked :
    workedTable.scan #v[410, 3350, 1720, 620, 905, 88] = some 3 ∧
    workedTable.scan #v[380, 3600, 900, 1400, 3100, 240] = some 0 ∧
    workedTable.scan #v[300, 1200, 1100, 1500, 600, 420] = some 4 ∧
    workedTable.scan #v[300, 1200, 1100, 1500, 600, 150] = none := by
  decide +kernel

/-- R149: the worked apportionment, and the same window with no foam. -/
theorem test_shares_worked :
    shares 1381 [⟨501, some 4200⟩, ⟨502, some 3900⟩, ⟨503, some 4400⟩] = [464, 430, 487] ∧
    shares 1381 [⟨501, some 0⟩, ⟨502, some 0⟩, ⟨503, some 0⟩] = [461, 460, 460] := by
  decide

theorem test_numbers :
    intText (-12) = ascii "-12" ∧ numText 0 = ascii "0" ∧ numText 4294967295 = ascii "4294967295" := by
  decide

/-- A text as received characters. -/
def received (t : String) : List RxChar := (ascii t).map .byte

/-- A body with its check, as a completed line. -/
def checkedLine (body : String) : Line :=
  { chars := (ascii body ++ [0x23#8] ++ hex4 (crc (ascii body))).map .byte, overLength := false }

theorem test_lines_read :
    readLine (checkedLine "STATUS ") = .command .status ∧
    readLine (checkedLine "ADMIT foam=HC station=3 tag=7 ") =
      .command (.admitUnit 7 3 none (some .hc)) ∧
    readLine (checkedLine "SET-PATHS station=1 trains=4,2 ") = .command (.setPaths 1 [4, 2]) ∧
    readLine (checkedLine "CLEAR-WATCH all=yes ") = .command (.clearWatch .all) := by
  decide +kernel

theorem test_lines_answered :
    readLine { chars := received "STATUS #0000", overLength := false } = .framing .badCheck ∧
    readLine { chars := received "STATUS #0000", overLength := true } = .framing .badLength ∧
    readLine (checkedLine "status ") = .framing .what ∧
    readLine (checkedLine "ADMIT tag=7 ") = .framing .badField ∧
    readLine (checkedLine "ADMIT tag=7 station=x ") = .framing .badValue := by
  decide +kernel

theorem test_rows_read :
    readRow (checkedLine "SIG index=3 valid=no ") = some { index := 3, entry := none } ∧
    readRow (checkedLine "SIG index=0 valid=yes class=CFC bands=1 windows=2800:4095 invert=no ") =
      some { index := 0, entry := some { cls := .cfc, invert := false, windows :=
        #v[some ⟨2800, 4095⟩, none, none, none, none, none] } } ∧
    readRow (checkedLine "SIG index=16 valid=no ") = none ∧
    readRow (checkedLine "SIG index=0 class=CFC bands=1 windows=5:4 invert=no ") = none := by
  decide +kernel

/-- R197: the worked closed record's canonical line (with bands of 0). -/
def workedRecord : UnitRecord :=
  { UnitRecord.create 501 2 (some .hfc) none with
    place := none, station := none, measured := some .hfc, bands := some #v[0, 0, 0, 0, 0, 0]
    signature := some 6, effective := some .hfc, evacuations := 1, rise := some 41
    allocations :=
      [{ slot := 3, vessel := 70412, grams := 420, isOpen := false },
        { slot := 4, vessel := 70415, grams := 222, isOpen := false }]
    total := 642, oil := some 212, foam := some 4200
    windows := [{ bank := .a, foam := some 4200, share := some 464 }], agent := 464
    disposition := some .complete }

theorem test_unit_line_worked :
    workedRecord.canonical = ascii ("UNIT tag=501 refrigerant=HFC measured=HFC bands=0,0,0,0,0,0 " ++
      "signature=6 effective=HFC evacuations=1 rise=41 " ++
      "allocs=4:70412:420:closed,5:70415:222:closed total=642 oil=212 foam-grams=4200 " ++
      "windows=A:4200:464 agent=464 flags= disposition=COMPLETE") ∧
    workedRecord.sound := by
  refine ⟨by decide +kernel, ?_⟩
  unfold UnitRecord.sound
  decide +kernel

/-! ## One step of the machine -/

/-- An answer that the part sends, read off the next state. -/
def sentBy (c : Instr) (s : State) : List Text :=
  match exec c s with
  | .next t => t.link.sent
  | _ => []

theorem test_status_answers :
    sentBy .status State.reset = [sealLine (ascii ("OK STATUS line=STOPPED test=no overflow=no units=0 " ++
      "closed=0 queue=0 credits= stations=EMPTY,EMPTY,EMPTY,EMPTY,EMPTY,EMPTY,EMPTY,EMPTY " ++
      "trains=IDLE,IDLE,IDLE,IDLE banks=WARM,WARM chamber=IDLE"))] := by
  decide +kernel

theorem test_admit_answers :
    sentBy (.admitUnit 7 3 none none) State.reset =
      [sealLine (ascii "OK ADMIT tag=7 station=3")] ∧
    sentBy (.admitUnit 7 9 none none) State.reset =
      [sealLine (ascii "NO ADMIT reason=RANGE")] := by
  decide +kernel

theorem test_line_completed :
    sentBy (.lineCompleted (checkedLine "GET-LIMIT name=evac-max ").chars) State.reset =
      [sealLine (ascii "OK GET-LIMIT name=evac-max value=1200 low=300 high=3600")] := by
  decide +kernel

theorem test_start_cools :
    (match exec .start State.reset with
      | .next t => t.condenser.bankA.state == .cooling && t.condenser.bankB.state == .cooling &&
          t.control.line == .run && t.loop.orders.length == 2
      | _ => false) = true := by
  decide +kernel

theorem test_safety_halts :
    (match exec (.safetyAnswer (safetyReading 20 false)) State.reset with
      | .next t => t.control.line == .halted && t.control.haltPin && t.monitor.attn
      | _ => false) = true := by
  decide +kernel

/-! ## The hypotheses of the obligations are met -/

/-- A hypothesis about the content of an absent option holds. -/
theorem absent {α : Type} {p : α → Prop} {o : Option α} (h : o = none) : ∀ x, o = some x → p x := by
  subst h; nofun

/-- A hypothesis about a held query holds where the interface is READY. -/
theorem notHeld {p : HeldQuery → Prop} {l : LinkState} (h : l = .ready) : ∀ q, l = .held q → p q := by
  subst h; nofun

/-- A hypothesis about every bank holds of both. -/
theorem bothBanks {p : BankId → Prop} (a : p .a) (b : p .b) : ∀ bk, p bk := by
  intro bk; cases bk <;> assumption

/-- A unit admitted to station 1, with the station changed. -/
def unitAt (tag : Tag) (f : Station → Station) : State :=
  (State.reset.addUnit (UnitRecord.create tag 0 none none)).onStation 0 fun x =>
    f { x with unit := some tag }

/-- A unit at station 1, which stands in a phase. -/
def inPhase (p : StationPhase) : State := unitAt 7 fun x => { x with phase := p }

/-- A record with one closed entry of 10 g and one open of 20 g. -/
def bookedRecord : UnitRecord :=
  { UnitRecord.create 7 0 (some .hfc) none with
    effective := some .hfc
    allocations :=
      [{ slot := 0, vessel := 1, grams := 10, isOpen := false },
        { slot := 0, vessel := 1, grams := 20, isOpen := true }]
    total := 30 }

def hfcVessel (st : VesselState) : Vessel :=
  { state := st, id := 1, cls := .hfc, tare := 0, initial := 0, fill := 100, booked := 30 }

def agentVessel : Vessel :=
  { state := .ready, id := 2, cls := .agent, tare := 0, initial := 0, fill := 100, booked := 0 }

/-- Train 1 serves the unit at station 1, and feeds slot 1. -/
def drawing (st : TrainState) : State :=
  ((((State.reset.addUnit bookedRecord).onStation 0 fun x =>
      { x with unit := some 7, phase := .evacuate, train := some 0, evacValve := .opened }).setTrain 0
        { Train.reset with
          state := st, carried := some .hfc, station := some 0, tag := some 7, slot := some 0 }).setSlot 0
            { vessel := some (hfcVessel .filling), platform := some { present := true, net := 30 } }).setLine
              .run

/-- The chamber holds unit 7, in a phase. -/
def chamberIn (p : ChamberPhase) : State :=
  { State.reset.addUnit
      { UnitRecord.create 7 0 none (some .hc) with
        place := some .chamber, station := none
        windows := [{ bank := .a, foam := none, share := none }] } with
    chamber := { Chamber.reset with
      phase := p, unit := some 7, readings := some (gasReading 30 0), foamStart := some 0 } }

/-- Bank A changed. -/
def bankA (f : Bank → Bank) : State := State.reset.onBank .a f

def fullEntry (k : ConditionKind) : ConditionEntry :=
  { kind := k, origin := .line, detail := { first := 0, second := none }, count := 255 }

theorem witness_EventEndSetsAttnAndEndsHolds :
    (∃ u : State, u.nothingDue ∧
      ∀ q, u.link.state = .held q → u.openAccumulation q.tag = true) ∧
    ∃ (u : State) (q : HeldQuery) (r : UnitRecord), u.nothingDue ∧ u.link.state = .held q ∧
      u.openAccumulation q.tag = false ∧ u.queriedUnit q.tag = some r ∧ u.link.buffer = none :=
  ⟨⟨inPhase .loaded, ⟨absent rfl, ⟨by decide, by decide⟩, fun h => absurd h.1 (by decide)⟩, notHeld rfl⟩,
    ⟨(inPhase .loaded).setLink (.held { tag := 7, expiry := 1000 }), _, _,
      ⟨absent rfl, ⟨by decide, by decide⟩, fun h => absurd h.1 (by decide)⟩, rfl, by decide +kernel, rfl, rfl⟩⟩

theorem witness_NothingIsDueBetweenEvents :
    ∃ s t : State, s.nothingDue ∧ step s = .next t :=
  ⟨inPhase .loaded, _, ⟨absent rfl, ⟨by decide, by decide⟩, fun h => absurd h.1 (by decide)⟩, rfl⟩

theorem witness_ResetPinStopsAndRestoresThePart :
    ∃ (c : Instr) (s : State), s.resetPin = true ∧ c ≠ .resetPinAsserted ∧ c ≠ .powerOnReset :=
  ⟨.start, State.reset.assertReset, rfl, by decide, by decide⟩

/-- A state with something in each list that an invariant speaks of. -/
def busy : State :=
  let s := drawing .drawing
  { s with
    register := { s.register with log := [workedRecord.closed .complete] }
    classifier := { s.classifier with queue := [3, 1] }
    arbiter := { s.arbiter with requests :=
      [{ station := 3, time := 1, needed := none }, { station := 2, time := 1, needed := none }] }
    chamber := { s.chamber with feed := [8, 9] }
    condenser := { s.condenser with
      bankA := { Bank.reset with state := .condensing }
      bankB := { Bank.reset with state := .drain, drainSlot := some 3 } }
    monitor := { s.monitor with entries := [fullEntry .lelHigh], attn := true }
    control := { s.control with watch := [{ tag := 7, phase := .done }] }
    loop := { s.loop with
      orders := [{ number := 255, node := .bay, kind := .clamp, issuer := .condenser, deadline := 0
                   acknowledged := false }] } }

theorem witness_SettingsListAndPinsStaySound :
    ∃ s t : State, s.settingsInBounds ∧ s.monitor.sound ∧ s.pinsAgree ∧ step s = .next t := by
  refine ⟨busy, _, ?_, ?_, ?_, rfl⟩
  · intro n; cases n <;> decide
  · unfold Monitor.sound; decide
  · unfold State.pinsAgree; decide

theorem witness_RecordBooksStaySound :
    ∃ s t : State, s.register.booksSound ∧ s.register.closedSound ∧ s.register.sizesSound ∧
      step s = .next t := by
  refine ⟨busy, _, ?_, ?_, ?_, rfl⟩
  · unfold UnitRegister.booksSound UnitRecord.sound; decide +kernel
  · unfold UnitRegister.closedSound UnitRecord.closedRight; decide +kernel
  · unfold UnitRegister.sizesSound; decide +kernel

theorem witness_ListsAndBanksStaySound :
    ∃ s t : State, s.control.stepOnly ∧ s.control.watchSound ∧ s.arbiter.pathsSound ∧
      s.arbiter.requestsSound ∧ s.classifier.queueSound ∧ s.chamber.feedSound ∧
      s.condenser.oneEach ∧ s.loop.numbersSound ∧ step s = .next t := by
  refine ⟨busy, _, ?_, ?_, ?_, ?_, ?_, ?_, ?_, ?_, rfl⟩
  · unfold LineControl.stepOnly; decide
  · unfold LineControl.watchSound; decide
  · unfold Arbiter.pathsSound; decide +kernel
  · unfold Arbiter.requestsSound; decide
  · unfold Classifier.queueSound; decide
  · unfold Chamber.feedSound; decide
  · unfold Condenser.oneEach; decide
  · unfold FieldLoop.numbersSound; decide

theorem witness_CommandLinesReadBack :
    ∃ c : Command, c.wf = true ∧ (commandLine c).overLength = false :=
  ⟨.setLimit .evacMax 4294967295, by decide, by decide +kernel⟩

/-- A line for each of the five tests of R183. -/
theorem witness_LinesAreTestedAndTaken :
    (∃ l : Line, l.overLength = true) ∧
    (∃ l : Line, l.overLength = false ∧ ∀ body, lineBody l ≠ some body) ∧
    (∃ (l : Line) (body : Text), l.overLength = false ∧ lineBody l = some body ∧
      ∀ w ∈ commandWords, ascii (commandText w) ≠ firstWord body) ∧
    (∃ (l : Line) (body : Text) (w : CommandWord), l.overLength = false ∧ lineBody l = some body ∧
      wordOf commandWords commandText (firstWord body) = some w ∧
      ∀ fs, lineFields body = some fs → fieldsFit w fs = false) ∧
    (∃ (l : Line) (body : Text) (w : CommandWord) (fs : List LineField), l.overLength = false ∧
      lineBody l = some body ∧ wordOf commandWords commandText (firstWord body) = some w ∧
      lineFields body = some fs ∧ fieldsFit w fs = true ∧ commandOf w fs = none) ∧
    (∃ (l : Line) (body : Text) (w : CommandWord) (fs : List LineField) (c : Command),
      l.overLength = false ∧ lineBody l = some body ∧
      wordOf commandWords commandText (firstWord body) = some w ∧
      lineFields body = some fs ∧ fieldsFit w fs = true ∧ commandOf w fs = some c) := by
  refine ⟨⟨{ chars := [], overLength := true }, rfl⟩,
    ⟨{ chars := [], overLength := false }, rfl, nofun⟩,
    ⟨checkedLine "status ", ascii "status ", rfl, by decide +kernel, by decide +kernel⟩,
    ⟨checkedLine "STATUS", ascii "STATUS", .status, rfl, by decide +kernel, by decide +kernel,
      absent (by decide +kernel)⟩,
    ⟨checkedLine "RELEASE station=x ", ascii "RELEASE station=x ", .release,
      [{ name := ascii "station", value := ascii "x" }], rfl, by decide +kernel, by decide +kernel,
      by decide +kernel, by decide +kernel, by decide +kernel⟩,
    ⟨checkedLine "RELEASE station=9 ", ascii "RELEASE station=9 ", .release,
      [{ name := ascii "station", value := ascii "9" }], .release 9, rfl, by decide +kernel,
      by decide +kernel, by decide +kernel, by decide +kernel, by decide +kernel⟩⟩

/-- A completed line that holds only CR, one that fails a test, and one that spells a command. -/
theorem witness_LinesAreTestedAndTaken_completed :
    ∃ s : State, s.takesCommand ∧ s.link.assembly.overLength = false ∧
      (∃ received : List RxChar, received ≠ [] ∧
        s.link.assembly.chars ++ received.filter (· != .byte 0x0D#8) = []) ∧
      (∃ (received chars : List RxChar) (f : FramingReply), chars ≠ [] ∧
        chars = s.link.assembly.chars ++ received.filter (· != .byte 0x0D#8) ∧
        readLine { chars := chars.take 400, overLength := 400 < chars.length } = .framing f) ∧
      ∃ (received chars : List RxChar) (c : Command), chars ≠ [] ∧
        chars = s.link.assembly.chars ++ received.filter (· != .byte 0x0D#8) ∧
        readLine { chars := chars.take 400, overLength := 400 < chars.length } = .command c :=
  ⟨State.reset, ⟨rfl, rfl⟩, rfl, ⟨[.byte 0x0D#8], by decide, by decide⟩,
    ⟨[.byte 0x41#8], [.byte 0x41#8], .badCheck, by decide, by decide, by decide +kernel⟩,
    ⟨(checkedLine "STOP ").chars, (checkedLine "STOP ").chars, .stop, by decide +kernel,
      by decide +kernel, by decide +kernel⟩⟩

def loading (expected : Nat) (bad : Bool) : State :=
  State.reset.setLink (.loading { expected := expected, badRow := bad, lastRow := some 15 })

theorem witness_RowsAndWaitingLinesAreTaken :
    (∃ s : State, s.resetPin = false ∧ (∃ q, s.link.state = .held q) ∧ s.link.buffer = none) ∧
    (∃ (s : State) (kept : Line), s.resetPin = false ∧ (∃ k, s.link.state = .resetting k) ∧
      s.link.buffer = some kept) ∧
    (∃ (s : State) (l : Load) (row : Line) (e : RowEntry), s.resetPin = false ∧
      s.link.state = .loading l ∧ l.badRow = false ∧ readRow row = some e ∧ 1 < l.expected) ∧
    (∃ (s : State) (l : Load) (row : Line), s.resetPin = false ∧ s.link.state = .loading l ∧
      l.badRow = false ∧ readRow row = none ∧ l.expected = 1) ∧
    ∃ (s : State) (l : Load), s.resetPin = false ∧ s.link.state = .loading l ∧ l.badRow = true ∧
      l.expected = 1 :=
  ⟨⟨State.reset.setLink (.held { tag := 7, expiry := 0 }), rfl, ⟨_, rfl⟩, rfl⟩,
    ⟨{ State.reset with link := { State.reset.link with
        state := .resetting .line, buffer := some emptyLine } }, emptyLine, rfl, ⟨_, rfl⟩, rfl⟩,
    ⟨loading 2 false, _, checkedLine "SIG index=15 valid=no ", { index := 15, entry := none }, rfl, rfl,
      rfl, by decide +kernel, by decide⟩,
    ⟨loading 1 false, _, emptyLine, rfl, rfl, rfl, by decide +kernel, by decide⟩,
    ⟨loading 1 true, _, rfl, rfl, rfl, by decide⟩⟩

/-- A refused command of each row that can be refused, at a boundary of its range where it has one. -/
theorem witness_CommandsAreRefusedInOrder :
    (∃ (s : State) (tag : Nat) (station : Nat), s.takesCommand ∧ firstRefusal
      [(tag == 0 || station == 0 || 8 < station, .range), ((s.register.units ++
        s.register.closing).any fun r => r.tag == tag, .duplicate), (48 ≤
        s.register.units.length + s.register.closing.length, .full), ((stationOf
        station).any fun i => (s.station i).phase != .empty, .stationBusy), ((stationOf
        station).any fun i => (s.node (.station i)).silent, .nodeSilent), (s.control.line ==
        .halted, .lineHalted)] = some .range) ∧
    (∃ (s : State) (tag : Nat), s.takesCommand ∧ firstRefusal
      [(!(s.register.units ++ s.register.closing ++ s.register.log).any fun r => r.tag ==
        tag, .noSuchUnit)] = some .noSuchUnit) ∧
    (∃ (s : State) (count : Nat), s.takesCommand ∧ firstRefusal
      [(count == 0 || 4 < count, .range)] = some .range) ∧
    (∃ (s : State) (station : Nat), s.takesCommand ∧ firstRefusal
      [(station == 0 || 8 < station, .range), ((stationOf station).any fun i => (s.station
        i).phase != .done || (s.station i).unit.isNone, .wrongState), ((stationOf
        station).any fun i => (s.node (.station i)).silent, .nodeSilent), (6 ≤
        s.chamber.feed.length, .queueFull)] = some .wrongState) ∧
    (∃ (s : State) (station : Nat), s.takesCommand ∧ firstRefusal
      [(station == 0 || 8 < station, .range), ((stationOf station).any fun i => ((s.station
        i).phase != .done && (s.station i).phase != .faulted) || ((s.station i).phase ==
        .done && (s.station i).unit.isNone) || (s.station i).unclamping || (s.station
        i).train.isSome || !(s.station i).unsecured.isEmpty, .wrongState), ((stationOf
        station).any fun i => (s.node (.station i)).silent, .nodeSilent)] = some
        .wrongState) ∧
    (∃ (s : State) (station : Nat), s.takesCommand ∧ firstRefusal
      [(station == 0 || 8 < station, .range), (s.control.line == .halted, .lineHalted),
        ((stationOf station).any fun i => (s.station i).phase != .faulted || (s.station
        i).unit.isNone || (s.station i).train.isSome || !(s.station i).unsecured.isEmpty,
        .wrongState), ((stationOf station).any fun i => (s.node (.station i)).silent,
        .nodeSilent)] = some .lineHalted) ∧
    (∃ (s : State) (tag : Nat), s.takesCommand ∧ firstRefusal
      [(tag == 0, .range), (!(s.register.units ++ s.register.closing).any fun r => r.tag ==
        tag, .noSuchUnit), ((s.findInRegister tag).any fun r => r.place != some .queued,
        .wrongState)] = some .noSuchUnit) ∧
    (∃ (s : State) (rows : Nat), s.takesCommand ∧ firstRefusal
      [(rows == 0 || 16 < rows, .range), (s.control.line != .stopped || stationIds.any fun i
        => (s.station i).phase == .sampling, .wrongState)] = some .range) ∧
    (∃ (s : State), s.takesCommand ∧ firstRefusal
      [(s.control.line != .stopped || stationIds.any fun i => (s.station i).phase ==
        .sampling, .wrongState)] = some .wrongState) ∧
    (∃ (s : State) (station : Nat) (trains : List Nat), s.takesCommand ∧ firstRefusal
      [(station == 0 || 8 < station || trains.isEmpty || 4 < trains.length || (trains.any
        fun n => n == 0 || 4 < n) || !decide trains.Nodup, .range), (s.control.line !=
        .stopped, .wrongState)] = some .range) ∧
    (∃ (s : State) (train : Nat) (intoService : Bool), s.takesCommand ∧ firstRefusal
      [(train == 0 || 4 < train, .range), ((trainOf train).any fun t => if intoService then
        (s.train t).state != .outOfService && (s.train t).state != .faulted else (s.train
        t).state != .idle && (s.train t).state != .faulted, .wrongState), (intoService &&
        (trainOf train).any fun t => (s.node (.train t)).silent, .nodeSilent)] = some
        .wrongState) ∧
    (∃ (s : State) (slot : Nat) (id : Nat) (initial : Nat) (fill : Nat), s.takesCommand ∧ firstRefusal
      [(slot == 0 || 12 < slot, .noSuchSlot), (id == 0 || fill ≤ initial, .range), ((slotOf
        slot).any fun k => (s.slot k).vessel.isSome, .slotBusy), ((slotOf slot).any fun k =>
        slotIds.any fun j => j != k && (s.slot j).vessel.any fun v => v.id == id,
        .duplicate), ((s.node .bay).silent, .nodeSilent), ((slotOf slot).any fun k =>
        !(s.slot k).platform.any fun p => p.present, .notPresent)] = some .range) ∧
    (∃ (s : State) (slot : Nat), s.takesCommand ∧ firstRefusal
      [(slot == 0 || 12 < slot, .noSuchSlot), ((slotOf slot).any fun k => (s.slot
        k).vessel.isNone, .wrongState)] = some .wrongState) ∧
    (∃ (s : State) (slot : Nat), s.takesCommand ∧ firstRefusal
      [(slot == 0 || 12 < slot, .noSuchSlot), ((slotOf slot).any fun k => !(s.slot
        k).vessel.any fun v => v.state != .filling, .wrongState), ((slotOf slot).any fun k
        => (trainIds.any fun t => (s.train t).slot == some k) || bankIds.any fun bk =>
        (s.bank bk).drainSlot == some k, .feeding), ((s.node .bay).silent, .nodeSilent)] =
        some .feeding) ∧
    (∃ (s : State) (slot : Nat), s.takesCommand ∧ firstRefusal
      [(slot == 0 || 12 < slot, .noSuchSlot)] = some .noSuchSlot) ∧
    (∃ (s : State), s.takesCommand ∧ firstRefusal
      [(s.control.line == .halted, .lineHalted), (s.chamber.phase != .faulted ||
        s.chamber.readings.any fun r => r.running, .wrongState)] = some .wrongState) ∧
    (∃ (s : State) (bk : BankId), s.takesCommand ∧ firstRefusal
      [((s.bank bk).state != .faulted || (s.bank bk).drainSlot.isSome, .wrongState),
        ((s.node .condenser).silent, .nodeSilent)] = some .wrongState) ∧
    (∃ (s : State), s.takesCommand ∧ firstRefusal
      [(bankIds.all fun bk => (s.bank bk).state != .condensing, .wrongState)] = some
        .wrongState) ∧
    (∃ (s : State), s.takesCommand ∧ firstRefusal
      [(s.control.line == .step, .wrongState), (s.control.line == .halted, .lineHalted)] =
        some .wrongState) ∧
    (∃ (s : State), s.takesCommand ∧ firstRefusal
      [(s.control.line == .halted, .lineHalted)] = some .lineHalted) ∧
    (∃ (s : State), s.takesCommand ∧ firstRefusal
      [(s.control.line == .run || s.control.line == .step, .wrongState), (s.control.line ==
        .halted, .lineHalted)] = some .wrongState) ∧
    (∃ (s : State) (tag : Nat) (phase : PhaseName), s.takesCommand ∧ firstRefusal
      [(tag == 0 || phase == .empty || phase == .idle, .range), (s.control.watch.any fun w
        => w.tag == tag && w.phase == phase, .duplicate), (4 ≤ s.control.watch.length,
        .full)] = some .range) ∧
    (∃ (s : State) (name : SettingName) (value : Nat), s.takesCommand ∧ firstRefusal
      [(s.control.line == .halted, .lineHalted), (s.control.line == .run || s.control.line
        == .step, .wrongState), (value < settingLow s.limits name || settingHigh s.limits
        name < value, .range)] = some .range) :=
  ⟨⟨State.reset, 1, 9, ⟨rfl, rfl⟩, by decide +kernel⟩,
    ⟨State.reset, 1, ⟨rfl, rfl⟩, by decide +kernel⟩,
    ⟨State.reset, 5, ⟨rfl, rfl⟩, by decide +kernel⟩,
    ⟨State.reset, 8, ⟨rfl, rfl⟩, by decide +kernel⟩,
    ⟨State.reset, 8, ⟨rfl, rfl⟩, by decide +kernel⟩,
    ⟨State.reset.halt, 8, ⟨rfl, rfl⟩, by decide +kernel⟩,
    ⟨State.reset, 1, ⟨rfl, rfl⟩, by decide +kernel⟩,
    ⟨State.reset, 17, ⟨rfl, rfl⟩, by decide +kernel⟩,
    ⟨State.reset.setLine .run, ⟨rfl, rfl⟩, by decide +kernel⟩,
    ⟨State.reset, 8, [4, 4], ⟨rfl, rfl⟩, by decide +kernel⟩,
    ⟨State.reset, 4, true, ⟨rfl, rfl⟩, by decide +kernel⟩,
    ⟨State.reset, 12, 1, 1, 1, ⟨rfl, rfl⟩, by decide +kernel⟩,
    ⟨State.reset, 12, ⟨rfl, rfl⟩, by decide +kernel⟩,
    ⟨(drawing .drawing).onVessel 0 fun v => { v with state := .full }, 1, ⟨rfl, rfl⟩, by decide +kernel⟩,
    ⟨State.reset, 13, ⟨rfl, rfl⟩, by decide +kernel⟩,
    ⟨State.reset, ⟨rfl, rfl⟩, by decide +kernel⟩,
    ⟨State.reset, .a, ⟨rfl, rfl⟩, by decide +kernel⟩,
    ⟨State.reset, ⟨rfl, rfl⟩, by decide +kernel⟩,
    ⟨State.reset.setLine .step, ⟨rfl, rfl⟩, by decide +kernel⟩,
    ⟨State.reset.halt, ⟨rfl, rfl⟩, by decide +kernel⟩,
    ⟨State.reset.setLine .run, ⟨rfl, rfl⟩, by decide +kernel⟩,
    ⟨State.reset, 1, .idle, ⟨rfl, rfl⟩, by decide +kernel⟩,
    ⟨State.reset, .evacMax, 3601, ⟨rfl, rfl⟩, by decide +kernel⟩⟩

theorem witness_QueryCondenserAnswersTheBank :
    ∃ (s : State) (x : Bank), s.takesCommand ∧ x = s.bank .b :=
  ⟨State.reset, _, ⟨rfl, rfl⟩, rfl⟩

theorem witness_OtherQueriesAreAnswered :
    ∃ s : State, s.takesCommand ∧ slotOf 1 = some 0 ∧ slotOf 12 = some 11 :=
  ⟨State.reset, ⟨rfl, rfl⟩, by decide, by decide⟩

theorem witness_TableCommandsChangeTheirTable :
    ∃ (s : State) (ts : List TrainId), s.takesCommand ∧ s.control.line = .stopped ∧
      stationOf 8 = some 7 ∧ pathOf [4, 1] = some ts ∧ ts ≠ [] ∧ ts.length ≤ 4 ∧ ts.Nodup ∧
      ({ tag := 1, phase := .faulted } : WatchEntry) ∉ s.control.watch ∧ s.control.watch.length < 4 ∧
      s.control.watch.Nodup ∧ (∀ i, (s.station i).phase ≠ .sampling) :=
  ⟨State.reset, [3, 0], ⟨rfl, rfl⟩, rfl, by decide, by decide, by decide, by decide, by decide,
    by decide, by decide, by decide, by decide +kernel⟩

/-- A train to take out of service, and one to bring back. -/
theorem witness_TableCommandsChangeTheirTable_trains :
    (∃ s : State, s.takesCommand ∧ trainOf 4 = some 3 ∧ (s.train 3).state = .idle) ∧
    ∃ s : State, s.takesCommand ∧ trainOf 4 = some 3 ∧ (s.train 3).state = .outOfService ∧
      (s.node (.train 3)).silent = false :=
  ⟨⟨State.reset, ⟨rfl, rfl⟩, by decide, by decide +kernel⟩,
    ⟨State.reset.setTrainState 3 .outOfService, ⟨rfl, rfl⟩, by decide, by decide +kernel,
      by decide +kernel⟩⟩

theorem witness_StartAndStopMoveTheLine :
    ∀ l : LineState, ∃ s : State, s.takesCommand ∧ s.control.line = l :=
  fun l => ⟨State.reset.setLine l, ⟨rfl, rfl⟩, rfl⟩

theorem witness_StepGivesCredits :
    ∃ (s : State) (holds : StationId → Bool) (chamberHolds : Bool), s.takesCommand ∧
      s.control.line = .stopped ∧
      (∀ i, holds i = true ↔ (s.station i).unit ≠ none ∧ (s.station i).phase ≠ .faulted) ∧
      (chamberHolds = true ↔ ¬ (s.chamber.phase = .idle ∧ s.chamber.feed = [])) :=
  ⟨inPhase .loaded, fun i => i == 0, false, ⟨rfl, rfl⟩, rfl, by decide +kernel, by decide +kernel⟩

theorem witness_AdmitCreatesTheRecordAndClamps :
    ∃ s : State, s.takesCommand ∧ stationOf 8 = some 7 ∧
      (∀ r ∈ s.register.units ++ s.register.closing, r.tag ≠ 1) ∧
      s.register.units.length + s.register.closing.length < 48 ∧ (s.station 7).phase = .empty ∧
      (s.node (.station 7)).silent = false ∧ s.control.line ≠ .halted :=
  ⟨inPhase .loaded, ⟨rfl, rfl⟩, by decide, by decide, by decide, by decide +kernel, by decide +kernel,
    by decide⟩

/-- A query answered at once, and one that is held. -/
theorem witness_QueryUnitAnswersOrHolds :
    (∃ (s : State) (r : UnitRecord), s.takesCommand ∧
      (((s.register.units ++ s.register.closing).find? fun x => x.tag == 7).or
        (s.register.log.reverse.find? fun x => x.tag == 7)) = some r ∧
      (true && s.openAccumulation 7) = false) ∧
    (∃ (s : State) (r : UnitRecord), s.takesCommand ∧
      (((s.register.units ++ s.register.closing).find? fun x => x.tag == 7).or
        (s.register.log.reverse.find? fun x => x.tag == 7)) = some r ∧
      (true && s.openAccumulation 7) = true) ∧
    ∃ (s : State) (r : UnitRecord), r ∈ s.register.units ∧ (s.register.units.map (·.tag)).Nodup :=
  ⟨⟨inPhase .loaded, _, ⟨rfl, rfl⟩, rfl, by decide +kernel⟩,
    ⟨inPhase .evacuate, _, ⟨rfl, rfl⟩, rfl, by decide +kernel⟩,
    ⟨inPhase .loaded, UnitRecord.create 7 0 none none, by decide +kernel, by decide +kernel⟩⟩

/-- A held query of unit 7, with a line in the buffer. -/
def heldWith (buffer : Option Line) : State :=
  { inPhase .evacuate with
    link := { state := .held { tag := 7, expiry := 500 }, assembly := emptyLine, buffer := buffer
              sent := [] } }

theorem witness_HeldQueryExpiryAnswersNo :
    (∃ (s : State) (q : HeldQuery) (r : UnitRecord), s.resetPin = false ∧ s.link.state = .held q ∧
      (s.advanceTo q.expiry).queriedUnit q.tag = some r ∧ s.link.buffer = none) ∧
    (∃ (s : State) (q : HeldQuery) (r : UnitRecord) (l : Line) (f : FramingReply),
      s.resetPin = false ∧ s.link.state = .held q ∧
      (s.advanceTo q.expiry).queriedUnit q.tag = some r ∧ s.link.buffer = some l ∧
      readLine l = .framing f) ∧
    (∃ (s : State) (q : HeldQuery) (r : UnitRecord) (l : Line) (c : Command),
      s.resetPin = false ∧ s.link.state = .held q ∧
      (s.advanceTo q.expiry).queriedUnit q.tag = some r ∧ s.link.buffer = some l ∧
      readLine l = .command c) ∧
    ∃ s : State, s.resetPin = false ∧ ∀ q, s.link.state ≠ .held q :=
  ⟨⟨heldWith none, _, UnitRecord.create 7 0 none none, rfl, rfl, by decide +kernel, rfl⟩,
    ⟨heldWith (some emptyLine), _, UnitRecord.create 7 0 none none, emptyLine, .badCheck, rfl, rfl,
      by decide +kernel, rfl, by decide +kernel⟩,
    ⟨heldWith (some (checkedLine "STOP ")), _, UnitRecord.create 7 0 none none, checkedLine "STOP ",
      .stop, rfl, rfl, by decide +kernel, rfl, by decide +kernel⟩,
    ⟨State.reset, rfl, nofun⟩⟩

theorem witness_TakeClosedEmptiesTheLogHead :
    (∃ s : State, s.takesCommand ∧ s.register.log ≠ []) ∧
    ∃ s : State, s.takesCommand ∧ s.register.log = [] :=
  ⟨⟨{ State.reset with register :=
      { units := [], closing := [workedRecord], log := [workedRecord], logFull := true } }, ⟨rfl, rfl⟩,
      by decide⟩,
    ⟨State.reset, ⟨rfl, rfl⟩, rfl⟩⟩

/-- A record that closes into the log, and one that waits behind a full log. -/
theorem witness_RecordsOpenBookAndClose :
    (∃ (s : State) (r : UnitRecord), s.findUnit 7 = some r ∧
      (s.register.log.length < 32 ∧ s.register.closing = [])) ∧
    (∃ (s : State) (r : UnitRecord), s.findUnit 7 = some r ∧
      ¬ (s.register.log.length < 32 ∧ s.register.closing = [])) ∧
    (∃ (r : UnitRecord) (xs ys : List Allocation) (e : Allocation), r.allocations = xs ++ e :: ys ∧
      (∀ x ∈ xs, x.isOpen = false) ∧ e.isOpen = true ∧ r.allocations.length < 4) ∧
    (∃ (r : UnitRecord) (xs : List Allocation) (e : Allocation), r.allocations = xs ++ [e] ∧
      (∀ x ∈ r.allocations, x.isOpen = false) ∧ r.allocations.length < 4) ∧
    ∃ r : UnitRecord, 4 ≤ r.allocations.length :=
  ⟨⟨inPhase .done, _, rfl, by decide, rfl⟩,
    ⟨{ inPhase .done with register :=
        { units := (inPhase .done).register.units, closing := [], logFull := false
          log := List.replicate 32 workedRecord } }, _, rfl, by decide⟩,
    ⟨bookedRecord, [_], [], _, rfl, by decide, by decide, by decide⟩,
    ⟨workedRecord, [_], _, rfl, by decide, by decide⟩,
    ⟨{ workedRecord with allocations := workedRecord.allocations ++ workedRecord.allocations },
      by decide⟩⟩

theorem witness_ScanAndEffectiveClassAreAsGiven :
    (∃ (c : Classifier) (readings : Vector Nat 6) (e : Signature), c.table.get 3 = some e ∧
      e.matchesSample readings = true ∧ (∀ j < 3, ∀ e' ∈ c.table.get j,
        e'.matchesSample readings = false)) ∧
    ∃ (c : Classifier) (readings : Vector Nat 6), ∀ i, ∀ e ∈ c.table.get i,
      e.matchesSample readings = false :=
  ⟨⟨workedTable, #v[410, 3350, 1720, 620, 905, 88], _, rfl, by decide +kernel, by decide +kernel⟩,
    ⟨workedTable, #v[300, 1200, 1100, 1500, 600, 150], by decide +kernel⟩⟩

def sampleCycle : SampleCycle :=
  { SampleCycle.begin 0 7 4 with
    stage := .measuring, outstanding := true, openOrder := none, sampleOrder := some 5 }

/-- Station 1 heads the analyser queue of a running line, and then its sample is under way. -/
def sampling : State :=
  { inPhase .sampling with
    classifier := { (inPhase .sampling).classifier with cycle := some sampleCycle }
    loop := { (inPhase .sampling).loop with orders :=
      [{ number := 5, node := .analyser, kind := .startSample, issuer := .classifier
         deadline := 30000, acknowledged := true }] } }

theorem witness_AnalyserSamplesTheQueueHead :
    (∃ (s : State) (rest : List StationId), s.classifier.cycle = none ∧
      s.classifier.queue = 0 :: rest ∧ s.control.line = .run ∧ (s.node .analyser).silent = false ∧
      (s.station 0).unit = some 7) ∧
    (∃ s : State, s.classifier.cycle ≠ none) ∧
    ∃ (s : State) (a : AnalyserAnswer) (c : SampleCycle) (o : Order) (r : UnitRecord),
      s.resetPin = false ∧ (s.node .analyser).silent = false ∧ s.classifier.cycle = some c ∧
      c.stage = .measuring ∧ c.abandoned = false ∧ c.sampleOrder = some 5 ∧
      s.findOrder .analyser 5 = some o ∧ a.reports = [{ number := 5, status := .done }] ∧
      a.fault = false ∧ s.findUnit c.tag = some r ∧ (s.station c.station).phase = .sampling ∧
      (s.station c.station).nextPhase = none :=
  ⟨⟨((inPhase .sampleWait).setQueue [0]).setLine .run, [], rfl, rfl, rfl, by decide +kernel,
      by decide +kernel⟩,
    ⟨sampling, by decide⟩,
    ⟨sampling, analyserReading 0 [{ number := 5, status := .done }], sampleCycle, _, _, rfl, by decide +kernel,
      rfl, rfl, rfl, rfl, rfl, rfl, rfl, rfl, by decide +kernel, by decide +kernel⟩⟩

/-- With permission, and without it. -/
theorem witness_PhaseEndBeginsTheNextOrWaits :
    (∃ s : State, (s.control.line = .run ∨ (s.control.line = .step ∧ (0 : StationId) ∈ s.control.credits)) ∧
      (s.node (.station 0)).silent = false) ∧
    ∃ s : State, ¬ ((s.control.line = .run ∨ (s.control.line = .step ∧ (0 : StationId) ∈ s.control.credits)) ∧
      (s.node (.station 0)).silent = false) :=
  ⟨⟨(inPhase .pierce).setLine .run, .inl rfl, by decide +kernel⟩, ⟨inPhase .pierce, by decide +kernel⟩⟩

/-- What the three answers of R54, R59 and R64 have in common. -/
def plainAnswer (s : State) (a : StationAnswer) : Prop :=
  s.resetPin = false ∧ (s.node (.station 0)).silent = false ∧ s.control.line ≠ .halted ∧
    a.reports = [] ∧ (s.station 0).unsecured = [] ∧
    (∀ c, s.classifier.cycle = some c → c.station = 0 → c.blocked = false)

theorem witness_StationAnswerEndsPhases_pierce :
    ∃ (s : State) (a b : StationAnswer), plainAnswer s a ∧ plainAnswer s b ∧
      (s.station 0).phase = .pierce ∧ (s.station 0).nextPhase = none ∧
      (s.station 0).pierceDone = true ∧ (s.station 0).unit = some 7 ∧
      a.pressure < s.control.settings.pierceEmpty ∧ s.control.settings.pierceEmpty ≤ b.pressure :=
  ⟨unitAt 7 fun x => { x with phase := .pierce, pierceDone := true }, stationReading 119 0 [],
    stationReading 120 0 [],
    ⟨rfl, by decide +kernel, by decide, rfl, by decide +kernel, absent rfl⟩,
    ⟨rfl, by decide +kernel, by decide, rfl, by decide +kernel, absent rfl⟩,
    by decide +kernel, by decide +kernel, by decide +kernel, by decide +kernel, by decide, by decide⟩

theorem witness_StationAnswerEndsPhases_evacuate :
    ∃ (s : State) (a : StationAnswer), plainAnswer s a ∧
      (s.station 0).phase = .evacuate ∧ (s.station 0).nextPhase = none ∧
      (s.station 0).evacValve = .opened ∧ (s.station 0).suspended = false ∧
      (s.station 0).awaitingVessel = false ∧ a.pressure ≤ s.control.settings.evacTarget ∧
      (s.station 0).train = some 0 ∧ (s.train 0).state = .drawing :=
  ⟨drawing .drawing, stationReading 30 0 [],
    ⟨rfl, by decide +kernel, by decide, rfl, by decide +kernel, absent rfl⟩,
    by decide +kernel, by decide +kernel, by decide +kernel, by decide +kernel, by decide +kernel,
    by decide, by decide +kernel, by decide +kernel⟩

/-- A rise at the limit, and one above it with and without an attempt left. -/
theorem witness_StationAnswerEndsPhases_rise :
    (∃ (s : State) (r : UnitRecord) (a b : StationAnswer), plainAnswer s a ∧ plainAnswer s b ∧
      (s.station 0).phase = .riseTest ∧ (s.station 0).nextPhase = none ∧
      (s.station 0).riseEntry = some 20 ∧ (s.station 0).holdEnd = some 0 ∧
      0 ≤ (s.advanceTo a.moment).now ∧ (s.station 0).unit = some 7 ∧ s.findUnit 7 = some r ∧
      (a.pressure : Int) - 20 ≤ s.control.settings.riseLimit ∧
      (s.control.settings.riseLimit : Int) < b.pressure - 20 ∧
      r.evacuations < s.control.settings.evacAttempts) ∧
    ∃ (s : State) (r : UnitRecord) (b : StationAnswer), plainAnswer s b ∧
      (s.station 0).phase = .riseTest ∧ (s.station 0).nextPhase = none ∧
      (s.station 0).riseEntry = some 20 ∧ (s.station 0).holdEnd = some 0 ∧
      (s.station 0).unit = some 7 ∧ s.findUnit 7 = some r ∧
      (s.control.settings.riseLimit : Int) < b.pressure - 20 ∧
      s.control.settings.evacAttempts ≤ r.evacuations :=
  ⟨⟨unitAt 7 fun x => { x with phase := .riseTest, riseEntry := some 20, holdEnd := some 0 }, _,
      stationReading 35 0 [], stationReading 36 0 [],
      ⟨rfl, by decide +kernel, by decide, rfl, by decide +kernel, absent rfl⟩,
      ⟨rfl, by decide +kernel, by decide, rfl, by decide +kernel, absent rfl⟩,
      by decide +kernel, by decide +kernel, by decide +kernel, by decide +kernel, Nat.zero_le _,
      by decide +kernel, rfl, by decide, by decide, by decide +kernel⟩,
    ⟨(unitAt 7 fun x => { x with phase := .riseTest, riseEntry := some 20, holdEnd := some 0 }).onUnit 7
        fun r => { r with evacuations := 3 }, _, stationReading 36 0 [],
      ⟨rfl, by decide +kernel, by decide, rfl, by decide +kernel, absent rfl⟩,
      by decide +kernel, by decide +kernel, by decide +kernel, by decide +kernel, by decide +kernel, rfl,
      by decide, by decide +kernel⟩⟩

theorem witness_StationFaultActionIsTaken :
    ∃ s : State, (s.station 0).unit = some 7 ∧ (s.station 0).train = some 0 ∧
      (s.train 0).state = .waitVessel :=
  ⟨drawing .waitVessel, by decide +kernel, by decide +kernel, by decide +kernel⟩

theorem witness_StationExpiriesAct :
    (∃ s : State, s.resetPin = false ∧ (s.station 0).phase = .evacuate ∧
      (s.station 0).suspended = false ∧ (s.station 0).awaitingVessel = false ∧
      s.control.line ≠ .halted ∧ (s.station 0).unit = some 7) ∧
    (∃ s : State, s.resetPin = false ∧ (s.station 0).phase ≠ .evacuate) ∧
    ∃ s : State, s.resetPin = false ∧ (s.station 0).phase = .oilDrain ∧
      (s.station 0).nextPhase = none ∧ s.control.line ≠ .halted ∧ (s.station 0).unit = some 7 ∧
      (s.station 0).oilDeadline = some 300000 ∧ (s.station 0).oilReference = some 4 ∧
      (s.station 0).oilReadings = [] ++ [{ moment := 0, grams := 9 }] :=
  ⟨⟨drawing .drawing, rfl, by decide +kernel, by decide +kernel, by decide +kernel, by decide,
      by decide +kernel⟩,
    ⟨State.reset, rfl, by decide +kernel⟩,
    ⟨unitAt 7 fun x => { x with
        phase := .oilDrain, oilDeadline := some 300000, oilReference := some 4
        oilReadings := [{ moment := 0, grams := 9 }] },
      rfl, by decide +kernel, by decide +kernel, by decide, by decide +kernel, by decide +kernel,
      by decide +kernel, by decide +kernel⟩⟩

theorem witness_ReleaseAndRetireUnclamp :
    (∃ s : State, s.takesCommand ∧ stationOf 1 = some 0 ∧ (s.node (.station 0)).silent = false ∧
      (s.station 0).phase = .done ∧ (s.station 0).unit = some 7 ∧ s.chamber.feed.length < 6 ∧
      (s.station 0).unclamping = false ∧ (s.station 0).train = none ∧
      (s.station 0).unsecured = []) ∧
    ∃ s : State, s.takesCommand ∧ (s.node (.station 0)).silent = false ∧
      (s.station 0).phase = .faulted ∧ (s.station 0).unclamping = false ∧
      (s.station 0).train = none ∧ (s.station 0).unsecured = [] ∧ (s.station 0).unit = none :=
  ⟨⟨inPhase .done, ⟨rfl, rfl⟩, by decide, by decide +kernel, by decide +kernel, by decide +kernel,
      by decide, by decide +kernel, by decide +kernel, by decide +kernel⟩,
    ⟨State.reset.onStation 0 fun x => { x with phase := .faulted }, ⟨rfl, rfl⟩, by decide +kernel,
      by decide +kernel, by decide +kernel, by decide +kernel, by decide +kernel, by decide +kernel⟩⟩

/-- One state for each faulted phase. -/
theorem witness_ResumePlacesTheStation :
    ∀ p : StationPhase, p ≠ .empty → p ≠ .faulted →
      ∃ s : State, s.takesCommand ∧ stationOf 1 = some 0 ∧ s.control.line ≠ .halted ∧
        (s.station 0).phase = .faulted ∧ (s.station 0).unit = some 7 ∧ (s.station 0).train = none ∧
        (s.station 0).unsecured = [] ∧ (s.node (.station 0)).silent = false ∧
        (s.station 0).faultedPhase = some (.phase p) :=
  fun p _ _ => ⟨unitAt 7 fun x => { x with phase := .faulted, faultedPhase := some (.phase p) },
    ⟨rfl, rfl⟩, by decide, nofun, rfl, rfl, rfl, rfl, rfl, rfl⟩

/-- A delta below the fill-limit and one that reaches it, for a train that books mass. -/
theorem witness_TrainAnswerBooksOrFaults :
    (∃ (s : State) (a b : TrainAnswer) (r : UnitRecord) (xs : List Allocation) (e : Allocation)
      (v : Vessel), s.resetPin = false ∧ (s.node (.train 0)).silent = false ∧ a.reports = [] ∧
      b.reports = [] ∧ a.compressor ≠ .failed ∧ a.discharge ≤ 2000 ∧ (s.train 0).state = .drawing ∧
      (s.train 0).tag = some 7 ∧ s.findUnit 7 = some r ∧ r.allocations = xs ++ [e] ∧
      (∀ x ∈ xs, x.isOpen = false) ∧ (s.slot e.slot).vessel = some v ∧ v.state ≠ .full ∧
      v.booked + a.delta + v.initial < v.fill ∧ v.fill ≤ v.booked + b.delta + v.initial) ∧
    ∃ (s : State) (a b c : TrainAnswer), s.resetPin = false ∧ (s.node (.train 0)).silent = false ∧
      a.reports = [] ∧ b.reports = [] ∧ c.reports = [] ∧ (s.train 0).state = .idle ∧
      a.discharge ≤ 2000 ∧ a.compressor ≠ .failed ∧ 2000 < b.discharge ∧ b.compressor ≠ .failed ∧
      c.discharge ≤ 2000 ∧ c.compressor = .failed :=
  ⟨⟨drawing .drawing, trainReading 0 2000 69 [], trainReading 0 2000 70 [], _, [_], _,
      hfcVessel .filling, rfl, by decide +kernel, rfl, rfl, by decide, by decide, by decide +kernel,
      by decide +kernel, rfl, rfl, by decide, by decide +kernel, by decide, by decide, by decide⟩,
    ⟨State.reset, trainReading 0 2000 0 [], trainReading 0 2001 0 [],
      { trainReading 0 2000 0 [] with compressor := .failed }, rfl, by decide +kernel, rfl, rfl, rfl,
      by decide +kernel, by decide, by decide, by decide, by decide, by decide, by decide⟩⟩

/-- A faulted train, and one whose fault is taken. -/
theorem witness_TrainAnswerBooksOrFaults_faults :
    (∃ s : State, (s.train 0).state = .faulted) ∧
    ∃ s : State, (s.train 0).state ≠ .faulted ∧ (s.train 0).state ≠ .outOfService ∧
      (s.train 0).state ≠ .idle :=
  ⟨⟨drawing .faulted, by decide +kernel⟩,
    ⟨drawing .drawing, by decide +kernel, by decide +kernel, by decide +kernel⟩⟩

/-- Station 1 waits for a train, with a vessel of its class; train 2 drew HFC last where `carried`. -/
def waiting (carried : Bool) (entries : Nat) : State :=
  let s := ((State.reset.addUnit { UnitRecord.create 7 0 (some .hfc) none with
      effective := some .hfc
      allocations := List.replicate entries { slot := 0, vessel := 1, grams := 0, isOpen := false } }).onStation
        0 fun x => { x with unit := some 7, phase := .trainWait, requestTime := some 0 }).setSlot 2
          { vessel := some (hfcVessel .filling), platform := none }
  (if carried then s.setTrain 1 { Train.reset with lastClass := some .hfc } else s).setLine .run

def hfcRequest : Request := { station := 0, time := 0, needed := some .hfc }

/-- A train that is eligible for station 1, as the statement spells it. -/
def mayServe (s : State) (t : TrainId) : Prop :=
  (s.train t).state = .idle ∧ (s.node (.train t)).silent = false ∧
    (s.flammableRisk 7 = true → t.val < 2)

theorem witness_GrantScanServesARequest_stands :
    (∃ s : State, (s.station 0).unit = some 7 ∧ s.control.line = .halted) ∧
    (∃ s : State, (s.station 0).unit = some 7 ∧ ∀ t ∈ s.arbiter.paths.get 0, ¬ mayServe s t) ∧
    ∃ s : State, (s.station 0).unit = some 7 ∧ s.chooseVessel .hfc = none := by
  refine ⟨⟨(waiting true 0).setLine .halted, by decide +kernel, rfl⟩,
    ⟨forAll trainIds (waiting true 0) fun s t => s.setTrainState t .tailing, by decide +kernel, ?_⟩,
    ⟨inPhase .trainWait, by decide +kernel, by decide +kernel⟩⟩
  unfold mayServe
  decide +kernel

/-- The first train whose last class is the class needed, the first eligible one, and an exhausted
request. -/
theorem witness_GrantScanServesARequest :
    (∃ (s : State) (v : Vessel) (r : UnitRecord), (s.station 0).unit = some 7 ∧
      s.control.line = .run ∧ s.arbiter.paths.get 0 = [0] ++ 1 :: [2, 3] ∧
      s.chooseVessel .hfc = some 2 ∧ (s.slot 2).vessel = some v ∧ s.findUnit 7 = some r ∧
      (mayServe s 1 ∧ (s.train 1).lastClass = some .hfc) ∧
      (∀ x ∈ ([0] : List TrainId), ¬ (mayServe s x ∧ (s.train x).lastClass = some .hfc)) ∧
      r.allocations.length < 4 ∧ ({ tag := 7, phase := .evacuate } : WatchEntry) ∉ s.control.watch) ∧
    (∃ (s : State) (v : Vessel) (r : UnitRecord), (s.station 0).unit = some 7 ∧
      s.control.line = .run ∧ s.arbiter.paths.get 0 = [] ++ 0 :: [1, 2, 3] ∧
      s.chooseVessel .hfc = some 2 ∧ (s.slot 2).vessel = some v ∧ s.findUnit 7 = some r ∧
      mayServe s 0 ∧ (∀ x : TrainId, ¬ (mayServe s x ∧ (s.train x).lastClass = some .hfc)) ∧
      4 ≤ r.allocations.length) := by
  refine ⟨⟨waiting true 3, hfcVessel .filling, _, by decide +kernel, rfl, by decide +kernel,
      by decide +kernel, by decide +kernel, rfl, ?_, ?_, by decide, by decide⟩,
    ⟨waiting false 4, hfcVessel .filling, _, by decide +kernel, rfl, by decide +kernel,
      by decide +kernel, by decide +kernel, rfl, ?_, ?_, by decide⟩⟩ <;>
    unfold mayServe <;> decide +kernel

/-- The evacuation valve that opens, and one that stays. -/
theorem witness_GrantScanServesARequest_valve :
    (∃ s : State, (s.station 0).train = some 0 ∧ (s.station 0).phase = .evacuate ∧
      (s.station 0).evacValve = .closed ∧ (s.train 0).state = .drawing ∧
      (s.station 0).suspended = false ∧ (s.station 0).awaitingVessel = false ∧
      s.control.line ≠ .halted) ∧
    ∃ s : State, (s.station 0).train = some 0 ∧ (s.station 0).evacValve ≠ .closed :=
  ⟨⟨(drawing .drawing).onStation 0 fun x => { x with evacValve := .closed }, by decide +kernel,
      by decide +kernel, by decide +kernel, by decide +kernel, by decide +kernel, by decide +kernel,
      by decide⟩,
    ⟨drawing .drawing, by decide +kernel, by decide +kernel⟩⟩

/-- A purging train, with its vessel in a state. -/
def purging (st : VesselState) (suspended : Bool) : State :=
  (((drawing .purging).onTrain 0 fun x => { x with purgeEnd := some 90000 }).onStation 0 fun x =>
    { x with suspended := suspended, evacValve := .closed }).onVessel 0 fun v => { v with state := st }

/-- What the purge end finds, whatever the vessel and the station. -/
def purgeReady (s : State) : Prop :=
  s.resetPin = false ∧ (s.train 0).state = .purging ∧ s.control.line ≠ .halted ∧
    (s.train 0).purgeEnd = some 90000 ∧ (s.train 0).station = some 0 ∧ (s.train 0).tag = some 7 ∧
    (s.train 0).carried = some .hfc ∧ (s.train 0).slot = some 0

theorem witness_TrainExpiriesAct :
    (∃ (s : State) (v : Vessel) (r : UnitRecord), purgeReady s ∧ (s.slot 0).vessel = some v ∧
      s.findUnit 7 = some r ∧ (s.station 0).suspended = true ∧ v.state ≠ .full) ∧
    (∃ (s : State) (v : Vessel) (r : UnitRecord), purgeReady s ∧ (s.slot 0).vessel = some v ∧
      s.findUnit 7 = some r ∧ (s.station 0).suspended = false ∧ v.state = .full ∧
      r.allocations.length < 4 ∧ s.chooseVessel .hfc = none) ∧
    (∃ (s : State) (v v' : Vessel) (r : UnitRecord), purgeReady s ∧ (s.slot 0).vessel = some v ∧
      s.findUnit 7 = some r ∧ v.state = .full ∧ r.allocations.length < 4 ∧
      s.chooseVessel .hfc = some 5 ∧ (s.slot 5).vessel = some v') ∧
    (∃ (s : State) (v : Vessel) (r : UnitRecord), purgeReady s ∧ (s.slot 0).vessel = some v ∧
      s.findUnit 7 = some r ∧ v.state = .full ∧ 4 ≤ r.allocations.length) ∧
    ∃ s : State, s.resetPin = false ∧ (s.train 0).state = .tailing ∧ (s.train 0).tailEnd = some 10000 ∧
      (s.train 0).station = some 0 ∧ (s.train 0).tag = some 7 := by
  refine ⟨⟨purging .filling true, hfcVessel .filling, _, ?_, by decide +kernel, rfl,
      by decide +kernel, by decide⟩,
    ⟨purging .full false, hfcVessel .full, _, ?_, by decide +kernel, rfl, by decide +kernel, by decide,
      by decide, by decide +kernel⟩,
    ⟨(purging .full false).setSlot 5 { vessel := some (hfcVessel .ready), platform := none },
      hfcVessel .full, hfcVessel .ready, _, ?_, by decide +kernel, rfl, by decide, by decide,
      by decide +kernel, by decide +kernel⟩,
    ⟨(purging .full false).onUnit 7 fun r => { r with allocations := r.allocations ++ r.allocations },
      hfcVessel .full, _, ?_, by decide +kernel, rfl, by decide, by decide⟩,
    ⟨(drawing .tailing).onTrain 0 fun x => { x with tailEnd := some 10000 }, rfl, by decide +kernel,
      by decide +kernel, by decide +kernel, by decide +kernel⟩⟩ <;>
    unfold purgeReady <;> decide +kernel

/-- A fed vessel at 105 % of its capacity, and one gram above it. -/
def weighed (net : Nat) : State :=
  (drawing .drawing).setSlot 0
    { vessel := some (hfcVessel .filling), platform := some { present := true, net := net } }

theorem witness_BayAnswerWritesAndTestsOverfill :
    (∃ (s : State) (v : Vessel) (p : Platform), (s.slot 0).vessel = some v ∧
      (s.slot 0).platform = some p ∧ (∃ t, (s.train t).slot = some 0) ∧ v.initial ≤ p.net ∧
      (105 : Int) * (v.fill - v.initial) < 100 * (p.net - v.initial)) ∧
    ∃ (s : State) (v : Vessel) (p : Platform), (s.slot 0).vessel = some v ∧
      (s.slot 0).platform = some p ∧ (100 : Int) * (p.net - v.initial) ≤ 105 * (v.fill - v.initial) :=
  ⟨⟨weighed 106, _, _, rfl, rfl, ⟨0, by decide +kernel⟩, by decide, by decide⟩,
    ⟨weighed 105, _, _, rfl, rfl, by decide⟩⟩

/-- The vessels of a class in a state, as the statement spells it. -/
theorem witness_VesselChoicePrefersFilling :
    ∃ (s : State) (is : SlotId → VesselState → Prop),
      (∀ k st, is k st ↔ ∃ v, (s.slot k).vessel = some v ∧ v.cls = .hfc ∧ v.state = st) ∧
      is 0 .filling ∧ is 5 .ready :=
  ⟨(drawing .drawing).setSlot 5 { vessel := some (hfcVessel .ready), platform := none }, _,
    fun _ _ => Iff.rfl, ⟨hfcVessel .filling, by decide +kernel, rfl, rfl⟩,
    ⟨hfcVessel .ready, by decide +kernel, rfl, rfl⟩⟩

theorem witness_BookingTestsTheFillLimit :
    (∃ (v : Vessel) (d : Grams), 0 < d ∧ v.state = .ready ∧ v.booked + d + v.initial < v.fill) ∧
    (∃ (v : Vessel) (d : Grams), 0 < d ∧ v.state = .filling ∧ v.booked + d + v.initial < v.fill) ∧
    (∃ (v : Vessel) (d : Grams), 0 < d ∧ v.state = .ready ∧ v.fill ≤ v.booked + d + v.initial) ∧
    ∃ (v : Vessel) (d : Grams), 0 < d ∧ v.state = .full :=
  ⟨⟨hfcVessel .ready, 69, by decide, by decide, by decide⟩,
    ⟨hfcVessel .filling, 69, by decide, by decide, by decide⟩,
    ⟨hfcVessel .ready, 70, by decide, by decide, by decide⟩, ⟨hfcVessel .full, 1, by decide, by decide⟩⟩

theorem witness_VesselsEnterCloseAndChangeOver :
    (∃ (s : State) (p : Platform), s.takesCommand ∧ slotOf 12 = some 11 ∧ (0 : Nat) < 1 ∧
      (s.slot 11).vessel = none ∧ (∀ j, ∀ v ∈ (s.slot j).vessel, v.id ≠ 2) ∧
      (s.node .bay).silent = false ∧ (s.slot 11).platform = some p ∧ p.present = true) ∧
    (∃ (s : State) (v : Vessel), s.takesCommand ∧ (s.slot 0).vessel = some v ∧ v.state ≠ .full ∧
      v.cls ≠ .agent) ∧
    (∃ (s : State) (v : Vessel), s.takesCommand ∧ (s.slot 0).vessel = some v ∧ v.state ≠ .full ∧
      v.cls = .agent) ∧
    ∃ (s : State) (v : Vessel), s.takesCommand ∧ (s.slot 0).vessel = some v ∧ v.state = .full :=
  ⟨⟨(drawing .drawing).setSlot 11 { vessel := none, platform := some { present := true, net := 0 } },
      _, ⟨rfl, rfl⟩, by decide, by decide, by decide +kernel, by decide +kernel, by decide +kernel, rfl,
      rfl⟩,
    ⟨drawing .drawing, hfcVessel .filling, ⟨rfl, rfl⟩, by decide +kernel, by decide, by decide⟩,
    ⟨State.reset.setSlot 0 { vessel := some agentVessel, platform := none }, agentVessel, ⟨rfl, rfl⟩,
      by decide +kernel, by decide, by decide⟩,
    ⟨State.reset.setSlot 0 { vessel := some (hfcVessel .full), platform := none }, hfcVessel .full,
      ⟨rfl, rfl⟩, by decide +kernel, by decide⟩⟩

/-- A vessel at the discrepancy limit, and one gram above it. -/
theorem witness_RemovedVesselIsReconciled :
    ∀ net ∈ [80, 81], ∃ (s : State) (v : Vessel) (p : Platform) (gain : Int) (diff : Nat),
      s.takesCommand ∧ slotOf 1 = some 0 ∧ (s.slot 0).vessel = some v ∧ v.state ≠ .filling ∧
      (∀ t, (s.train t).slot ≠ some 0) ∧ (∀ bk, (s.bank bk).drainSlot ≠ some 0) ∧
      (s.node .bay).silent = false ∧ (s.slot 0).platform = some p ∧
      gain = (p.net : Int) - v.initial ∧ diff = (gain - v.booked).natAbs ∧
      ((s.control.settings.discrepancyGrams < diff ∧
        s.control.settings.discrepancyPercent * v.booked < 100 * diff) ↔ net = 81) := by
  intro net h
  simp only [List.mem_cons, List.not_mem_nil, or_false] at h
  rcases h with rfl | rfl
  · exact ⟨State.reset.setSlot 0
        { vessel := some (hfcVessel .full), platform := some { present := true, net := 80 } },
      hfcVessel .full, { present := true, net := 80 }, _, _, ⟨rfl, rfl⟩, by decide, by decide +kernel,
      by decide, by decide +kernel, bothBanks (by decide) (by decide), by decide +kernel,
      by decide +kernel, rfl, rfl, by decide⟩
  · exact ⟨State.reset.setSlot 0
        { vessel := some (hfcVessel .full), platform := some { present := true, net := 81 } },
      hfcVessel .full, { present := true, net := 81 }, _, _, ⟨rfl, rfl⟩, by decide, by decide +kernel,
      by decide, by decide +kernel, bothBanks (by decide) (by decide), by decide +kernel,
      by decide +kernel, rfl, rfl, by decide⟩

/-- Bank A is CONDENSING, and the chamber stands before SHRED with an O2 reading; the line runs. -/
def beforeShred (o2 : Nat) : State :=
  { (chamberIn .airlock).setLine .run with
    condenser := { (chamberIn .airlock).condenser with
      bankA := { Bank.reset with state := .condensing } }
    chamber := { (chamberIn .airlock).chamber with readings := some (gasReading o2 0) } }

/-- Permission of the chamber, as the statement spells it. -/
def chamberFree (s : State) : Prop :=
  (s.control.line = .run ∨ (s.control.line = .step ∧ s.control.chamberCredit = true)) ∧
    (s.node .chamber).silent = false

/-- Without permission, with it before SHRED at and above purge-o2, with no bank, and in IDLE. -/
theorem witness_ChamberBeginsPhasesWithPermission :
    (∃ s : State, ¬ chamberFree s) ∧
    (∃ (s : State) (r : UnitRecord), chamberFree s ∧ s.chamber.unit = some 7 ∧ s.findUnit 7 = some r ∧
      s.condensing = some .a ∧ (s.bank .a).window.length < 8 ∧
      ((s.bank .a).swapPending = true → (s.bank .a).load < s.control.settings.bankHardLoad) ∧
      s.chamber.readings = some (gasReading 40 0) ∧ 40 ≤ s.control.settings.purgeO2) ∧
    (∃ (s : State) (r : UnitRecord), chamberFree s ∧ s.chamber.unit = some 7 ∧ s.findUnit 7 = some r ∧
      s.condensing = some .a ∧ r.inertRequired = true ∧
      s.chamber.readings = some (gasReading 41 0) ∧ s.control.settings.purgeO2 < 41) ∧
    (∃ s : State, s.condensing = none) ∧
    ∃ s : State, chamberFree s ∧ s.chamber.phase = .idle ∧ s.chamber.nextPhase = none ∧
      s.chamber.feed = 7 :: [] := by
  refine ⟨⟨chamberIn .airlock, ?_⟩,
    ⟨beforeShred 40, _, ?_, rfl, rfl, by decide +kernel, by decide, by decide, rfl, by decide⟩,
    ⟨beforeShred 41, _, ?_, rfl, rfl, by decide +kernel, by decide, rfl, by decide⟩,
    ⟨State.reset, by decide +kernel⟩,
    ⟨({ State.reset with chamber := { Chamber.reset with feed := [7] } } : State).setLine .run, ?_, rfl, rfl,
      rfl⟩⟩ <;>
    unfold chamberFree <;> decide +kernel

/-- What every chamber answer of the statement has. -/
def quietChamber (s : State) (a : ChamberAnswer) : Prop :=
  s.resetPin = false ∧ (s.node .chamber).silent = false ∧ a.reports = []

/-- Both sides of lel-warn, of purge-o2, of pause-o2 and of 80, the re-purge, and EMPTY. -/
theorem witness_ChamberAnswerActsOnItsReadings :
    (∃ (s : State) (a b : ChamberAnswer), quietChamber s a ∧ quietChamber s b ∧
      s.chamber.phase = .idle ∧ s.control.settings.lelWarn ≤ a.readings.lel ∧
      b.readings.lel < s.control.settings.lelWarn) ∧
    (∃ (s : State) (a b : ChamberAnswer), quietChamber s a ∧ quietChamber s b ∧
      s.chamber.nextPhase = none ∧ s.control.line ≠ .halted ∧ s.chamber.phase = .purge ∧
      s.chamber.repurge = false ∧ s.control.settings.purgeO2 < a.readings.o2 ∧
      b.readings.o2 ≤ s.control.settings.purgeO2) ∧
    (∀ noted, ∃ (s : State) (a : ChamberAnswer), quietChamber s a ∧
      s.chamber.nextPhase = none ∧ s.control.line ≠ .halted ∧ s.chamber.phase = .purge ∧
      s.chamber.repurge = true ∧ a.readings.o2 ≤ s.control.settings.purgeO2 ∧ a.readings.o2 ≤ 80 ∧
      a.readings.emptied = false ∧ s.chamber.emptyNoted = noted) ∧
    ∃ (s : State) (a b c : ChamberAnswer) (r : UnitRecord), quietChamber s a ∧ quietChamber s b ∧
      quietChamber s c ∧ s.chamber.nextPhase = none ∧ s.control.line ≠ .halted ∧
      s.chamber.phase = .shred ∧ s.chamber.repurge = false ∧ s.chamber.unit = some 7 ∧
      s.findUnit 7 = some r ∧ r.inertRequired = true ∧
      s.control.settings.pauseO2 < a.readings.o2 ∧ a.readings.o2 ≤ 80 ∧ a.readings.emptied = false ∧
      80 < b.readings.o2 ∧ b.readings.emptied = false ∧
      (c.readings.o2 ≤ s.control.settings.pauseO2 ∧ c.readings.o2 ≤ 80) ∧
      (∀ o ∈ s.loop.orders, o.node = .chamber → o.kind ≠ .shredderStop) ∧
      c.readings.emptied = true := by
  refine ⟨⟨State.reset, chamberReading 0 10, chamberReading 0 9, ?_, ?_, rfl, by decide, by decide⟩,
    ⟨chamberIn .purge, chamberReading 41 0, chamberReading 40 0, ?_, ?_, rfl, by decide, rfl, rfl,
      by decide, by decide⟩,
    fun noted => ⟨(chamberIn .purge).onChamber fun c => { c with repurge := true, emptyNoted := noted },
      chamberReading 40 0, ?_, rfl, nofun, rfl, rfl, Nat.le_refl 40, by decide, rfl, rfl⟩,
    ⟨chamberIn .shred, chamberReading 80 0, chamberReading 81 0,
      { moment := 0, reports := [], readings := { gasReading 50 0 with emptied := true } }, _, ?_, ?_, ?_,
      rfl, by decide, rfl, rfl, rfl, rfl, by decide, by decide, by decide, rfl, by decide, rfl, by decide,
      by decide, rfl⟩⟩ <;>
    exact ⟨rfl, rfl, rfl⟩

theorem witness_ChamberAnswerActsOnItsReadings_end :
    ∃ (s : State) (r : UnitRecord) (ws : List WindowEntry) (w : WindowEntry) (g : ChamberReadings),
      s.chamber.unit = some 7 ∧ s.findUnit 7 = some r ∧ r.windows = ws ++ [w] ∧
      s.chamber.readings = some g ∧ s.chamber.foamStart = some 0 :=
  ⟨chamberIn .shred, _, [], _, _, rfl, rfl, rfl, rfl, rfl⟩

theorem witness_ChamberExpiriesAct :
    (∃ (s : State) (g : ChamberReadings), s.resetPin = false ∧ s.chamber.phase = .purge ∧
      s.chamber.nextPhase = none ∧ s.control.line ≠ .halted ∧ s.chamber.purgeEnd = some 300000 ∧
      s.chamber.readings = some g) ∧
    (∃ s : State, s.resetPin = false ∧ s.chamber.phase ≠ .purge ∧ s.chamber.phase ≠ .clear) ∧
    (∃ (s : State) (r : UnitRecord), s.chamber.unit = some 7 ∧ s.findUnit 7 = some r ∧
      ∀ w, r.windows.getLast? = some w → w.foam ≠ none) ∧
    (∃ (s : State) (r : UnitRecord), s.resetPin = false ∧ s.chamber.phase = .clear ∧
      s.chamber.nextPhase = none ∧ s.control.line ≠ .halted ∧ s.chamber.clearEnd = some 60000 ∧
      s.chamber.unit = some 7 ∧ s.findUnit 7 = some r ∧ ∃ w ∈ r.windows, w.share = none) ∧
    ∃ (s : State) (r : UnitRecord), s.resetPin = false ∧ s.chamber.phase = .clear ∧
      s.chamber.nextPhase = none ∧ s.control.line ≠ .halted ∧ s.chamber.clearEnd = some 60000 ∧
      s.chamber.unit = some 7 ∧ s.findUnit 7 = some r ∧ ∀ w ∈ r.windows, w.share ≠ none :=
  ⟨⟨(chamberIn .purge).onChamber fun c => { c with purgeEnd := some 300000 }, _, rfl, rfl, rfl,
      by decide, rfl, rfl⟩,
    ⟨State.reset, rfl, by decide, by decide⟩,
    ⟨(chamberIn .shred).onUnit 7 fun r => { r with windows := [] }, _, rfl, rfl, absent rfl⟩,
    ⟨(chamberIn .clear).onChamber fun c => { c with clearEnd := some 60000 }, _, rfl, rfl, rfl, by decide,
      rfl, rfl, rfl, ⟨_, List.mem_cons_self, rfl⟩⟩,
    ⟨((chamberIn .clear).onChamber fun c => { c with clearEnd := some 60000 }).onUnit 7 fun r =>
        { r with windows := [] }, _, rfl, rfl, rfl, by decide, rfl, rfl, rfl, nofun⟩⟩

theorem witness_WithdrawalAndAbortFreeTheUnit :
    (∃ (s : State) (r : UnitRecord), s.takesCommand ∧ s.findInRegister 7 = some r ∧
      r.place = some .queued) ∧
    (∃ (s : State) (r : UnitRecord), s.takesCommand ∧ s.control.line ≠ .halted ∧
      s.chamber.phase = .faulted ∧ (∀ g, s.chamber.readings = some g → g.running = false) ∧
      s.chamber.unit = some 7 ∧ s.findUnit 7 = some r ∧ ∃ w ∈ r.windows, w.share = none) ∧
    (∃ (s : State) (r : UnitRecord), s.takesCommand ∧ s.chamber.phase = .faulted ∧
      s.chamber.unit = some 7 ∧ s.findUnit 7 = some r ∧ ∀ w ∈ r.windows, w.share ≠ none) ∧
    ∃ s : State, s.takesCommand ∧ s.chamber.phase = .faulted ∧ s.chamber.unit = none :=
  ⟨⟨(inPhase .done).onUnit 7 fun r => { r with place := some .queued }, _, ⟨rfl, rfl⟩, rfl, rfl⟩,
    ⟨chamberIn .faulted, _, ⟨rfl, rfl⟩, by decide, rfl,
      fun g h => by cases (show some (gasReading 30 0) = some g from h); rfl, rfl, rfl,
      ⟨_, List.mem_cons_self, rfl⟩⟩,
    ⟨(chamberIn .faulted).onUnit 7 fun r => { r with windows := [] }, _, ⟨rfl, rfl⟩, rfl, rfl, rfl, nofun⟩,
    ⟨State.reset.onChamber fun c => { c with phase := .faulted }, ⟨rfl, rfl⟩, rfl, rfl⟩⟩

theorem witness_CondenserAnswerIsTakenInOrder :
    (∃ (s : State) (a : CondenserAnswer), s.resetPin = false ∧ (s.node .condenser).silent = false ∧
      a.reports = []) ∧
    (∃ (s : State) (r : BankReading), r.refrigeration ≠ .failed ∧ (s.bank .a).state = .cooling ∧
      r.temperature ≤ -95) ∧
    (∃ (s : State) (r : BankReading), r.refrigeration ≠ .failed ∧ (s.bank .a).state = .defrost ∧
      (s.bank .a).paused = false ∧ 5 ≤ r.temperature) ∧
    ∃ (s : State) (r : BankReading), r.refrigeration ≠ .failed ∧
      ¬ ((s.bank .a).state = .cooling ∧ r.temperature ≤ -95) ∧
      ¬ ((s.bank .a).state = .defrost ∧ (s.bank .a).paused = false ∧ 5 ≤ r.temperature) :=
  ⟨⟨State.reset, condenserReading 20 20 0 0 [], rfl, rfl, rfl⟩,
    ⟨bankA fun x => { x with state := .cooling }, bankReading (-95), by decide, rfl, by decide⟩,
    ⟨bankA fun x => { x with state := .defrost }, bankReading 5, by decide, rfl, rfl, by decide⟩,
    ⟨bankA fun x => { x with state := .defrost }, bankReading 4, by decide, by decide +kernel,
      by decide +kernel⟩⟩

/-- Bank A drains to slot 1. -/
def draining : State := bankA fun x =>
  { x with state := .drain, drainSlot := some 0, drainValve := .opened, drainDeadline := some 120000
           seenNonzero := true }

/-- An inlet delta with and without a CONDENSING bank, and a drain delta with and without a holder. -/
theorem witness_CondenserAnswerIsTakenInOrder_deltas :
    (∃ s : State, s.condensing = none ∧ s.drainHolder = none ∧ s.condenser.lastDrainBank = none) ∧
    (∃ s : State, s.drainHolder = none ∧ s.condenser.lastDrainBank = some .b) ∧
    (∃ s : State, s.condensing = some .a ∧ (s.bank .a).hardRaised = false ∧
      s.control.settings.bankHardLoad ≤ (s.bank .a).load + 1 ∧
      ¬ s.control.settings.bankHardLoad ≤ (s.bank .a).load + 0) ∧
    (∃ s : State, s.drainHolder = some .a ∧ (s.bank .a).drainSlot = some 0 ∧
      (s.bank .a).state = .drain ∧ (s.bank .a).drainEnded = false ∧ (s.bank .a).paused = false ∧
      (s.bank .a).drainValve = .opened ∧ (s.bank .a).seenNonzero = true) ∧
    ∃ s : State, s.drainHolder = some .a ∧ (s.bank .a).drainSlot = some 0 ∧
      (s.bank .a).seenNonzero = false :=
  ⟨⟨State.reset, rfl, rfl, rfl⟩, ⟨State.reset.setLastDrain .b, rfl, rfl⟩,
    ⟨bankA fun x => { x with state := .condensing, load := 2199 }, rfl, rfl, by decide, by decide⟩,
    ⟨draining, rfl, rfl, rfl, rfl, rfl, rfl, rfl⟩,
    ⟨draining.onBank .a fun x => { x with seenNonzero := false }, rfl, rfl, rfl⟩⟩

theorem witness_BankExpiriesAct :
    (∃ s : State, s.resetPin = false ∧ (s.bank .a).state = .cooling ∧
      (s.bank .a).coolDeadline = some 1800000 ∧ (s.bank .a).temperature = some (-94)) ∧
    (∃ s : State, s.resetPin = false ∧ (s.bank .a).state = .condensing) ∧
    (∃ s : State, s.resetPin = false ∧ (s.bank .a).state = .defrost ∧ (s.bank .a).paused = false ∧
      (s.bank .a).overrunRaised = false ∧ (s.bank .a).defrostDeadline = some 900000 ∧
      (s.bank .a).temperature = some 4) ∧
    ∃ s : State, s.resetPin = false ∧ (s.bank .a).state = .drain ∧ (s.bank .a).drainEnded = false ∧
      (s.bank .a).paused = false ∧ (s.bank .a).drainValve = .opened ∧
      (s.bank .a).drainDeadline = some 120000 :=
  ⟨⟨bankA fun x => { x with state := .cooling, coolDeadline := some 1800000, temperature := some (-94) },
      rfl, rfl, rfl, rfl⟩,
    ⟨bankA fun x => { x with state := .condensing }, rfl, rfl⟩,
    ⟨bankA fun x => { x with state := .defrost, defrostDeadline := some 900000, temperature := some 4 },
      rfl, rfl, rfl, rfl, rfl, rfl⟩,
    ⟨draining, rfl, rfl, rfl, rfl, rfl, rfl⟩⟩

/-- A swap that is due, and one that is not. -/
theorem witness_BanksSwapAndAreServed :
    (∃ s : State, s.condensing = some .a ∧ (s.bank .a).swapPending = true ∧
      (s.bank (otherBank .a)).state = .cold ∧ s.chamber.shredInProgress = false ∧
      s.control.line ≠ .halted) ∧
    (∃ s : State, s.condensing = some .a ∧ (s.bank .a).swapPending = false) ∧
    (∀ started, ∃ s : State, s.takesCommand ∧ (s.bank .a).state = .faulted ∧
      (s.bank .a).drainSlot = none ∧ (s.node .condenser).silent = false ∧
      s.condenser.started = started ∧ s.control.line ≠ .halted) ∧
    (∃ s : State, s.takesCommand ∧ s.condensing = some .a ∧ (s.bank .a).hardRaised = false ∧
      s.control.settings.bankHardLoad ≤ (s.bank .a).load) ∧
    ∃ s : State, s.takesCommand ∧ s.condensing = some .a ∧
      (s.bank .a).load < s.control.settings.bankHardLoad :=
  ⟨⟨(bankA fun x => { x with state := .condensing, swapPending := true }).onBank .b fun x =>
        { x with state := .cold }, rfl, rfl, rfl, rfl, by decide⟩,
    ⟨bankA fun x => { x with state := .condensing }, rfl, rfl⟩,
    fun started => ⟨{ State.reset with condenser :=
        { bankA := { Bank.reset with state := .faulted }, bankB := Bank.reset, started := started
          lastDrainBank := none } }, ⟨rfl, rfl⟩, rfl, rfl, rfl, rfl, nofun⟩,
    ⟨bankA fun x => { x with state := .condensing, load := 2200 }, ⟨rfl, rfl⟩, rfl, rfl, by decide⟩,
    ⟨bankA fun x => { x with state := .condensing, load := 2199 }, ⟨rfl, rfl⟩, rfl, by decide⟩⟩

theorem witness_DrainsBeginAndEndAsTested :
    (∃ s : State, (s.bank (otherBank .b)).drainSlot ≠ none) ∧
    (∃ s : State, (s.bank (otherBank .b)).drainSlot = none ∧ s.chooseVessel .agent = none) ∧
    ∃ s : State, (s.bank (otherBank .b)).drainSlot = none ∧ s.chooseVessel .agent = some 11 :=
  ⟨⟨draining, by decide⟩, ⟨State.reset, rfl, by decide +kernel⟩,
    ⟨State.reset.setSlot 11 { vessel := some agentVessel, platform := none }, rfl, by decide +kernel⟩⟩

/-- A window with foam, with the functions that the statement asks for. -/
theorem witness_SharesDivideTheDrain :
    ∃ (ws : List Cabinet) (foam : Nat → Nat) (total : Nat) (floor : Nat → Nat),
      (∀ i w, ws[i]? = some w → foam i = w.foam.getD 0) ∧
      total = ((List.range ws.length).map foam).sum ∧
      (∀ i, floor i = if total = 0 then 1381 / ws.length else 1381 * foam i / total) ∧ ws ≠ [] ∧
      ((∀ j < 2, foam j < foam 2) ∧ ∀ j < ws.length, foam j ≤ foam 2) ∧
      ¬ ((∀ j < 1, foam j < foam 1) ∧ ∀ j < ws.length, foam j ≤ foam 1) := by
  let ws : List Cabinet := [⟨501, some 4200⟩, ⟨502, some 3900⟩, ⟨503, some 4400⟩]
  let foam : Nat → Nat := fun i => (ws[i]?.bind fun w => w.foam).getD 0
  refine ⟨ws, foam, _, _, fun i w h => ?_, rfl, fun i => rfl, by decide, by decide, by decide⟩
  simp only [foam, h, Option.bind_some]

/-- A merge at 254 and at 255 repeats, an append, a drop, and both evictions. -/
theorem witness_ConditionsAreEnteredAsListed :
    (∃ (s : State) (xs ys : List ConditionEntry) (e : ConditionEntry),
      s.monitor.entries = xs ++ e :: ys ∧ e.kind = .watchHit ∧ e.origin = .line ∧ e.count ≤ 255 ∧
      ∀ x ∈ xs ++ ys, ¬ (x.kind = .watchHit ∧ x.origin = .line)) ∧
    (∃ s : State, (∀ x ∈ s.monitor.entries, ¬ (x.kind = .watchHit ∧ x.origin = .line)) ∧
      s.monitor.entries.length < 32) ∧
    (∃ s : State, (∀ x ∈ s.monitor.entries, ¬ (x.kind = .watchHit ∧ x.origin = .line)) ∧
      32 ≤ s.monitor.entries.length ∧ kindClass .watchHit ≠ .exigent) ∧
    (∃ (s : State) (xs ys : List ConditionEntry) (e : ConditionEntry),
      (∀ x ∈ s.monitor.entries, ¬ (x.kind = .lelHigh ∧ x.origin = .line)) ∧
      32 ≤ s.monitor.entries.length ∧ kindClass .lelHigh = .exigent ∧
      s.monitor.entries = xs ++ e :: ys ∧
      classEnabled s.monitor.masks (kindClass e.kind) = false ∧
      ∀ x ∈ xs, classEnabled s.monitor.masks (kindClass x.kind) = true) ∧
    ∃ (s : State) (xs ys : List ConditionEntry) (e : ConditionEntry),
      (∀ x ∈ s.monitor.entries, ¬ (x.kind = .lelHigh ∧ x.origin = .line)) ∧
      32 ≤ s.monitor.entries.length ∧ s.monitor.entries = xs ++ e :: ys ∧
      (∀ x ∈ s.monitor.entries, classEnabled s.monitor.masks (kindClass x.kind) = true) ∧
      kindClass e.kind ≠ .exigent ∧ ∀ x ∈ xs, kindClass x.kind = .exigent := by
  let full (k : ConditionKind) : State :=
    State.reset.setMonitor { State.reset.monitor with entries := List.replicate 32 (fullEntry k) }
  exact ⟨⟨State.reset.setMonitor { State.reset.monitor with entries := [fullEntry .watchHit] }, [], [],
      fullEntry .watchHit, rfl, rfl, rfl, by decide, by decide⟩,
    ⟨State.reset, by decide, by decide⟩,
    ⟨full .stepDone, by decide +kernel, by decide, by decide⟩,
    ⟨full .stepDone, [], List.replicate 31 (fullEntry .stepDone), fullEntry .stepDone,
      by decide +kernel, by decide, rfl, rfl, by decide, by decide⟩,
    ⟨full .vesselFull, [], List.replicate 31 (fullEntry .vesselFull), fullEntry .vesselFull,
      by decide +kernel, by decide, rfl, by decide +kernel, by decide, by decide⟩⟩

theorem witness_HaltFreezesTheBlocks :
    (∃ s : State, s.control.line = .halted) ∧
    ∃ s : State, s.control.line ≠ .halted ∧ (s.station 0).phase ≠ .empty ∧
      (s.station 1).phase = .empty ∧ (s.node (.train 0)).silent = false ∧
      (s.bank .a).state = .drain ∧ (s.bank .a).drainEnded = false ∧ (s.bank .b).state = .defrost :=
  ⟨⟨State.reset.setLine .halted, rfl⟩,
    ⟨{ inPhase .loaded with condenser := { (inPhase .loaded).condenser with
        bankA := { Bank.reset with state := .drain }
        bankB := { Bank.reset with state := .defrost } } },
      by decide, by decide +kernel, by decide +kernel, by decide +kernel, rfl, rfl, rfl⟩⟩

/-- A reading at 20, at lel-warn and below it, with and without the emergency stop. -/
theorem witness_SafetyAnswerRaisesItsConditions :
    ∃ (s : State) (a b c : SafetyAnswer), s.resetPin = false ∧ 20 ≤ a.lel ∧ a.emergencyStop = true ∧
      b.lel < 20 ∧ s.control.settings.lelWarn ≤ b.lel ∧ b.emergencyStop = false ∧ c.lel < 20 ∧
      c.lel < s.control.settings.lelWarn :=
  ⟨State.reset, safetyReading 20 true, safetyReading 19 false, safetyReading 9 false, rfl, by decide, rfl,
    by decide, by decide, rfl, by decide, by decide⟩

/-- One reportable and one masked entry, and no reportable entry. -/
theorem witness_ReportTakesItsEntries :
    ∀ k ∈ [ConditionKind.vesselFull, .stepDone], ∃ (s : State) (rs : List ConditionEntry),
      s.takesCommand ∧ (s.monitor.entries.map fun e => (e.kind, e.origin)).Nodup ∧
      rs = s.monitor.entries.filter (fun e => classEnabled s.monitor.masks (kindClass e.kind)) ∧
      (rs ≠ [] ↔ k = .vesselFull) := by
  intro k h
  refine ⟨State.reset.setMonitor { State.reset.monitor with
    entries := [fullEntry k, fullEntry .watchHit] }, _, ⟨rfl, rfl⟩, ?_, rfl, ?_⟩ <;>
  · simp only [List.mem_cons, List.not_mem_nil, or_false] at h
    rcases h with rfl | rfl <;> decide +kernel

/-- A setting at the ends of its range, and the settings that make the Condenser test. -/
theorem witness_SetLimitReplacesOneSetting :
    (∃ s : State, s.takesCommand ∧ s.control.line = .stopped ∧
      settingLow s.control.settings .evacMax ≤ 300 ∧ 3600 ≤ settingHigh s.control.settings .evacMax ∧
      s.condensing = none) ∧
    (∃ s : State, s.takesCommand ∧ s.control.line = .stopped ∧ s.condensing = some .a ∧
      settingLow s.control.settings .bankHardLoad ≤ 2100 ∧
      2100 ≤ settingHigh s.control.settings .bankHardLoad ∧ (s.bank .a).swapPending = true ∧
      (s.bank .a).hardRaised = false ∧ 2100 ≤ (s.bank .a).load) ∧
    ∃ s : State, s.takesCommand ∧ s.control.line = .stopped ∧
      ∀ bk, s.condensing = some bk → (s.bank bk).swapPending = false ∨
        (s.bank bk).hardRaised = true ∨ (s.bank bk).load < 2100 :=
  ⟨⟨State.reset, ⟨rfl, rfl⟩, rfl, by decide, by decide, rfl⟩,
    ⟨bankA fun x => { x with state := .condensing, load := 2100, swapPending := true }, ⟨rfl, rfl⟩, rfl, rfl,
      by decide, by decide, rfl, rfl, by decide⟩,
    ⟨State.reset, ⟨rfl, rfl⟩, rfl, absent rfl⟩⟩

/-- A line and a clear reset with stations that hold a unit, that hold none and wait for an UNCLAMP, and that
are EMPTY, and with a train out of service. -/
theorem witness_ResetsLeaveTheLineStopped :
    (∀ (kind : ResetKind) (b : Option Line), ∃ s : State,
      s.resetPin = false ∧ s.link.state = .resetting kind ∧ s.link.buffer = b ∧
      (∀ i, (s.station i).unit = none → (s.station i).phase = .empty ∨ (s.station i).phase = .faulted ∨
        ((s.station i).phase = .done ∧ (s.station i).unclamping = true)) ∧
      (∀ k, (s.train k).state = .outOfService → (s.train k).station = none ∧ (s.train k).slot = none) ∧
      (s.station 0).unit = some 7 ∧ (s.station 1).phase = .done ∧ (s.station 2).phase = .empty ∧
      (s.train 0).state = .drawing ∧ (s.train 1).state = .outOfService) ∧
    (∃ l f, readLine l = .framing f) ∧ ∃ l c, readLine l = .command c :=
  let s : State := ((drawing .drawing).setTrainState 1 .outOfService).onStation 1 fun x =>
    { x with phase := .done, unclamping := true }
  have rest : (∀ i, (s.station i).unit = none → (s.station i).phase = .empty ∨
        (s.station i).phase = .faulted ∨
        ((s.station i).phase = .done ∧ (s.station i).unclamping = true)) ∧
      (∀ k, (s.train k).state = .outOfService → (s.train k).station = none ∧ (s.train k).slot = none) ∧
      (s.station 0).unit = some 7 ∧ (s.station 1).phase = .done ∧ (s.station 2).phase = .empty ∧
      (s.train 0).state = .drawing ∧ (s.train 1).state = .outOfService := by decide +kernel
  ⟨fun kind b => ⟨{ s with link := { s.link with state := .resetting kind, buffer := b } },
      rfl, rfl, rfl, rest⟩,
    ⟨emptyLine, .badCheck, by decide +kernel⟩, ⟨checkedLine "STOP ", .stop, by decide +kernel⟩⟩

/-- A unit that stands at one station only, in its register before and after the reset. -/
theorem witness_ResetsLeaveTheLineStopped_unit :
    ∃ s t : State, s.resetPin = false ∧ s.link.state = .resetting .line ∧
      (s.station 0).unit = some 7 ∧ (∀ j, (s.station j).unit = some 7 → j = 0) ∧
      (s.station 0).phase = .evacuate ∧ (s.station 0).nextPhase = none ∧
      (s.findUnit 7).isSome = true ∧ exec .lineReset s = .next t ∧ (t.findUnit 7).isSome = true :=
  ⟨(drawing .drawing).setLink (.resetting .line), _, by decide +kernel, by decide +kernel,
    by decide +kernel, by decide +kernel, by decide +kernel, by decide +kernel, by decide +kernel, rfl,
    by decide +kernel⟩

theorem witness_WatchHitStopsTheLine :
    (∃ s : State, ({ tag := 7, phase := .done } : WatchEntry) ∉ s.control.watch) ∧
    (∀ l, ∃ s : State, ({ tag := 7, phase := .done } : WatchEntry) ∈ s.control.watch ∧
      s.control.hitTop = none ∧ s.control.line = l) ∧
    ∃ s : State, (s.station 0).phase = .evacuate ∧ (s.station 0).evacValve = .opened ∧
      (s.train 0).state = .drawing ∧ (s.station 1).phase ≠ .evacuate ∧ (s.train 1).state ≠ .drawing :=
  ⟨⟨State.reset, by decide⟩, fun l => ⟨busy.setLine l, List.mem_cons_self, rfl, rfl⟩,
    ⟨drawing .drawing, rfl, rfl, rfl, by decide +kernel, by decide +kernel⟩⟩

/-- The second and the third miss of a node, what the owner of each kind has, and a silent node of each kind. -/
theorem witness_PollsAndMissedAnswersAreTaken :
    (∃ s : State, s.resetPin = false ∧ (s.node .safety).misses + 1 < 3) ∧
    (∀ n : Node, ∃ s : State, s.resetPin = false ∧ (s.node n).silent = false ∧
      3 ≤ (s.node n).misses + 1 ∧ ∀ o ∈ s.loop.orders, o.node ≠ n) ∧
    (∃ s : State, s.resetPin = false ∧ (s.node (.station 0)).silent = false ∧
      3 ≤ (s.node (.station 0)).misses + 1 ∧ (s.station 0).phase = .evacuate ∧
      (s.station 0).nextPhase = none ∧ s.control.line ≠ .halted) ∧
    ∀ n : Node, ∃ s : State, s.resetPin = false ∧ (s.node n).silent = true := by
  let missed (s : State) : State :=
    { s with loop := { s.loop with
      nodes := Vector.replicate 17 { misses := 2, silent := false, previousTaken := false } } }
  refine ⟨⟨State.reset, rfl, by decide +kernel⟩, fun n => ⟨missed State.reset, by decide +kernel, ?_, ?_,
      fun o h => absurd h List.not_mem_nil⟩,
    ⟨missed (drawing .drawing), by decide +kernel, by decide +kernel, by decide +kernel, by decide +kernel,
      by decide +kernel, by decide +kernel⟩,
    fun n => ⟨{ State.reset with loop := { State.reset.loop with
      nodes := Vector.replicate 17 { misses := 3, silent := true, previousTaken := false } } }, rfl, by
      simp only [State.node, Vector.get_replicate]⟩⟩
  · simp only [missed, State.node, Vector.get_replicate]
  · simp only [missed, State.node, Vector.get_replicate]; decide

def pierceOrder : Order :=
  { number := 255, node := .station 0, kind := .pierce, issuer := .stationController, deadline := 10000
    acknowledged := false }

def piercing : State :=
  (unitAt 7 fun x => { x with phase := .pierce, workOrder := some 255 }).setOrders [pierceOrder]

theorem witness_OrdersAreNumberedAndEnd :
    (∃ s : State, s.loop.nextNumber = 255 ∧ s.loop.orders.length < 255 ∧
      ∀ o ∈ s.loop.orders, o.number ≠ s.loop.nextNumber) ∧
    (∃ s : State, s.resetPin = false ∧ ∀ o ∈ s.loop.orders, o.number ≠ 255) ∧
    (∃ s : State, s.resetPin = false ∧ s.loop.orders = [] ++ pierceOrder :: [] ∧
      (∀ p ∈ ([] ++ [] : List Order), p.number ≠ 255) ∧ (s.station 0).phase = .pierce ∧
      (s.station 0).nextPhase = none ∧ (s.station 0).workOrder = some 255) ∧
    ∃ (s : State) (o : Order), s.resetPin = false ∧ s.loop.orders = [] ++ o :: [] ∧ o.number = 255 ∧
      o.node = .train 3 :=
  ⟨⟨{ State.reset with loop := { State.reset.loop with nextNumber := 255 } }, by decide +kernel,
      by decide +kernel, by decide +kernel⟩,
    ⟨State.reset, by decide +kernel, by decide +kernel⟩,
    ⟨piercing, by decide +kernel, by decide +kernel, by decide +kernel, by decide +kernel,
      by decide +kernel, by decide +kernel⟩,
    ⟨State.reset.setOrders [{ pierceOrder with node := .train 3, kind := .outletClose }],
      { pierceOrder with node := .train 3, kind := .outletClose }, by decide +kernel, by decide +kernel,
      by decide +kernel, by decide +kernel⟩⟩

/-- Station 1 awaits an order, which an answer reports DONE. -/
def awaiting (k : OrderKind) (p : StationPhase) : State :=
  (unitAt 7 fun x => { x with phase := p, workOrder := some 255 }).setOrders
    [{ pierceOrder with kind := k }]

theorem witness_StationAnswerEndsPhases_completed :
    ∀ k ∈ [(OrderKind.clamp, StationPhase.clamping), (.pierce, .pierce), (.unclamp, .done)],
      ∃ (s : State) (a : StationAnswer) (o : Order), o.kind = k.1 ∧ (s.station 0).phase = k.2 ∧
        s.resetPin = false ∧ (s.node (.station 0)).silent = false ∧ s.control.line ≠ .halted ∧
        a.reports = [{ number := o.number, status := .done }] ∧
        s.findOrder (.station 0) o.number = some o ∧ o.issuer = .stationController ∧
        (s.station 0).unsecured = [] ∧ (s.station 0).workOrder = some o.number ∧
        (s.station 0).nextPhase = none ∧ (s.station 0).pierceDone = false ∧
        (∀ c, s.classifier.cycle = some c → c.station = 0 → c.blocked = false) := by
  intro k h
  refine ⟨awaiting k.1 k.2, stationReading 0 0 [{ number := 255, status := .done }],
    { pierceOrder with kind := k.1 }, rfl, ?_⟩
  simp only [List.mem_cons, List.not_mem_nil, or_false] at h
  rcases h with rfl | rfl | rfl <;>
    exact ⟨by decide +kernel, by decide +kernel, by decide +kernel, by decide, rfl, by decide +kernel, rfl,
      by decide +kernel, by decide +kernel, by decide +kernel, by decide +kernel, absent rfl⟩

/-- A train that does not feed slot 6, and one that feeds slot 1, with another vessel, without one, and
with 4 entries. -/
theorem witness_VesselsEnterCloseAndChangeOver_feeders :
    ∃ s : State, s.control.line ≠ .halted ∧ (s.train 0).slot ≠ some 5 ∧ (s.train 0).slot = some 0 ∧
      (s.train 0).state = .drawing ∧ (s.train 0).station = some 0 ∧ (s.train 0).tag = some 7 ∧
      (s.train 0).carried = some .hfc ∧
      (∃ (r : UnitRecord) (v : Vessel), s.findUnit 7 = some r ∧ r.allocations.length < 4 ∧
        s.chooseVessel .hfc = some 0 ∧ (s.slot 0).vessel = some v) ∧
      (∃ r : UnitRecord, (s.onVessel 0 fun v => { v with state := .full }).findUnit 7 = some r ∧
        r.allocations.length < 4 ∧
        (s.onVessel 0 fun v => { v with state := .full }).chooseVessel .hfc = none) ∧
      ∃ r : UnitRecord, (s.onUnit 7 fun r => { r with
        allocations := r.allocations ++ r.allocations }).findUnit 7 = some r ∧
        4 ≤ r.allocations.length :=
  ⟨drawing .drawing, by decide, by decide +kernel, by decide +kernel, by decide +kernel, by decide +kernel,
    by decide +kernel, by decide +kernel, ⟨_, hfcVessel .filling, rfl, by decide, by decide +kernel,
      by decide +kernel⟩, ⟨_, rfl, by decide, by decide +kernel⟩, ⟨_, rfl, by decide⟩⟩

/-- A drain that has met its end, with a cabinet still in the chamber in its window. -/
def closingDrain (fault started : Bool) : State :=
  { chamberIn .suspended with
    condenser :=
      { bankA := { Bank.reset with
          state := .drain, drainEnded := true, drainValve := .closing, drainSlot := some 0, drained := 40
          window := [{ tag := 7, foam := some 9 }], faultAfterDrain := fault }
        bankB := Bank.reset, started := started, lastDrainBank := none } }

theorem witness_DrainsBeginAndEndAsTested_close :
    (∃ s : State, (s.bank .a).state ≠ .drainWait ∧ (s.bank .a).state = .drain ∧
      (s.bank .a).drainEnded = false) ∧
    ∀ fault started, ∃ (s : State) (w : Cabinet) (g : Grams) (r : UnitRecord) (ws : List WindowEntry)
      (e : WindowEntry), (s.bank .a).state = .drain ∧ (s.bank .a).drainEnded = true ∧
      (s.bank .a).faultAfterDrain = fault ∧ s.condenser.started = started ∧
      s.control.line ≠ .halted ∧
      (w, g) ∈ (s.bank .a).window.zip (shares (s.bank .a).drained (s.bank .a).window) ∧
      ((s.bank .a).window.map (·.tag)).Nodup ∧ s.findUnit w.tag = some r ∧ r.place = some .chamber ∧
      r.windows = ws ++ [e] ∧ (∀ x ∈ ws, x.share ≠ none) ∧ e.bank = .a ∧ e.share = none :=
  ⟨⟨draining, by decide, rfl, rfl⟩, fun fault started => ⟨closingDrain fault started,
    { tag := 7, foam := some 9 }, 40, _, [], _, rfl, rfl, rfl, rfl, nofun,
    by cases fault <;> cases started <;> decide +kernel,
    List.nodup_singleton 7, rfl, rfl, rfl, nofun, rfl, rfl⟩⟩

theorem witness_OrdersAreNumberedAndEnd_reports :
    (∃ s : State, s.findOrder .bay 255 = none) ∧
    ∀ st : ReportStatus, ∃ (s : State) (r : OrderReport), s.loop.orders = [] ++ pierceOrder :: [] ∧
      pierceOrder.node = .station 0 ∧ pierceOrder.number = r.number ∧ r.status = st ∧
      ∀ p ∈ ([] ++ [] : List Order), ¬ (p.node = .station 0 ∧ p.number = r.number) :=
  ⟨⟨State.reset, by decide +kernel⟩, fun st => ⟨piercing, { number := 255, status := st },
    by decide +kernel, rfl, rfl, rfl, fun p h => absurd h List.not_mem_nil⟩⟩

/-! Witnesses for the clauses about the sample cycle, the oil drain, securing, train faults, waiting,
the chamber and the banks: states that meet each clause's conditions together. -/

theorem witness_CheckValueIsAsWorked_sent :
    ∃ s t : State, (∀ l ∈ s.link.sent, ∃ body, l = sealLine body) ∧ step s = .next t ∧ t.link.sent ≠ [] :=
  ⟨{ State.reset with pending := [.status] }, _, fun l h => absurd h List.not_mem_nil, rfl, by
    decide +kernel⟩

/-- No characters, some, and a command row in LOADING. -/
theorem witness_RowsAndWaitingLinesAreTaken_completed :
    (∃ s : State, s.resetPin = false ∧ s.link.assembly.overLength = false ∧
      s.link.assembly.chars ++ (received "").filter (· != .byte 0x0D#8) = [] ∧
      s.link.assembly.chars ++ (received "A").filter (· != .byte 0x0D#8) ≠ []) ∧
    ∃ s : State, s.link.state ≠ .ready :=
  ⟨⟨State.reset, by decide +kernel⟩, ⟨loading 1 false, by decide +kernel⟩⟩

/-- A row that passes every test, one of each kind, and one that names a band twice. -/
theorem witness_RowsAndWaitingLinesAreTaken_rows :
    (∃ (l : Line) (body : Text) (fs : List LineField), l.overLength = false ∧
      lineBody l = some body ∧ firstWord body = ascii "SIG" ∧ lineFields body = some fs ∧
      numberIn fs "index" = some 15 ∧ valueOf fs "valid" = some (ascii "no") ∧
      namesFit fs ["index", "valid"] [] = true) ∧
    (∃ (l : Line) (body : Text) (fs : List LineField) (ps : List (Band × BandWindow)),
      l.overLength = false ∧ lineBody l = some body ∧ firstWord body = ascii "SIG" ∧
      lineFields body = some fs ∧ numberIn fs "index" = some 0 ∧ valueOf fs "valid" = none ∧
      namesFit fs ["index", "class", "invert"] ["valid", "bands", "windows"] = true ∧
      valueOf fs "class" = some (ascii (gasWord .hfc)) ∧ valueOf fs "invert" = some (yesNo false) ∧
      (itemsIn fs "bands").map numberOf = ps.map (fun p => some (p.1.val + 1)) ∧
      (itemsIn fs "windows").map windowOf = ps.map (fun p => some p.2) ∧
      (ps.map fun p => p.1).Nodup) ∧
    ∃ (fs : List LineField) (ps : List (Band × BandWindow)),
      (itemsIn fs "bands").map numberOf = ps.map (fun p => some (p.1.val + 1)) ∧
      (itemsIn fs "windows").map windowOf = ps.map (fun p => some p.2) ∧
      ¬ (ps.map fun p => p.1).Nodup :=
  ⟨⟨checkedLine "SIG index=15 valid=no ", ascii "SIG index=15 valid=no ",
      [⟨ascii "index", ascii "15"⟩, ⟨ascii "valid", ascii "no"⟩], by decide +kernel⟩,
    ⟨checkedLine "SIG index=0 class=HFC bands=6 windows=0:4095 invert=no ",
      ascii "SIG index=0 class=HFC bands=6 windows=0:4095 invert=no ",
      [⟨ascii "index", ascii "0"⟩, ⟨ascii "class", ascii "HFC"⟩, ⟨ascii "bands", ascii "6"⟩,
        ⟨ascii "windows", ascii "0:4095"⟩, ⟨ascii "invert", ascii "no"⟩],
      [(5, { low := 0, high := 4095 })], by decide +kernel⟩,
    ⟨[⟨ascii "bands", ascii "1,1"⟩, ⟨ascii "windows", ascii "0:4,0:4"⟩],
      [(0, { low := 0, high := 4 }), (0, { low := 0, high := 4 })], by decide +kernel⟩⟩

/-- The entry to RUN before and after the first cooling. -/
theorem witness_StartAndStopMoveTheLine_entry :
    (∃ s : State, s.condenser.started = true) ∧
    ∃ s : State, s.condenser.started = false ∧ (s.bank .a).state = .warm ∧ (s.bank .b).state ≠ .warm :=
  ⟨⟨{ State.reset with condenser := { State.reset.condenser with started := true } }, rfl⟩,
    ⟨State.reset.onBank .b fun x => { x with state := .faulted }, by decide +kernel⟩⟩

/-- A sample valve order of the Classifier at station 1, in a cycle. -/
def valveOrder (toOpen : Bool) : Order :=
  { pierceOrder with kind := .sampleValve toOpen, issuer := .classifier }

def inCycle (f : SampleCycle → SampleCycle) : State :=
  ((inPhase .sampling).setCycle (some (f (SampleCycle.begin 0 7 255)))).setOrders [valveOrder true]

/-- A sample cycle's answer from its station, and the record that stands in every clause. -/
def cycleAnswer (s : State) (a : StationAnswer) (c : SampleCycle) : Prop :=
  s.resetPin = false ∧ (s.node (.station 0)).silent = false ∧ (s.station 0).unsecured = [] ∧
    (s.station 0).phase = .sampling ∧ (s.station 0).nextPhase = none ∧
    s.classifier.cycle = some c ∧ c.station = 0 ∧
    (a.reports = [{ number := 255, status := .done }] →
      s.findOrder (.station 0) 255 = some (valveOrder true))

/-- The open DONE with the cycle abandoned and not, the close DONE with a sample outstanding and not, the
blocked close shown, and the two failures. -/
theorem witness_AnalyserSamplesTheQueueHead_valves :
    let done := stationReading 0 0 [{ number := 255, status := .done }]
    (∀ abandoned, ∃ s c, cycleAnswer s done c ∧ c.blocked = false ∧ c.openOrder = some 255 ∧
      c.abandoned = abandoned) ∧
    (∀ outstanding, ∃ s c, cycleAnswer s done c ∧ c.blocked = false ∧ c.openOrder ≠ some 255 ∧
      c.closeOrder = some 255 ∧ c.stage = .closing ∧ c.outstanding = outstanding) ∧
    ∀ outstanding, ∃ s c, cycleAnswer s { stationReading 0 0 [] with sampleOpen := false } c ∧
      c.blocked = true ∧ c.stage = .closing ∧ c.outstanding = outstanding := by
  refine ⟨fun b => ⟨inCycle fun c => { c with abandoned := b },
      { SampleCycle.begin 0 7 255 with abandoned := b }, ?_, rfl, rfl, rfl⟩,
    fun b => ⟨inCycle fun c =>
        { c with openOrder := none, closeOrder := some 255, stage := .closing, outstanding := b },
      { SampleCycle.begin 0 7 255 with
        openOrder := none, closeOrder := some 255, stage := .closing, outstanding := b },
      ?_, rfl, by cases b <;> decide, rfl, rfl, rfl⟩,
    fun b => ⟨inCycle fun c => { c with blocked := true, stage := .closing, outstanding := b },
      { SampleCycle.begin 0 7 255 with blocked := true, stage := .closing, outstanding := b },
      ?_, rfl, rfl, rfl⟩⟩ <;>
    exact ⟨rfl, by cases b <;> decide +kernel, rfl, rfl, rfl, rfl, rfl, fun _ => rfl⟩

/-- A sample that ends without a result, and one lost after its cycle was abandoned. -/
theorem witness_AnalyserSamplesTheQueueHead_lost :
    (∃ (s : State) (a : AnalyserAnswer) (o : Order), s.resetPin = false ∧
      (s.node .analyser).silent = false ∧ s.classifier.cycle = some sampleCycle ∧
      sampleCycle.sampleOrder = some o.number ∧ s.findOrder .analyser o.number = some o ∧
      a.reports = [{ number := o.number, status := .done }] ∧ a.fault = true ∧
      o.node = .analyser ∧ sampleCycle.abandoned = false ∧ (s.findUnit sampleCycle.tag).isSome = true ∧
      (s.station sampleCycle.station).phase = .sampling ∧
      (s.station sampleCycle.station).nextPhase = none) ∧
    ∀ done, ∃ (s : State) (c : SampleCycle), s.classifier.cycle = some c ∧ c.abandoned = true ∧
      c.stage = .closing ∧ c.closeDone = done :=
  ⟨⟨sampling, { analyserReading 0 [{ number := 5, status := .done }] with fault := true },
      { number := 5, node := .analyser, kind := .startSample, issuer := .classifier
        deadline := 30000, acknowledged := true }, by decide +kernel⟩,
    fun done => ⟨sampling.setCycle (some
      { sampleCycle with abandoned := true, stage := .closing, closeDone := done }), _, rfl, rfl, rfl,
      rfl⟩⟩

/-- No permission; a boundary, LOADED, a phase that begins none, and a suspended EVACUATE whose train is
PAUSED, with permission; a station in the queue and out of it; and requests on both sides of a time. -/
theorem witness_PhaseEndBeginsTheNextOrWaits_tests :
    (∃ s : State, ¬ (s.control.line = .run ∨ (s.control.line = .step ∧ 0 ∈ s.control.credits))) ∧
    (∀ p ∈ [StationPhase.loaded, .clamping], ∃ s : State, s.control.line = .run ∧
      (s.node (.station 0)).silent = false ∧ (s.station 0).nextPhase = none ∧ (s.station 0).phase = p) ∧
    (∃ s : State, (s.station 0).nextPhase = some .oilDrain) ∧
    (∀ st ∈ [TrainState.paused, .purging], ∃ s : State, s.control.line = .run ∧
      (s.node (.station 0)).silent = false ∧ (s.station 0).nextPhase = none ∧
      (s.station 0).phase = .evacuate ∧ (s.station 0).suspended = true ∧
      (s.station 0).train = some 0 ∧ (s.train 0).station = some 0 ∧ (s.train 0).state = st) ∧
    (∃ s : State, 3 ∈ s.classifier.queue ∧ 0 ∉ s.classifier.queue) ∧
    ∀ held : Bool, ∃ (s : State) (r : UnitRecord),
      s.arbiter.requests.filter (fun q => decide (q.station ≠ 0)) =
        [⟨1, 5, none⟩] ++ [⟨2, 6, none⟩] ∧ ((∃ q ∈ s.arbiter.requests, q.station = 0) ↔ held = true) ∧
      (s.station 0).unit = some 7 ∧ s.findUnit 7 = some r := by
  refine ⟨⟨State.reset, by decide⟩, ?_, ⟨unitAt 7 fun x => { x with nextPhase := some .oilDrain }, rfl⟩,
    ?_, ⟨busy, by decide⟩,
    fun held => ⟨(inPhase .loaded).setRequests
      ((if held then [⟨0, 5, none⟩] else []) ++ [⟨1, 5, none⟩, ⟨2, 6, none⟩]), _, by
        cases held <;> decide, by cases held <;> decide, rfl, rfl⟩⟩
  · intro p h
    simp only [List.mem_cons, List.not_mem_nil, or_false] at h
    rcases h with rfl | rfl
    · exact ⟨(inPhase .loaded).setLine .run, by decide +kernel⟩
    · exact ⟨(inPhase .clamping).setLine .run, by decide +kernel⟩
  · intro st h
    refine ⟨(drawing st).onStation 0 fun x => { x with suspended := true }, ?_⟩
    simp only [List.mem_cons, List.not_mem_nil, or_false] at h
    rcases h with rfl | rfl <;> decide +kernel

/-- The drain valve opened, and closed; no reading 30 s old; and one on each side of oil-settle. -/
def oilDrain (kind : OrderKind) (f : Station → Station) : State :=
  (unitAt 7 fun x => f { x with phase := .oilDrain, drainOrder := some 255 }).setOrders
    [{ pierceOrder with kind := kind }]

theorem witness_StationAnswerEndsPhases_oil :
    (∀ b : Bool, ∃ (s : State) (o : Order),
      plainAnswer s (stationReading 0 0 []) ∧ (s.station 0).phase = .oilDrain ∧
      (s.station 0).nextPhase = none ∧ s.findOrder (.station 0) o.number = some o ∧
      o.issuer = .stationController ∧ (s.station 0).drainOrder = some o.number ∧
      (s.station 0).oilReference = none ∧ o.kind = .drainValve b) ∧
    (∃ s : State, plainAnswer s (stationReading 0 0 []) ∧ (s.station 0).phase = .oilDrain ∧
      (s.station 0).oilReference = some 3 ∧
      ∀ x ∈ (s.station 0).oilReadings, s.now < x.moment + 30000) ∧
    ∃ s : State, plainAnswer s (stationReading 0 0 []) ∧ (s.station 0).phase = .oilDrain ∧
      (s.station 0).oilReference = some 3 ∧ (s.station 0).unit = some 7 ∧
      (s.station 0).oilReadings = [⟨0, 3⟩] ++ ⟨1, 4⟩ :: [⟨2, 9⟩] ∧ 1 + 30000 ≤ s.now ∧
      s.now < 2 + 30000 ∧ 4 + s.control.settings.oilSettle < 10 ∧
      9 ≤ 4 + s.control.settings.oilSettle :=
  ⟨fun b => ⟨oilDrain (.drainValve b) id, { pierceOrder with kind := .drainValve b },
      ⟨rfl, by cases b <;> decide +kernel, nofun, rfl, rfl, absent rfl⟩, rfl, rfl, rfl, rfl, rfl, rfl, rfl⟩,
    ⟨oilDrain (.drainValve true) fun x => { x with oilReference := some 3, oilReadings := [⟨0, 3⟩] },
      ⟨rfl, by decide +kernel, nofun, rfl, rfl, absent rfl⟩, by decide +kernel⟩,
    ⟨{ oilDrain (.drainValve true) fun x =>
        { x with oilReference := some 3, oilReadings := [⟨0, 3⟩, ⟨1, 4⟩, ⟨2, 9⟩] } with now := 30001 },
      ⟨rfl, by decide +kernel, nofun, rfl, rfl, absent rfl⟩, by decide +kernel⟩⟩

/-- A FAULTED station with its closes outstanding: none reported, and each of the three kinds DONE. -/
def securing (k : OrderKind) : State :=
  (unitAt 7 fun x =>
    { x with
      phase := .faulted, evacValve := .closing, evacOrder := some 255
      unsecured := [{ valve := .evac, order := some 255 }, { valve := .drain, order := some 3 }] }).setOrders
    [{ pierceOrder with kind := k }]

theorem witness_StationFaultActionIsTaken_secured :
    ∀ k ∈ [OrderKind.sampleValve false, .drainValve false, .evacValve false], ∃ (s : State) (o : Order),
      s.resetPin = false ∧ (s.node (.station 0)).silent = false ∧ (s.station 0).phase = .faulted ∧
      s.classifier.cycle = none ∧ s.findOrder (.station 0) o.number = some o ∧
      o.issuer = .stationController ∧ o.kind = k ∧ o.node = .station 0 ∧
      (s.station 0).drainOrder ≠ some o.number ∧ (s.station 0).evacOrder = some o.number ∧
      (s.station 0).evacValve = .closing := by
  intro k h
  refine ⟨securing k, { pierceOrder with kind := k }, ?_⟩
  simp only [List.mem_cons, List.not_mem_nil, or_false] at h
  rcases h with rfl | rfl | rfl <;> decide +kernel

/-- A tail that a delta of 0 ends, with its compressor running and FAILED; a fault in each state, with the
station in EVACUATE and out of it; an order of the kind outstanding, and the halt's; a vessel that a delta
fills, and one that it does not. -/
theorem witness_TrainAnswerBooksOrFaults_states :
    (∃ (s : State) (a b : TrainAnswer), s.resetPin = false ∧ (s.node (.train 0)).silent = false ∧
      a.reports = [] ∧ b.reports = [] ∧ (s.train 0).state = .tailing ∧ (s.train 0).station = some 0 ∧
      (s.train 0).tag = some 7 ∧ a.delta = 0 ∧ b.delta = 0 ∧ a.discharge ≤ 2000 ∧ b.discharge ≤ 2000 ∧
      a.compressor ≠ .failed ∧ b.compressor = .failed) ∧
    (∀ st, ∃ s : State, (s.train 0).station = some 0 ∧ (s.train 0).tag = some 7 ∧
      (s.train 0).state = st ∧ (s.station 0).phase = .evacuate ∧
      ((s.onStation 0 fun x => { x with phase := .faulted }).station 0).phase ≠ .evacuate) ∧
    (∃ (once : State → OrderKind → State) (x : State), once = (fun x k => x.orderTrainOnce 0 k) ∧
      (∃ o ∈ x.loop.orders, o.node = .train 0 ∧ o.kind = .outletClose ∧ o.cause = .halt) ∧
      ∀ o ∈ x.loop.orders, ¬ (o.node = .train 0 ∧ o.kind = .compressorStop)) ∧
    ∃ (s : State) (v : Vessel), (s.slot 0).vessel = some v ∧ v.cls ≠ .agent ∧ v.state ≠ .full ∧
      (v.book 70).state = .full ∧ (v.book 69).state ≠ .full :=
  ⟨⟨drawing .tailing, trainReading 0 2000 0 [],
      { trainReading 0 2000 0 [] with compressor := .failed }, by decide +kernel⟩,
    fun st => ⟨drawing st, rfl, rfl, rfl, rfl, nofun⟩,
    ⟨_, State.reset.haltOrderTrain 0 .outletClose, rfl, by decide +kernel, by decide +kernel⟩,
    ⟨drawing .drawing, hfcVessel .filling, by decide +kernel⟩⟩

/-- Trains that wait for a vessel, in STOPPED and in RUN; waiting banks in both orders; and a drain whose
AGENT vessel is full, with another and without one. -/
def waitingTrain (l : LineState) : State := (drawing .waitVessel).setLine l

def bothWaiting (x y : Moment) : State :=
  ((State.reset.onBank .a fun b => { b with state := .drainWait, waitSince := some x }).onBank .b fun b =>
    { b with state := .drainWait, waitSince := some y })

theorem witness_VesselsEnterCloseAndChangeOver_waiting :
    (∀ l, ∃ (s : State) (v : Vessel), s.control.line = l ∧ (s.train 0).state = .waitVessel ∧
      (s.train 0).carried = some .hfc ∧ (s.train 0).station = some 0 ∧ (s.train 0).tag = some 7 ∧
      s.chooseVessel .hfc = some 0 ∧ (s.slot 0).vessel = some v ∧ (s.station 0).suspended = false) ∧
    (∀ x y, ∃ s : State, s.control.line ≠ .halted ∧ (s.bank .a).waitSince = some x ∧
      (s.bank .b).waitSince = some y ∧ (s.bank .a).state = .drainWait ∧
      (s.bank .a).drainValve ≠ .closing) ∧
    (∃ s : State, s.control.line ≠ .halted ∧ (s.bank .a).state ≠ .drainWait ∧
      (s.bank .b).state ≠ .drainWait) ∧
    (∀ v : ValveView, ∃ s : State, (s.station 0).evacValve = v) ∧
    ∃ s : State, s.drainHolder = some .a ∧ (s.bank .a).drainSlot = some 0 ∧
      (s.bank .a).drainEnded = false ∧ s.control.line ≠ .halted ∧ s.chooseVessel .agent = none ∧
      (s.setSlot 3 { vessel := some agentVessel, platform := none }).chooseVessel .agent = some 3 :=
  ⟨fun l => ⟨waitingTrain l, hfcVessel .filling, rfl, rfl, rfl, rfl, rfl, by cases l <;> decide +kernel,
      by cases l <;> decide +kernel, rfl⟩,
    fun x y => ⟨bothWaiting x y, nofun, rfl, rfl, rfl, nofun⟩,
    ⟨State.reset, by decide +kernel⟩, fun v => ⟨unitAt 7 fun x => { x with evacValve := v }, rfl⟩,
    ⟨draining, by decide +kernel⟩⟩

/-- O2 above 80 and at 80 where a shred is in progress, in each phase of one and HALTED, with EMPTY and
without. -/
theorem witness_ChamberAnswerActsOnItsReadings_high :
    ∀ p ∈ [ChamberPhase.clear, .suspended, .purge, .shred], ∀ e : Bool, ∃ (s : State)
      (a b : ChamberAnswer) (r : UnitRecord), quietChamber s a ∧ quietChamber s b ∧
      a.readings.lel < s.control.settings.lelWarn ∧ b.readings.lel < s.control.settings.lelWarn ∧
      s.chamber.nextPhase = none ∧ s.chamber.unit = some 7 ∧ s.findUnit 7 = some r ∧
      r.inertRequired = true ∧ 80 < a.readings.o2 ∧ b.readings.o2 = 80 ∧ a.readings.emptied = e ∧
      s.chamber.phase = p ∧ (s.chamber.repurge = true ↔ p = .purge) ∧ s.chamber.returnPhase ≠ none ∧
      s.control.line = .halted := by
  intro p h e
  refine ⟨((chamberIn p).onChamber fun c =>
      { c with repurge := decide (p = .purge), returnPhase := some .shred }).setLine .halted,
    { chamberReading 81 0 with readings := { gasReading 81 0 with emptied := e } }, chamberReading 80 0, _,
    ⟨rfl, by cases p <;> decide +kernel, rfl⟩, ⟨rfl, by cases p <;> decide +kernel, rfl⟩,
    (by decide : 0 < 10), (by decide : 0 < 10), rfl, rfl, rfl, by decide, (by decide : 80 < 81), rfl, rfl,
    rfl, ?_, nofun, rfl⟩
  cases p <;> decide

/-- Every kind of order of the chamber, in SUSPENDED and in SHRED, from the pause and not, in RUN and HALTED;
a fault that writes the foam so far. -/
theorem witness_ChamberExpiriesAct_orders :
    (∀ (k : OrderKind) (c : OrderCause) (p : ChamberPhase) (l : LineState), ∃ (s : State) (o : Order),
      o.node = .chamber ∧ o.kind = k ∧ o.cause = c ∧ s.chamber.phase = p ∧ s.control.line = l) ∧
    ∃ (s : State) (r : UnitRecord) (w : WindowEntry) (g : ChamberReadings),
      s.chamber.unit = some 7 ∧ s.findUnit 7 = some r ∧ r.windows = [] ++ [w] ∧ w.foam = none ∧
      s.chamber.readings = some g ∧ s.chamber.foamStart = some 0 :=
  ⟨fun k c p l => ⟨(chamberIn p).setLine l, { pierceOrder with node := .chamber, kind := k, cause := c },
      rfl, rfl, rfl, rfl, rfl⟩,
    ⟨chamberIn .shred, _, _, _, rfl, rfl, rfl, rfl, rfl, rfl⟩⟩

/-- A bank in each state, in RUN and HALTED; refrigeration FAILED; a drain open and a drain close that
fail. -/
theorem witness_CondenserAnswerIsTakenInOrder_faults :
    (∀ (st : BankState) (l : LineState), ∃ s : State, (s.bank .a).state = st ∧ s.control.line = l) ∧
    (∃ (s : State) (r : BankReading), r.refrigeration = .failed ∧
      ((s.faultBank .a).bank .a).state ≠ (s.bank .a).state ∧
      ((State.reset.faultBank .a).bank .a).state = (State.reset.bank .a).state) ∧
    (∃ (s : State) (o : Order), o.node = .condenser ∧ o.kind = .bankDrainOpen .a 0 ∧
      (s.bank .a).state = .drain ∧ (s.bank .a).drainEnded = false ∧ (s.bank .a).paused = false ∧
      (s.bank .a).drainValve = .opened) ∧
    ∃ (s : State) (o : Order), o.node = .condenser ∧ o.kind = .bankDrainClose .a ∧
      (s.bank .a).drainValve = .closing ∧ (s.bank .a).drainOrder = some o.number :=
  ⟨fun st l => ⟨(bankA fun x => { x with state := st }).setLine l, rfl, rfl⟩,
    ⟨bankA fun x => { x with state := .cooling }, { bankReading 0 with refrigeration := .failed },
      by decide +kernel⟩,
    ⟨draining, { pierceOrder with node := .condenser, kind := .bankDrainOpen .a 0 }, by decide +kernel⟩,
    ⟨bankA fun x => { x with state := .drain, drainValve := .closing, drainOrder := some 255 },
      { pierceOrder with node := .condenser, kind := .bankDrainClose .a }, by decide +kernel⟩⟩

/-- A COLD bank that may condense; a SUSPENDED chamber that may return to each phase; and the loss of the
bank in SHRED, in SUSPENDED, and with two windows, with foam and without. -/
theorem witness_BanksSwapAndAreServed_chamber :
    (∃ s : State, (s.bank .a).state = .cold ∧ s.condensing = none ∧ s.control.line ≠ .halted) ∧
    (∀ back, ∃ s : State, s.chamber.phase = .suspended ∧ s.control.line ≠ .halted ∧
      s.chamber.unit = some 7 ∧ (s.findUnit 7).isSome = true ∧ s.condensing = some .a ∧
      s.chamber.returnPhase = some back) ∧
    (∀ p ∈ [ChamberPhase.shred, .clear], ∃ (s : State) (r : UnitRecord) (w : WindowEntry),
      s.chamber.nextPhase = none ∧ s.chamber.phase = p ∧ s.chamber.unit = some 7 ∧
      s.findUnit 7 = some r ∧ r.windows = [] ++ [w] ∧ w.foam = none ∧
      s.chamber.readings = some (gasReading 30 0) ∧ s.chamber.foamStart = some 0) ∧
    ∃ (s : State) (r : UnitRecord), s.chamber.phase = .shred ∧ s.chamber.unit = some 7 ∧
      s.findUnit 7 = some r ∧ r.windows.length = 2 ∧ ∃ ws w, r.windows = ws ++ [w] ∧ w.foam ≠ none :=
  ⟨⟨bankA fun x => { x with state := .cold }, by decide +kernel⟩,
    fun back => ⟨((chamberIn .suspended).onChamber fun c =>
      { c with returnPhase := some back }).onBank .a fun x => { x with state := .condensing },
      rfl, nofun, rfl, rfl, rfl, rfl⟩,
    fun p _ => ⟨chamberIn p, _, _, rfl, rfl, rfl, rfl, rfl, rfl, rfl, rfl⟩,
    ⟨(chamberIn .shred).onUnit 7 fun r =>
        { r with windows := [⟨.a, some 3, none⟩, ⟨.b, some 4, none⟩] }, _, rfl, rfl, rfl, rfl,
      [⟨.a, some 3, none⟩], ⟨.b, some 4, none⟩, rfl, nofun⟩⟩

/-- A window with foam, an empty one with nothing drained and with 1 g; a record in ATTRIBUTION that its
share closes; and a drain that has met its end with a slot and without one. -/
theorem witness_DrainsBeginAndEndAsTested_shares :
    (∃ s : State, (s.bank .a).window ≠ [] ∧ (s.bank .a).drained ≠ 0) ∧
    (∀ d, ∃ s : State, (s.bank .a).window = [] ∧ (s.bank .a).drained = d) ∧
    (∀ p ∈ [Place.attribution, .chamber], ∃ (s : State) (r : UnitRecord) (e : WindowEntry),
      s.findUnit 7 = some r ∧ (s.register.units.map (·.tag)).Nodup ∧ r.windows = [] ++ e :: [] ∧
      e.bank = .a ∧ e.share = none ∧ r.place = some p) ∧
    ∀ k, ∃ s : State, (s.bank .a).state = .drain ∧ (s.bank .a).drainEnded = true ∧
      (s.bank .a).drainSlot = k :=
  ⟨⟨closingDrain false true, by decide +kernel⟩,
    fun d => ⟨bankA fun x => { x with drained := d }, rfl, rfl⟩,
    fun p _ => ⟨(chamberIn .clear).onUnit 7 fun r => { r with place := some p }, _, _, rfl,
      List.nodup_singleton 7, rfl, rfl, rfl, rfl⟩,
    fun k => ⟨bankA fun x => { x with state := .drain, drainEnded := true, drainSlot := k }, rfl, rfl, rfl⟩⟩

/-- A chamber with a unit, FAULTED and not, and without one; and the banks in each order of a reset. -/
theorem witness_ResetsLeaveTheLineStopped_blocks :
    (∀ p, ∃ s : State, s.chamber.unit ≠ none ∧ s.chamber.phase = p) ∧
    (∀ n, ∃ s : State, s.chamber.unit = none ∧ s.chamber.nitrogenOpen = n) ∧
    (∃ s : State, (s.bank .a).state = .defrost ∧ (s.bank .a).paused = true ∧
      (s.bank .a).defrostRemaining = some 900000) ∧
    (∀ v : ValveView, ∃ s : State, (s.bank .a).state = .drain ∧ (s.bank .a).drainEnded = false ∧
      (s.bank .a).drainValve = v) ∧
    (∃ s : State, (s.bank .a).state ≠ .drainWait) ∧
    ∀ x y, ∃ s : State, (s.bank .a).state = .drainWait ∧ (s.bank .b).state = .drainWait ∧
      (s.bank .a).waitSince = some x ∧ (s.bank .b).waitSince = some y :=
  ⟨fun p => ⟨chamberIn p, nofun, rfl⟩,
    fun n => ⟨State.reset.onChamber fun c => { c with nitrogenOpen := n }, rfl, rfl⟩,
    ⟨bankA fun x => { x with state := .defrost, paused := true, defrostRemaining := some 900000 },
      by decide +kernel⟩,
    fun v => ⟨bankA fun x => { x with state := .drain, drainValve := v }, rfl, rfl, rfl⟩,
    ⟨State.reset, by decide +kernel⟩, fun x y => ⟨bothWaiting x y, rfl, rfl, rfl, rfl⟩⟩

/-! Witnesses for the clauses about a train's answer in every state, the chamber's boundary and its orders,
the evacuation valve's orders, failed orders, drain orders and silence. -/

/-- Both sides of 2000 kPa and both compressor states, in each state that books and in one that does not. -/
theorem witness_TrainAnswerBooksOrFaults_discharge :
    (∀ st ∈ [TrainState.drawing, .paused, .waitVessel, .tailing], ∃ (s : State) (a b : TrainAnswer)
      (r : UnitRecord) (xs : List Allocation) (e : Allocation) (v : Vessel), s.resetPin = false ∧
      (s.node (.train 0)).silent = false ∧ a.reports = [] ∧ b.reports = [] ∧ (s.train 0).state = st ∧
      (s.train 0).station = some 0 ∧ (s.train 0).tag = some 7 ∧ s.findUnit 7 = some r ∧
      r.allocations = xs ++ [e] ∧ (∀ x ∈ xs, x.isOpen = false) ∧ (s.slot e.slot).vessel = some v ∧
      a.delta ≠ 0 ∧ b.delta = 0 ∧ 2000 < a.discharge ∧ b.discharge ≤ 2000 ∧
      a.compressor = .failed ∧ b.compressor ≠ .failed) ∧
    ∃ (s : State) (a : TrainAnswer), s.resetPin = false ∧ (s.node (.train 0)).silent = false ∧
      a.reports = [] ∧ (s.train 0).state = .idle ∧ 2000 < a.discharge ∧ a.compressor = .failed := by
  refine ⟨fun st h => ⟨drawing st, { trainReading 0 2001 5 [] with compressor := .failed },
      trainReading 0 2000 0 [], bookedRecord,
      [{ slot := 0, vessel := 1, grams := 10, isOpen := false }],
      { slot := 0, vessel := 1, grams := 20, isOpen := true }, hfcVessel .filling, rfl, ?_⟩,
    ⟨State.reset, { trainReading 0 2001 0 [] with compressor := .failed }, by decide +kernel⟩⟩
  simp only [List.mem_cons, List.not_mem_nil, or_false] at h
  rcases h with rfl | rfl | rfl | rfl <;>
    exact ⟨by decide +kernel, rfl, rfl, rfl, rfl, rfl, rfl, rfl, by decide, rfl, by decide, by decide,
      by decide, by decide, by decide, by decide⟩

theorem witness_ChamberBeginsPhasesWithPermission_boundary :
    ∀ p, ∃ s : State, s.chamber.nextPhase = some p :=
  fun p => ⟨(chamberIn .airlock).onChamber fun c => { c with nextPhase := some p }, rfl⟩

/-- The chamber in AIRLOCK with its DOOR_CYCLE outstanding, in a line state. -/
def atDoor (l : LineState) (record : UnitRecord) : State :=
  ((({ State.reset.addUnit record with
    chamber := { Chamber.reset with phase := .airlock, unit := some 7, doorOrder := some 255 } } :
      State).setOrders [{ pierceOrder with
        node := .chamber, kind := .doorCycle, issuer := .chamberSequencer }]).setLine l)

/-- The door cycle DONE for a unit shredded in air and for an inert-required one, HALTED and not. -/
theorem witness_ChamberAnswerActsOnItsReadings_door :
    ∀ l inert, ∃ (s : State) (a b : ChamberAnswer) (o : Order) (r : UnitRecord), s.resetPin = false ∧
      (s.node .chamber).silent = false ∧ a.reports = [{ number := o.number, status := .done }] ∧
      b.reports = a.reports ∧ s.findOrder .chamber o.number = some o ∧ o.kind = .doorCycle ∧
      s.chamber.doorOrder = some o.number ∧ s.chamber.phase = .airlock ∧ s.chamber.nextPhase = none ∧
      s.chamber.repurge = false ∧ s.chamber.unit = some 7 ∧ s.findUnit 7 = some r ∧
      r.inertRequired = inert ∧ s.control.line = l ∧ s.control.settings.lelWarn ≤ a.readings.lel ∧
      b.readings.lel < s.control.settings.lelWarn := by
  intro l inert
  refine ⟨atDoor l { UnitRecord.create 7 0 none (some (if inert then .hc else .cfc)) with
      effective := some .cfc },
    { chamberReading 0 10 with reports := [{ number := 255, status := .done }] },
    { chamberReading 0 9 with reports := [{ number := 255, status := .done }] },
    { pierceOrder with node := .chamber, kind := .doorCycle, issuer := .chamberSequencer }, _, rfl,
    ?_, rfl, rfl, rfl, rfl, rfl, rfl, rfl, rfl, rfl, rfl, ?_, rfl, ?_, ?_⟩ <;>
    cases l <;> cases inert <;> decide +kernel

/-- EMPTY with a SHREDDER_STOP outstanding, with a pause below and above 80, and at a re-purge's end. -/
theorem witness_ChamberAnswerActsOnItsReadings_noted :
    let answer o2 := ({ moment := 0, reports := [], readings := { gasReading o2 0 with emptied := true } } :
      ChamberAnswer)
    let plain (s : State) (a : ChamberAnswer) := quietChamber s a ∧
      a.readings.lel < s.control.settings.lelWarn ∧ a.readings.emptied = true ∧
      s.control.line ≠ .halted ∧ s.chamber.nextPhase = none ∧ s.chamber.unit = some 7
    (∃ (s : State) (r : UnitRecord), plain s (answer 50) ∧ s.findUnit 7 = some r ∧
      s.chamber.phase = .shred ∧ s.chamber.repurge = false ∧ 50 ≤ s.control.settings.pauseO2 ∧
      ∃ o ∈ s.loop.orders, o.node = .chamber ∧ o.kind = .shredderStop) ∧
    (∃ (s : State) (r : UnitRecord), plain s (answer 80) ∧ plain s (answer 81) ∧
      s.findUnit 7 = some r ∧ s.chamber.phase = .shred ∧ s.chamber.repurge = false ∧
      r.inertRequired = true ∧ s.control.settings.pauseO2 < 80) ∧
    ∃ (s : State) (r : UnitRecord), plain s (answer 40) ∧ s.findUnit 7 = some r ∧
      s.chamber.phase = .purge ∧ s.chamber.repurge = true ∧ 40 ≤ s.control.settings.purgeO2 := by
  refine ⟨⟨(chamberIn .shred).setOrders [{ pierceOrder with
      node := .chamber, kind := .shredderStop, issuer := .chamberSequencer }], _,
      ⟨⟨rfl, rfl, rfl⟩, by decide, rfl, by decide, rfl, rfl⟩, rfl, rfl, rfl, by decide, _,
      List.mem_singleton_self _, rfl, rfl⟩,
    ⟨chamberIn .shred, _, ⟨⟨rfl, rfl, rfl⟩, by decide, rfl, by decide, rfl, rfl⟩,
      ⟨⟨rfl, rfl, rfl⟩, by decide, rfl, by decide, rfl, rfl⟩, rfl, rfl, rfl, by decide, by decide⟩,
    ⟨(chamberIn .purge).onChamber fun c => { c with repurge := true }, _,
      ⟨⟨rfl, rfl, rfl⟩, by decide, rfl, by decide, rfl, rfl⟩, rfl, rfl, rfl, by decide⟩⟩

/-- The open and the close DONE, in EVACUATE on both sides of the target, and in RISE_TEST. -/
theorem witness_StationAnswerEndsPhases_valve :
    let o opens : Order := { pierceOrder with kind := .evacValve opens }
    ∀ opens, ∀ p ∈ [StationPhase.evacuate, .riseTest], ∃ (s : State) (a b : StationAnswer),
      s.resetPin = false ∧ (s.node (.station 0)).silent = false ∧ (s.station 0).phase = p ∧
      a.reports = [{ number := 255, status := .done }] ∧ b.reports = a.reports ∧
      s.findOrder (.station 0) 255 = some (o opens) ∧ (s.station 0).evacOrder = some 255 ∧
      (s.station 0).evacValve = (if opens then .opening else .closing) ∧ (s.station 0).unsecured = [] ∧
      (∀ c, s.classifier.cycle = some c → c.station = 0 → c.blocked = false) ∧
      s.control.settings.evacTarget < a.pressure ∧ b.pressure ≤ s.control.settings.evacTarget := by
  intro o opens p h
  refine ⟨((drawing .drawing).onStation 0 fun x =>
      { x with phase := p, evacValve := if opens then .opening else .closing, evacOrder := some 255 }).setOrders
        [o opens],
    stationReading State.reset.control.settings.evacTarget.succ 0 [{ number := 255, status := .done }],
    stationReading State.reset.control.settings.evacTarget 0 [{ number := 255, status := .done }], rfl, ?_⟩
  simp only [List.mem_cons, List.not_mem_nil, or_false] at h
  rcases h with rfl | rfl <;> cases opens <;>
    exact ⟨by decide +kernel, rfl, rfl, rfl, rfl, rfl, rfl, rfl, absent rfl, by decide +kernel,
      by decide +kernel⟩

/-- A failed order that is awaited, one that is not, a FAULTED station, an UNCLAMP of a DONE and of a FAULTED
station, and a sample valve's close with its cycle. -/
theorem witness_OrdersAreNumberedAndEnd_failures :
    (∀ k ∈ [OrderKind.clamp, .pierce, .evacValve true, .drainValve false, .unclamp],
      ∀ p ∈ [StationPhase.clamping, .done, .faulted], ∃ (s : State) (o : Order), o.node = .station 0 ∧
        o.issuer = .stationController ∧ o.kind = k ∧ (s.station 0).phase = p ∧
        (s.station 0).workOrder = some o.number) ∧
    (∃ (s : State) (o : Order), o.node = .station 0 ∧ o.issuer = .stationController ∧
      o.kind = .evacValve true ∧ (s.station 0).phase = .riseTest ∧
      (s.station 0).workOrder ≠ some o.number ∧ (s.station 0).evacOrder ≠ some o.number ∧
      (s.station 0).drainOrder ≠ some o.number ∧ s.control.line ≠ .halted) ∧
    ∃ (s : State) (o : Order) (c : SampleCycle), o.node = .station 0 ∧ o.issuer = .stationController ∧
      o.kind = .sampleValve false ∧ (s.station 0).phase = .faulted ∧ s.classifier.cycle = some c ∧
      c.station = 0 ∧ c.openOrder ≠ some o.number ∧ c.closeOrder = some o.number :=
  ⟨fun k _ p _ => ⟨awaiting k p, { pierceOrder with kind := k }, rfl, rfl, rfl, rfl, rfl⟩,
    ⟨inPhase .riseTest, { pierceOrder with kind := .evacValve true }, rfl, rfl, rfl, rfl, nofun, nofun,
      nofun, nofun⟩,
    ⟨(inPhase .faulted).setCycle (some { SampleCycle.begin 0 7 1 with
      stage := .closing, openOrder := none, closeOrder := some 255 }),
      { pierceOrder with kind := .sampleValve false }, _, rfl, rfl, rfl, rfl, rfl, rfl, nofun, rfl⟩⟩

/-- A number that is skipped: 255 is held, and 1 is the first free one after it. -/
theorem witness_OrdersAreNumberedAndEnd_skipped :
    ∃ s : State, s.loop.nextNumber = 255 ∧ s.loop.orders.length < 255 ∧
      (∃ o ∈ s.loop.orders, o.number = 255) ∧ s.orderNumber = 1 :=
  ⟨{ piercing with loop := { piercing.loop with nextNumber := 255 } }, by decide +kernel⟩

/-- The drain's open and close DONE, awaited and not, another order DONE, and a close confirmed in
DRAIN_WAIT with a slot held and with none. -/
theorem witness_DrainsBeginAndEndAsTested_orders :
    (∀ k ∈ [OrderKind.bankDrainOpen .a 0, .bankDrainClose .a, .heaterOff .a],
      ∀ view ∈ [ValveView.opening, .closing], ∃ (s : State) (a : CondenserAnswer) (o : Order),
        s.resetPin = false ∧ (s.node .condenser).silent = false ∧
        a.reports = [{ number := o.number, status := .done }] ∧
        s.findOrder .condenser o.number = some o ∧ o.kind = k ∧ (s.bank .a).drainValve = view ∧
        (s.bank .a).drainOrder = some o.number) ∧
    ∀ slot, ∃ s : State, (s.bank .a).state = .drainWait ∧ (s.bank .a).drainSlot = slot := by
  refine ⟨fun k hk view hv => ⟨(draining.onBank .a fun x =>
      { x with drainValve := view, drainOrder := some 255 }).setOrders
        [{ pierceOrder with node := .condenser, kind := k, issuer := .condenser }],
      condenserReading 0 0 0 0 [{ number := 255, status := .done }],
      { pierceOrder with node := .condenser, kind := k, issuer := .condenser }, rfl, ?_, rfl, rfl, rfl, rfl,
      rfl⟩,
    fun slot => ⟨bankA fun x => { x with state := .drainWait, drainSlot := slot }, rfl, rfl⟩⟩
  exact rfl

/-- The third miss of a station, a train, the chamber and the condenser, each with an order outstanding. -/
theorem witness_PollsAndMissedAnswersAreTaken_orders :
    ∀ n : Node, ∃ s : State, s.resetPin = false ∧ (s.node n).silent = false ∧
      3 ≤ (s.node n).misses + 1 ∧ (∃ o ∈ s.loop.orders, o.node = n ∧
        s.findOrder o.node o.number ≠ none) ∧ s.findOrder n 3 = none := by
  intro n
  refine ⟨(State.reset.setNode n { misses := 2, silent := false, previousTaken := false }).setOrders
    [{ pierceOrder with node := n }], rfl, ?_⟩
  cases n with
  | station i => revert i; decide +kernel
  | train t => revert t; decide +kernel
  | _ => decide +kernel

/-! Witnesses for the clauses about the sample cycle and the train of a station that faults, the orders of a
reset, a station's orders completed in HALTED, and the sample of an abandoned cycle. -/

/-- A cycle of the station in each stage and one of another station, with the train in each state that tails. -/
theorem witness_StationFaultActionIsTaken_cycle :
    ∀ stage, ∀ j : StationId, ∀ st ∈ [TrainState.purging, .drawing, .paused, .waitVessel],
      ∃ (s : State) (y : SampleCycle), s.classifier.cycle = some y ∧ y.station = j ∧ y.stage = stage ∧
        (s.station 0).unit = some 7 ∧ (s.station 0).train = some 0 ∧ (s.train 0).state = st :=
  fun stage j st _ => ⟨(drawing st).setCycle (some { SampleCycle.begin j 7 255 with stage := stage }),
    { SampleCycle.begin j 7 255 with stage := stage }, rfl, rfl, rfl, rfl, rfl, rfl⟩

/-- What a reset finds: a unit's station, a FAULTED one, a cycle of either in each stage, and a train in each
of the five states. -/
theorem witness_ResetsLeaveTheLineStopped_orders :
    ∀ (kind : ResetKind) (stage : CycleStage), ∀ j ∈ [(0 : StationId), 1],
      ∀ st ∈ [TrainState.purging, .drawing, .paused, .waitVessel, .tailing],
      ∃ (s : State) (y : SampleCycle), s.resetPin = false ∧ s.link.state = .resetting kind ∧
        (∀ i, (s.station i).unit = none →
          (s.station i).phase = .empty ∨ (s.station i).phase = .faulted ∨
            ((s.station i).phase = .done ∧ (s.station i).unclamping = true)) ∧
        (∀ k, (s.train k).state = .outOfService →
          (s.train k).station = none ∧ (s.train k).slot = none) ∧
        s.classifier.cycle = some y ∧ y.station = j ∧ y.stage = stage ∧
        (s.station 0).unit = some 7 ∧ (s.station 1).phase = .faulted ∧ (s.train 0).state = st := by
  intro kind stage j _ st h
  let base := (drawing st).onStation 1 fun x => { x with phase := .faulted }
  have rest : (∀ i, (base.station i).unit = none →
        (base.station i).phase = .empty ∨ (base.station i).phase = .faulted ∨
          ((base.station i).phase = .done ∧ (base.station i).unclamping = true)) ∧
      ∀ k, (base.train k).state = .outOfService →
        (base.train k).station = none ∧ (base.train k).slot = none := by
    simp only [List.mem_cons, List.not_mem_nil, or_false] at h
    rcases h with rfl | rfl | rfl | rfl | rfl <;> decide +kernel
  exact ⟨(base.setCycle (some { SampleCycle.begin j 7 255 with stage := stage })).setLink
      (.resetting kind),
    { SampleCycle.begin j 7 255 with stage := stage }, rfl, rfl, rest.1, rest.2, rfl, rfl, rfl, rfl, rfl, rfl⟩

/-- CLAMP, PIERCE and UNCLAMP reported DONE in HALTED, and a plain answer of a frozen station. -/
theorem witness_StationAnswerEndsPhases_halted :
    (∀ k ∈ [(OrderKind.clamp, StationPhase.clamping), (.pierce, .pierce), (.unclamp, .done)],
      ∃ (s : State) (a : StationAnswer) (o : Order), o.kind = k.1 ∧ (s.station 0).phase = k.2 ∧
        s.resetPin = false ∧ (s.node (.station 0)).silent = false ∧ s.control.line = .halted ∧
        a.reports = [{ number := o.number, status := .done }] ∧
        s.findOrder (.station 0) o.number = some o ∧ o.issuer = .stationController ∧
        (s.station 0).unsecured = [] ∧ (s.station 0).workOrder = some o.number ∧
        (s.station 0).nextPhase = none ∧ (s.station 0).pierceDone = false ∧
        ∀ c, s.classifier.cycle = some c → c.station = 0 → c.blocked = false) ∧
    ∀ p, ∃ (s : State) (a : StationAnswer), s.resetPin = false ∧
      (s.node (.station 0)).silent = false ∧ s.control.line = .halted ∧ a.reports = [] ∧
      (s.station 0).unsecured = [] ∧ (s.station 0).phase = p ∧
      ∀ c, s.classifier.cycle = some c → c.station = 0 → c.blocked = false :=
  ⟨fun k _ => ⟨(awaiting k.1 k.2).setLine .halted,
      stationReading 0 0 [{ number := 255, status := .done }], { pierceOrder with kind := k.1 }, rfl, rfl,
      rfl, rfl, rfl, rfl, rfl, rfl, rfl, rfl, rfl, rfl, absent rfl⟩,
    fun p => ⟨(inPhase p).setLine .halted, stationReading 0 0 [], rfl, rfl, rfl, rfl, rfl, rfl, absent rfl⟩⟩

/-- A sample's result for an abandoned cycle, before and after its close is done. -/
theorem witness_AnalyserSamplesTheQueueHead_abandoned :
    ∀ done, ∃ (s : State) (a : AnalyserAnswer) (c : SampleCycle) (o : Order), s.resetPin = false ∧
      (s.node .analyser).silent = false ∧ s.classifier.cycle = some c ∧ c.abandoned = true ∧
      c.stage = .closing ∧ c.sampleOrder = some o.number ∧ s.findOrder .analyser o.number = some o ∧
      a.reports = [{ number := o.number, status := .done }] ∧ a.fault = false ∧ c.closeDone = done :=
  fun done => ⟨sampling.setCycle
      (some { sampleCycle with stage := .closing, abandoned := true, closeDone := done }),
    analyserReading 0 [{ number := 5, status := .done }],
    { sampleCycle with stage := .closing, abandoned := true, closeDone := done },
    { number := 5, node := .analyser, kind := .startSample, issuer := .classifier
      deadline := 30000, acknowledged := true }, rfl, rfl, rfl, rfl, rfl, rfl, rfl, rfl, rfl, rfl⟩

/-- An evacuations field below 5, and at it. -/
theorem witness_GrantScanServesARequest_count :
    ∃ r r' : UnitRecord, r.evacuations = 4 ∧ r.evacuations < 5 ∧ 5 ≤ r'.evacuations :=
  ⟨{ bookedRecord with evacuations := 4 }, { bookedRecord with evacuations := 5 }, rfl, by decide,
    by decide⟩

/-! Witnesses for the order numbers and their repeats, for the places of the units, and for an EMPTY in the
answer whose report begins SHRED. -/

/-- Numbers in their range at both ends, and two orders of one node with one number. -/
theorem witness_OrdersAreNumberedAndEnd_numbers :
    (∀ n ∈ [1, 255], ∃ s : State, s.loop.numbersSound ∧ s.loop.nextNumber = n ∧
      s.loop.orders.length < 255) ∧
    ∃ (s : State) (o p : Order), s.resetPin = false ∧ s.loop.orders = [] ++ o :: [p] ∧ o.number = 255 ∧
      p.number = 255 ∧ p.node = o.node ∧ o.kind ≠ p.kind := by
  refine ⟨fun n h => ⟨{ State.reset with loop := { State.reset.loop with nextNumber := n } }, ?_, rfl,
      Nat.succ_pos 254⟩,
    ⟨State.reset.setOrders [pierceOrder, { pierceOrder with kind := .clamp }], pierceOrder,
      { pierceOrder with kind := .clamp }, rfl, rfl, rfl, rfl, rfl, by decide⟩⟩
  simp only [List.mem_cons, List.not_mem_nil, or_false] at h
  rcases h with rfl | rfl <;> unfold FieldLoop.numbersSound <;> decide +kernel

/-- Unit 7 at station 1, unit 8 in the feed queue and unit 9 in the chamber. -/
def placed : State :=
  let s := ((inPhase .done).addUnit { UnitRecord.create 8 0 none none with
    place := some .queued, station := none }).addUnit { UnitRecord.create 9 0 none none with
      place := some .chamber, station := none }
  { s with chamber := { s.chamber with phase := .shred, unit := some 9, feed := [8] } }

theorem witness_ListsAndBanksStaySound_places :
    ∃ s t : State, s.register.sizesSound ∧ s.placesSound ∧ s.chamber.feed = [8] ∧
      (s.station 0).unit = some 7 ∧ s.chamber.unit = some 9 ∧ step s = .next t := by
  refine ⟨placed, _, ?_, ⟨?_, ?_, ?_, ?_⟩, rfl, rfl, rfl, rfl⟩
  · unfold UnitRegister.sizesSound; decide +kernel
  · decide +kernel
  · intro tag h
    obtain rfl : tag = 8 := List.mem_singleton.mp h
    exact ⟨_, rfl, rfl⟩
  · intro i tag h
    have only : ∀ j : StationId, ∀ t ∈ (placed.station j).unit, j = 0 ∧ t = 7 := by decide +kernel
    obtain ⟨rfl, rfl⟩ := only i tag h
    exact ⟨_, rfl, rfl, rfl⟩
  · intro tag h
    obtain rfl : 9 = tag := Option.some.inj h
    exact ⟨_, rfl, rfl⟩

/-- The chamber at the end of its door cycle with bank A CONDENSING, and the same with a SHREDDER_STOP
outstanding: the report begins SHRED in each. -/
theorem witness_ChamberAnswerActsOnItsReadings_begun :
    let record : UnitRecord := { UnitRecord.create 7 0 none (some .cfc) with effective := some .cfc }
    let stopOrder : Order := { pierceOrder with
      number := 254, node := .chamber, kind := .shredderStop, issuer := .chamberSequencer }
    let door : Order := { pierceOrder with
      node := .chamber, kind := .doorCycle, issuer := .chamberSequencer }
    ∀ orders ∈ [[door], [door, stopOrder]], ∃ (s u v : State) (a : ChamberAnswer),
      s.resetPin = false ∧ (s.node .chamber).silent = false ∧
      a.reports = [{ number := door.number, status := .done }] ∧ a.readings.emptied = true ∧
      s.findOrder .chamber door.number = some door ∧ s.chamber.doorOrder = some door.number ∧
      s.chamber.phase = .airlock ∧ s.chamber.nextPhase = none ∧ s.chamber.repurge = false ∧
      s.chamber.unit = some 7 ∧ s.findUnit 7 = some record ∧ record.inertRequired = false ∧
      u = (((s.advanceTo a.moment).setNode .chamber
        { misses := 0, silent := false, previousTaken := true }).setOrders
          (s.loop.orders.filter fun p =>
            decide (¬ (p.node = .chamber ∧ p.number = door.number)))).onChamber (fun c =>
              { c with doorOrder := none }) ∧
      s.control.line ≠ .halted ∧ v = u.endChamberPhase .shred ∧ v.chamber.phase = .shred ∧
      ((∃ p ∈ v.loop.orders, p.node = .chamber ∧ p.kind = .shredderStop) ↔ stopOrder ∈ orders) := by
  intro record stopOrder door orders h
  let s := ((atDoor .run record).setBank .a { Bank.reset with state := .condensing }).setOrders orders
  have shape : orders = [door] ∨ orders = [door, stopOrder] := by
    simpa only [List.mem_cons, List.not_mem_nil, or_false] using h
  refine ⟨s, _, _,
    { moment := 0, reports := [{ number := 255, status := .done }]
      readings := { gasReading 10 0 with emptied := true } }, rfl, ?_, rfl, rfl, ?_, rfl, rfl, rfl, rfl,
    rfl, rfl, ?_, rfl, ?_, rfl, ?_, ?_⟩ <;>
    rcases shape with rfl | rfl <;> decide +kernel

/-- An answer of a RISE_TEST before its hold end, with a rise entry and without, and one at it without. -/
theorem witness_StationAnswerEndsPhases_entry :
    (∀ entry ∈ [none, some 20], ∃ (s : State) (a : StationAnswer), plainAnswer s a ∧
      (s.station 0).phase = .riseTest ∧
      (s.station 0).nextPhase = none ∧ (s.station 0).holdEnd = some 1 ∧
      (s.station 0).riseEntry = entry ∧ (s.advanceTo a.moment).now < 1) ∧
    ∃ (s : State) (a : StationAnswer), plainAnswer s a ∧ (s.station 0).phase = .riseTest ∧
      (s.station 0).nextPhase = none ∧ (s.station 0).holdEnd = some 0 ∧
      (s.station 0).riseEntry = none ∧ 0 ≤ (s.advanceTo a.moment).now ∧ (s.station 0).unit = some 7 := by
  refine ⟨fun entry h => ⟨unitAt 7 fun x =>
      { x with phase := .riseTest, riseEntry := entry, holdEnd := some 1 },
      stationReading 20 0 [], ⟨rfl, rfl, nofun, rfl, rfl, absent rfl⟩, rfl, rfl, rfl, rfl, ?_⟩,
    ⟨unitAt 7 fun x => { x with phase := .riseTest, holdEnd := some 0 }, stationReading 20 0 [],
      ⟨rfl, rfl, nofun, rfl, rfl, absent rfl⟩, rfl, rfl, rfl, rfl, Nat.zero_le _, rfl⟩⟩
  simp only [List.mem_cons, List.not_mem_nil, or_false] at h
  rcases h with rfl | rfl <;> decide +kernel

/-! Witnesses for what every event ends with, for the close that serves an abandoned cycle, and for a second
watch hit in one event. -/

/-- The line in STEP with the credit and the mark of station 1, whose unit stands in a phase. -/
def stepping (p : StationPhase) : State :=
  let s := inPhase p
  s.setControl { s.control with line := .step, credits := [0], holders := [0] }

/-- A credit is withdrawn in DONE, and the step ends; it is kept in LOADED; without it a station at work
keeps the step from its end, and one at rest does not. -/
theorem test_step_ends :
    (stepping .done).settleBlocks.control.line = .stopped ∧
    (stepping .done).settleBlocks.monitor.entries =
      [{ kind := .stepDone, origin := .line, detail := { first := 0, second := none }, count := 1 }] ∧
    (stepping .loaded).settleBlocks.control.credits = [0] ∧
    (∀ p ∈ [(StationPhase.pierce, LineState.step), (.trainWait, .stopped)],
      ((stepping p.1).setControl
        { (stepping p.1).control with credits := [] }).settleBlocks.control.line = p.2) := by
  decide +kernel

/-- A settled state whose held query's unit has no open accumulation, with nothing, a line that is refused and
a command in the buffer. -/
theorem witness_EventEndSetsAttnAndEndsHolds_buffer :
    (∃ u : State, ∀ bk, (u.bank bk).state ≠ .condensing) ∧
    ∀ b ∈ [none, some emptyLine, some (checkedLine "STOP ")], ∃ (u v : State) (q : HeldQuery)
      (r : UnitRecord), v = u.settleBlocks ∧ v.link.state = .held q ∧ v.openAccumulation q.tag = false ∧
      v.queriedUnit q.tag = some r ∧ v.link.buffer = b ∧ v.resetPin = false ∧
      ∀ l ∈ b, readLine l = .framing .badCheck ∨ readLine l = .command .stop := by
  refine ⟨⟨State.reset, bothBanks (by decide) (by decide)⟩, fun b h => ?_⟩
  let u : State :=
    { inPhase .loaded with
      link := { state := .held { tag := 7, expiry := 500 }, assembly := emptyLine, buffer := b, sent := [] } }
  refine ⟨u, _, { tag := 7, expiry := 500 }, UnitRecord.create 7 0 none none, rfl, ?_⟩
  simp only [List.mem_cons, List.not_mem_nil, or_false] at h
  rcases h with rfl | rfl | rfl <;> decide +kernel

/-- A FAULTED and a halted station whose own close of the sample valve serves its cycle, with the sample
outstanding and not; and each with the manifold blocked. -/
theorem witness_StationFaultActionIsTaken_serves :
    ∀ f ∈ [(StationPhase.faulted, LineState.run), (.sampling, .halted)], ∀ out blocked : Bool,
      ∃ (s : State) (a b : StationAnswer) (o : Order) (c : SampleCycle), s.resetPin = false ∧
        (s.node (.station 0)).silent = false ∧ (s.station 0).phase = f.1 ∧ s.control.line = f.2 ∧
        a.reports = [{ number := o.number, status := .done }] ∧ b.reports = [] ∧ b.sampleOpen = false ∧
        s.findOrder (.station 0) o.number = some o ∧ o.issuer = .stationController ∧
        o.kind = .sampleValve false ∧ s.classifier.cycle = some c ∧ c.station = 0 ∧ c.stage = .closing ∧
        c.openOrder ≠ some o.number ∧ c.closeOrder = some o.number ∧ c.outstanding = out ∧
        c.blocked = blocked := by
  intro f h out blocked
  let o : Order := { pierceOrder with kind := .sampleValve false }
  let c : SampleCycle := { SampleCycle.begin 0 7 1 with
    stage := .closing, abandoned := true, outstanding := out, closeOrder := some 255, blocked := blocked }
  let s := ((((inPhase f.1).setLine f.2).onStation 0 fun x =>
    { x with unsecured := [{ valve := .sample, order := some 255 }] }).setOrders [o]).setCycle (some c)
  refine ⟨s, stationReading 0 0 [{ number := 255, status := .done }],
    { stationReading 0 0 [] with sampleOpen := false }, o, c, ?_⟩
  simp only [List.mem_cons, List.not_mem_nil, or_false] at h
  rcases h with rfl | rfl <;> revert out blocked <;> decide +kernel

/-- A hit in each state of the line after a hit of a lower, of the same and of a higher rank. -/
theorem witness_WatchHitStopsTheLine_second :
    ∀ l, ∀ r ∈ [2, 3, 9], ∃ (s : State) (h : Hit), ({ tag := 7, phase := .done } : WatchEntry) ∈ s.control.watch ∧
      s.control.hitTop = some h ∧ h.rank = r ∧ s.control.line = l ∧
      (h.rank ≤ 3 ∨ 3 < h.rank) :=
  fun l r _ =>
    ⟨(busy.setControl { busy.control with hitTop := some { rank := r, tag := 8 } }).setLine l,
      { rank := r, tag := 8 }, List.mem_cons_self, rfl, rfl, rfl, Nat.lt_or_ge 3 r |>.symm⟩

/-- The chamber's hit and then a station's in one event: one entry with the chamber's tag, counted twice, and
the line stopped (R175). -/
theorem test_two_hits :
    let s := ((State.reset.setControl
      { State.reset.control with
        line := .run
        watch := [{ tag := 7, phase := .done }, { tag := 8, phase := .clear }] }).watchEntry 9 (some 8)
          .clear).watchEntry 3 (some 7) .done
    s.control.line = .stopped ∧ s.control.watch = [] ∧ s.monitor.entries =
      [{ kind := .watchHit, origin := .line, detail := { first := 8, second := none }, count := 2 }] := by
  decide +kernel

end Sys2Proof.Tests
end

/-!
PROOFS. Family 01, unit records and what every event keeps: the invariants of the register (O9), of the lists,
places, banks and order numbers (O10), and the power-on state (O7).
-/

namespace Sys2Proof.Proofs

open Sys2Proof Sys2Proof.Machine Sys2Proof.Laws

/-! ## A step, by what it is made of -/

/-- What a step comes to: a run of changes on the state with another queue, or one of the two rows of the
RESET pin. -/
theorem step_cases {s t : State} (h : step s = .next t) :
    (∃ q, Changes ⟨true, true⟩ (s.setPending q) t) ∨ (∃ q, t = (s.setPending q).assertReset) ∨
      ∃ q, t = (s.setPending q).powerOn := by
  unfold step at h
  split at h
  · cases h
    refine .inl ⟨s.pending, ?_⟩
    show Changes _ s s.idle
    unfold State.idle
    split
    · exact .refl s
    · exact advance_changes 1 (.refl s)
  · rename_i c rest _
    by_cases assert : c = .resetPinAsserted
    · subst assert
      cases h
      exact .inr (.inl ⟨rest, rfl⟩)
    by_cases release : c = .powerOnReset
    · subst release
      cases h
      exact .inr (.inr ⟨rest, rfl⟩)
    obtain ⟨u, exec_eq, changes⟩ := exec_changes c (s.setPending rest) assert release
    rw [exec_eq] at h
    cases h
    exact .inl ⟨rest, changes⟩

/-- A property of the state that the queue does not bear on, that the two rows of the RESET pin give and that
every primitive change keeps, every step keeps. -/
theorem step_keeps {P : State → Prop} (queue : ∀ s q, P s → P (s.setPending q))
    (assert : ∀ s, P s → P s.assertReset) (power : ∀ s : State, P s.powerOn)
    (change : ∀ s t, Change ⟨true, true⟩ s t → P s → P t) {s t : State} (h : step s = .next t)
    (hs : P s) : P t := by
  obtain ⟨q, changes⟩ | ⟨q, rfl⟩ | ⟨q, rfl⟩ := step_cases h
  · exact changes.keeps change (queue s q hs)
  · exact assert _ (queue s q hs)
  · exact power _

/-! ## The register (O9) -/

/-- The books, the closed records and the sizes of the register, as O9 keeps them together. -/
def registerSound (u : UnitRegister) : Prop := u.booksSound ∧ u.closedSound ∧ u.sizesSound

theorem closed_sound (r : UnitRecord) (d : Disposition) (h : r.sound) : (r.closed d).sound := h

@[simp] theorem closed_tag (r : UnitRecord) (d : Disposition) : (r.closed d).tag = r.tag := rfl

/-- The digest of a closed record is that of its own canonical line, which carries no digest (R11). -/
theorem closed_closedRight (r : UnitRecord) (d : Disposition) : (r.closed d).closedRight :=
  ⟨rfl, rfl, rfl⟩

/-- The canonical line of a CLOSING record shows no place, as that of a logged one (R17). -/
theorem canonical_place (r : UnitRecord) (p q : Option Place) (hp : p = none ∨ p = some .closing)
    (hq : q = none ∨ q = some .closing) :
    ({ r with place := p } : UnitRecord).canonical = ({ r with place := q } : UnitRecord).canonical := by
  have shown : ({ r with place := p } : UnitRecord).shownPlace =
      ({ r with place := q } : UnitRecord).shownPlace := by
    rcases hp with rfl | rfl <;> rcases hq with rfl | rfl <;> rfl
  unfold UnitRecord.canonical UnitRecord.fields
  rw [shown]

/-- A closed record stays right in CLOSING and in the log. -/
theorem closedRight_place (r : UnitRecord) (p : Option Place) (hp : p = none ∨ p = some .closing)
    (place : r.place = none ∨ r.place = some .closing) (h : r.closedRight) :
    ({ r with place := p } : UnitRecord).closedRight := by
  obtain ⟨disposition, station, digest⟩ := h
  refine ⟨disposition, station, ?_⟩
  rw [canonical_place r p r.place hp place]
  exact digest

theorem intoLog_closedRight (r : UnitRecord) (place : r.place = some .closing) (h : r.closedRight) :
    r.intoLog.closedRight := closedRight_place r none (.inl rfl) (.inr place) h

theorem booksSound_step {b : Bool} {u v : UnitRegister} (step : RegisterStep b u v)
    (h : u.booksSound) :
    v.booksSound := by
  unfold UnitRegister.booksSound at *
  simp only [List.forall_mem_append] at h
  obtain ⟨⟨units, closing⟩, log⟩ := h
  have filtered (tag : Tag) : ∀ r ∈ u.units.filter fun x => x.tag != tag, r.sound :=
    fun r hr => units r (List.mem_of_mem_filter hr)
  cases step <;> simp only [List.forall_mem_append, List.forall_mem_singleton]
  case write f kept =>
    refine ⟨⟨fun r hr => ?_, closing⟩, log⟩
    obtain ⟨x, hx, rfl⟩ := List.mem_map.mp hr
    exact (kept x).2 (units x hx)
  case toLog tag r d found _ _ =>
    exact ⟨⟨filtered tag, closing⟩, log, closed_sound r d (units r (List.mem_of_find?_eq_some found))⟩
  case toClosing tag r d found _ =>
    exact ⟨⟨filtered tag, closing, closed_sound r d (units r (List.mem_of_find?_eq_some found))⟩, log⟩
  case add r sound _ _ => exact ⟨⟨⟨units, sound⟩, closing⟩, log⟩
  case take n =>
    refine ⟨⟨units, fun r hr => closing r (List.mem_of_mem_drop hr)⟩, ?_⟩
    refine List.forall_mem_append.mpr ⟨fun r hr => log r (List.mem_of_mem_drop hr), fun r hr => ?_⟩
    obtain ⟨x, hx, rfl⟩ := List.mem_map.mp hr
    exact closing x (List.mem_of_mem_take hx)
  case empty => simp

theorem closedSound_step {b : Bool} {u v : UnitRegister} (step : RegisterStep b u v)
    (h : u.closedSound) : v.closedSound := by
  obtain ⟨closing, log⟩ := h
  unfold UnitRegister.closedSound
  cases step
  case write => exact ⟨closing, log⟩
  case toLog tag r d _ _ _ =>
    exact ⟨closing, List.forall_mem_append.mpr
      ⟨log, List.forall_mem_singleton.mpr ⟨closed_closedRight r d, rfl⟩⟩⟩
  case toClosing tag r d _ _ =>
    refine ⟨List.forall_mem_append.mpr ⟨closing, List.forall_mem_singleton.mpr ⟨?_, rfl⟩⟩, log⟩
    exact closedRight_place (r.closed d) (some .closing) (.inr rfl) (.inl rfl) (closed_closedRight r d)
  case add => exact ⟨closing, log⟩
  case take n =>
    refine ⟨fun r hr => closing r (List.mem_of_mem_drop hr), List.forall_mem_append.mpr
      ⟨fun r hr => log r (List.mem_of_mem_drop hr), fun r hr => ?_⟩⟩
    obtain ⟨x, hx, rfl⟩ := List.mem_map.mp hr
    obtain ⟨right, place⟩ := closing x (List.mem_of_mem_take hx)
    exact ⟨intoLog_closedRight x place right, rfl⟩
  case empty => exact ⟨List.forall_mem_nil _, List.forall_mem_nil _⟩

/-- A record that leaves the register makes room for one. -/
theorem length_filter_tag (units : List UnitRecord) (tag : Tag) (r : UnitRecord)
    (found : (units.find? fun x => x.tag == tag) = some r) :
    (units.filter fun x => x.tag != tag).length < units.length := by
  refine List.length_filter_lt_length_iff_exists.mpr ⟨r, List.mem_of_find?_eq_some found, ?_⟩
  have e := List.find?_some found
  simpa using e

theorem sizesSound_step {b : Bool} {u v : UnitRegister} (step : RegisterStep b u v)
    (h : u.sizesSound) :
    v.sizesSound := by
  obtain ⟨count, tags, log, waiting⟩ := h
  unfold UnitRegister.sizesSound
  have fewer (tag : Tag) : ((u.units.filter fun x => x.tag != tag) ++ u.closing).map (·.tag) |>.Nodup :=
    tags.sublist ((List.filter_sublist.append_right _).map _)
  cases step
  case write f kept =>
    have same : (u.units.map f).map (·.tag) = u.units.map (·.tag) := by
      rw [List.map_map]
      exact List.map_congr_left fun r _ => (kept r).1
    refine ⟨by simpa using count, ?_, log, waiting⟩
    rw [List.map_append, same, ← List.map_append]
    exact tags
  case toLog tag r d found room none =>
    have less := length_filter_tag _ _ _ found
    refine ⟨?_, fewer tag, ?_, fun some => absurd none some⟩
    · dsimp only
      omega
    · simp only [List.length_append, List.length_singleton]
      omega
  case toClosing tag r d found full =>
    have less := length_filter_tag _ _ _ found
    have rtag : r.tag = tag := by simpa using List.find?_some found
    have member : r ∈ u.units := List.mem_of_find?_eq_some found
    have apart : ∀ x ∈ u.closing, x.tag ≠ tag := by
      intro x hx e
      rw [List.map_append, List.nodup_append] at tags
      exact tags.2.2 r.tag (List.mem_map_of_mem member) x.tag (List.mem_map_of_mem hx) (rtag.trans e.symm)
    refine ⟨?_, ?_, log, fun _ => ⟨?_, rfl⟩⟩
    · simp only [List.length_append, List.length_singleton]
      omega
    · rw [← List.append_assoc, List.map_append, List.nodup_append]
      refine ⟨fewer tag, by simp, fun x hx y hy e => ?_⟩
      obtain ⟨z, hz, rfl⟩ := List.mem_map.mp hx
      have ztag : z.tag = tag := by simpa [e, rtag] using hy
      rcases List.mem_append.mp hz with hz | hz
      · simpa [ztag] using List.of_mem_filter hz
      · exact apart z hz ztag
    · by_cases none : u.closing = []
      · have : ¬ u.log.length < Config.logSize := fun room => full ⟨room, none⟩
        dsimp only
        omega
      · exact (waiting none).1
  case add r _ new room =>
    refine ⟨by simp only [List.length_append, List.length_singleton]; omega, ?_, log, waiting⟩
    have new : ∀ x ∈ u.units ++ u.closing, x.tag ≠ r.tag := by
      simpa only [List.find?_eq_none, beq_iff_eq] using new
    have perm : ((u.units ++ [r] ++ u.closing).map (·.tag)).Perm
        (r.tag :: (u.units ++ u.closing).map (·.tag)) := by
      rw [← List.map_cons (f := fun x : UnitRecord => x.tag), List.append_assoc]
      exact List.perm_middle.map _
    rw [perm.nodup_iff, List.nodup_cons]
    refine ⟨fun hm => ?_, tags⟩
    obtain ⟨x, hx, e⟩ := List.mem_map.mp hm
    exact new x hx e
  case take n =>
    unfold UnitRegister.take
    dsimp only
    have left : (u.log.drop n).length ≤ u.log.length := by simp
    refine ⟨?_, tags.sublist (((List.drop_sublist _ _).append_left _).map _), ?_, fun some => ?_⟩
    · rw [List.length_drop]
      omega
    · rw [List.length_append, List.length_map, List.length_take]
      omega
    · have long : Config.logSize - (u.log.drop n).length < u.closing.length := by
        simpa [List.drop_eq_nil_iff] using some
      have stood : u.closing ≠ [] := by
        rintro e
        simp [e] at long
      refine ⟨?_, ?_⟩
      · rw [List.length_append, List.length_map, List.length_take]
        omega
      · simp only [(waiting stood).2, List.isEmpty_eq_false_iff.mpr some, Bool.and_false, Bool.not_false,
          Bool.and_self]
  case empty => exact ⟨Nat.zero_le _, .nil, Nat.zero_le _, nofun⟩

theorem registerSound_step {b : Bool} {u v : UnitRegister} (step : RegisterStep b u v)
    (h : registerSound u) : registerSound v := by
  obtain ⟨books, closed, sizes⟩ := h
  exact ⟨booksSound_step step books, closedSound_step step closed, sizesSound_step step sizes⟩

/-- A register that holds nothing. -/
theorem registerSound_empty :
    registerSound { units := [], closing := [], log := [], logFull := false } :=
  ⟨List.forall_mem_nil _, ⟨List.forall_mem_nil _, List.forall_mem_nil _⟩, Nat.zero_le _, .nil,
    Nat.zero_le _, fun some => absurd rfl some⟩

theorem registerSound_change {p : Permit} {s t : State} (c : Change p s t)
    (h : registerSound s.register) :
    registerSound t.register := by
  cases c
  case register step => exact registerSound_step step h
  all_goals simpa using h

/-- Settles O9: every change of the register keeps its books, its closed records and its sizes. -/
theorem recordBooksStaySound : Obligations.RecordBooksStaySound := by
  unfold Obligations.RecordBooksStaySound
  intro s t sound h
  exact step_keeps (P := fun s => registerSound s.register) (fun _ _ h => h) (fun _ h => h)
    (fun _ => registerSound_empty) (fun _ _ c => registerSound_change c) h sound

end Sys2Proof.Proofs

namespace Sys2Proof.Proofs

open Sys2Proof Sys2Proof.Machine Sys2Proof.Laws

/-! ## The lists (O10) -/

/-- The lists and queues as O10 keeps them together. -/
structure ListsSound (s : State) : Prop where
  stepOnly : s.control.stepOnly
  watch : s.control.watchSound
  paths : s.arbiter.pathsSound
  requests : s.arbiter.requestsSound
  queue : s.classifier.queueSound
  feed : s.chamber.feedSound

theorem listsSound_reset : ListsSound State.reset where
  stepOnly _ := ⟨rfl, rfl, rfl, rfl⟩
  watch := ⟨Nat.zero_le _, .nil, List.forall_mem_nil _⟩
  paths i := by
    have path : State.reset.arbiter.paths.get i = [0, 1, 2, 3] := by revert i; decide
    rw [path]
    decide
  requests := ⟨.nil, .nil⟩
  queue := .nil
  feed := Nat.zero_le _

/-- A path list of 1 to 4 distinct trains takes its place among the others. -/
theorem pathsSound_set (a : Arbiter) (i : StationId) (ts : List TrainId)
    (path : ts ≠ [] ∧ ts.length ≤ 4 ∧ ts.Nodup) (h : a.pathsSound) :
    ({ a with paths := a.paths.set i.val ts i.isLt } : Arbiter).pathsSound := by
  intro j
  by_cases e : i = j
  · subst e
    rw [get_set_self]
    exact path
  · rw [get_set_ne _ _ _ _ e]
    exact h j

theorem listsSound_change {p : Permit} {s t : State} (c : Change p s t) (h : ListsSound s) :
    ListsSound t := by
  obtain ⟨stepOnly, watch, paths, requests, queue, feed⟩ := h
  cases c
  case chamber kept => exact ⟨stepOnly, watch, paths, requests, queue, kept feed⟩
  case requests kept => exact ⟨stepOnly, watch, paths, kept requests, queue, feed⟩
  case paths i ts path =>
    exact ⟨stepOnly, watch, pathsSound_set _ i ts path paths, requests, queue, feed⟩
  case queue kept => exact ⟨stepOnly, watch, paths, requests, kept queue, feed⟩
  case control kept => exact ⟨kept.stepOnly stepOnly, kept.watch watch, paths, requests, queue, feed⟩
  case bank bk _ _ _ => constructor <;> simpa
  all_goals exact ⟨stepOnly, watch, paths, requests, queue, feed⟩

/-! ## The banks and the order numbers (O10) -/

/-- The two banks, by any name of the first. -/
theorem oneEach_iff (s : State) (bk : BankId) :
    s.condenser.oneEach ↔
      ¬ ((s.bank bk).state = .condensing ∧ (s.bank (otherBank bk)).state = .condensing) ∧
        ¬ ((s.bank bk).drainSlot.isSome = true ∧ (s.bank (otherBank bk)).drainSlot.isSome = true) := by
  cases bk
  · rfl
  · exact and_congr (not_congr and_comm) (not_congr and_comm)

theorem oneEach_setBank (s : State) (bk : BankId) (x : Bank)
    (condenses : x.state = .condensing → (s.bank bk).state = .condensing ∨
      (s.bank (otherBank bk)).state ≠ .condensing)
    (drains : x.drainSlot.isSome = true → (s.bank bk).drainSlot.isSome = true ∨
      (s.bank (otherBank bk)).drainSlot.isSome = false)
    (h : s.condenser.oneEach) : (s.setBank bk x).condenser.oneEach := by
  rw [oneEach_iff _ bk] at h ⊢
  rw [bank_setBank, bank_setBank_other]
  refine ⟨fun both => ?_, fun both => ?_⟩
  · exact (condenses both.1).elim (fun e => h.1 ⟨e, both.2⟩) fun e => e both.2
  · exact (drains both.1).elim (fun e => h.2 ⟨e, both.2⟩) fun e => by simp [both.2] at e

theorem numberAfter_bounds (n : Nat) (h : n ≤ Config.lastOrderNumber) :
    1 ≤ numberAfter n ∧ numberAfter n ≤ Config.lastOrderNumber := by
  unfold numberAfter
  unfold Config.lastOrderNumber at *
  split <;> omega

/-- The first free number is one of the numbers that are looked at. -/
theorem firstFreeNumber_bounds (held : List Nat) (tries n k : Nat)
    (h : 1 ≤ n ∧ n ≤ Config.lastOrderNumber)
    (found : firstFreeNumber held tries n = some k) : 1 ≤ k ∧ k ≤ Config.lastOrderNumber := by
  induction tries generalizing n with
  | zero => cases found
  | succ tries ih =>
    unfold firstFreeNumber at found
    split at found
    · exact ih _ (numberAfter_bounds n h.2) found
    · cases found
      exact h

theorem orderNumber_bounds (s : State) (h : s.loop.numbersSound) :
    1 ≤ s.orderNumber ∧ s.orderNumber ≤ Config.lastOrderNumber := by
  unfold State.orderNumber
  split
  · rename_i found
    exact firstFreeNumber_bounds _ _ _ _ h.1 found
  · have := Nat.mod_lt (Config.freeOrderNumber s.freeCount) (show 0 < Config.lastOrderNumber by decide)
    omega

theorem numbersSound_issueFor (s : State) (who : Issuer) (n : Node) (k : OrderKind) (c : OrderCause)
    (h : s.loop.numbersSound) : (s.issueFor who n k c).loop.numbersSound := by
  have number := orderNumber_bounds s h
  refine ⟨numberAfter_bounds _ number.2, ?_⟩
  rw [issueFor_orders]
  exact List.forall_mem_append.mpr ⟨h.2, List.forall_mem_singleton.mpr number⟩

theorem numbersSound_setOrders (s : State) (q : List Order)
    (held : ∀ o ∈ q, ∃ p ∈ s.loop.orders, p.number = o.number) (h : s.loop.numbersSound) :
    (s.setOrders q).loop.numbersSound := by
  refine ⟨h.1, fun o ho => ?_⟩
  obtain ⟨p, hp, e⟩ := held o ho
  exact e ▸ h.2 p hp

theorem banksAndNumbers_change {p : Permit} {s t : State} (c : Change p s t)
    (h : s.condenser.oneEach ∧ s.loop.numbersSound) : t.condenser.oneEach ∧ t.loop.numbersSound := by
  obtain ⟨banks, numbers⟩ := h
  cases c
  case bank bk x condenses drains =>
    exact ⟨oneEach_setBank s bk x condenses drains banks, by simpa using numbers⟩
  case issue who n k c => exact ⟨banks, numbersSound_issueFor s who n k c numbers⟩
  case orders q held => exact ⟨banks, numbersSound_setOrders s q held numbers⟩
  all_goals exact ⟨banks, numbers⟩

theorem numbersSound_reset : State.reset.loop.numbersSound :=
  ⟨by decide, List.forall_mem_nil _⟩

theorem oneEach_reset : State.reset.condenser.oneEach := ⟨nofun, nofun⟩

/-! ## The power-on state (O7) -/

theorem settingsInBounds_reset : State.reset.settingsInBounds := by
  intro name
  cases name <;> decide

theorem station_reset (i : StationId) : State.reset.station i = Station.reset := by revert i; decide

theorem placesSound_reset : State.reset.placesSound := by
  refine ⟨.nil, List.forall_mem_nil _, fun i tag e => ?_, nofun⟩
  rw [station_reset] at e
  cases e

theorem nothingDue_reset : State.reset.nothingDue :=
  ⟨nofun, ⟨List.forall_mem_nil _, nofun⟩, nofun⟩

/-- Settles O7: every table is empty, every station, train and bank is at rest, and the settings are R178's. -/
theorem powerOnStateIsSound : Obligations.PowerOnStateIsSound := by
  obtain ⟨books, closed, sizes⟩ := registerSound_empty
  obtain ⟨stepOnly, watch, paths, requests, queue, feed⟩ := listsSound_reset
  exact ⟨settingsInBounds_reset, ⟨Nat.zero_le _, .nil, List.forall_mem_nil _⟩, ⟨nofun, fun _ => ⟨rfl, rfl⟩⟩,
    books, closed, sizes, stepOnly, watch, paths, requests, queue, feed, placesSound_reset, oneEach_reset,
    numbersSound_reset, nothingDue_reset⟩
end Sys2Proof.Proofs

namespace Sys2Proof.Proofs

open Sys2Proof Sys2Proof.Machine Sys2Proof.Laws

/-! ## What is held, and where the records stand (R9) -/

/-- Where a record stands. -/
def standing (r : UnitRecord) : Tag × Option Place × Option StationId := (r.tag, r.place, r.station)

/-- A write to a record that leaves it where it stands. -/
def Stands (r r' : UnitRecord) : Prop := standing r' = standing r

/-- What the feed queue, the chamber and the stations hold, and where the records of the register stand. -/
structure Holdings where
  feed : List Tag
  chamber : Option Tag
  station : StationId → Option Tag
  records : List (Tag × Option Place × Option StationId)

/-- All that `State.placesSound` reads of a state. -/
def holdings (s : State) : Holdings where
  feed := s.chamber.feed
  chamber := s.chamber.unit
  station i := (s.station i).unit
  records := s.register.units.map standing

section
variable {s : State}

@[simp] theorem setStation_holdings (i : StationId) (x : Station)
    (unit : x.unit = (s.station i).unit) :
    holdings (s.setStation i x) = holdings s := by
  have station : (fun j => ((s.setStation i x).station j).unit) = fun j => (s.station j).unit := by
    funext j
    by_cases e : i = j
    · subst e
      rw [station_setStation, unit]
    · rw [station_setStation_ne _ _ _ _ e]
  unfold holdings
  rw [station]
  rfl

@[simp] theorem onStation_holdings (i : StationId) (f : Station → Station)
    (unit : ∀ x, (f x).unit = x.unit) : holdings (s.onStation i f) = holdings s :=
  setStation_holdings i _ (unit _)

theorem chamber_holdings (f : Chamber → Chamber) (feed : (f s.chamber).feed = s.chamber.feed)
    (unit : (f s.chamber).unit = s.chamber.unit) : holdings (s.onChamber f) = holdings s := by
  simp only [holdings, onChamber_chamber, feed, unit]
  rfl

@[simp] theorem onChamber_holdings (f : Chamber → Chamber) (feed : ∀ c, (f c).feed = c.feed)
    (unit : ∀ c, (f c).unit = c.unit) : holdings (s.onChamber f) = holdings s :=
  chamber_holdings f (feed _) (unit _)

@[simp] theorem onUnit_holdings (tag : Tag) (f : UnitRecord → UnitRecord)
    (stands : ∀ r, Stands r (f r)) : holdings (s.onUnit tag f) = holdings s := by
  have records : (s.onUnit tag f).register.units.map standing = s.register.units.map standing := by
    rw [onUnit_register, List.map_map]
    refine List.map_congr_left fun r _ => ?_
    simp only [Function.comp_apply]
    split
    · exact stands r
    · rfl
  unfold holdings
  rw [records]
  rfl

/-- Only the chamber, the stations and the open records are read. -/
theorem holdings_congr {t : State} (chamber : t.chamber = s.chamber)
    (stations : t.stations = s.stations)
    (units : t.register.units = s.register.units) : holdings t = holdings s := by
  unfold holdings State.station
  rw [chamber, stations, units]

@[simp] theorem setTrain_holdings (t : TrainId) (x : Train) :
    holdings (s.setTrain t x) = holdings s :=
  holdings_congr rfl rfl rfl

@[simp] theorem onTrain_holdings (t : TrainId) (f : Train → Train) :
    holdings (s.onTrain t f) = holdings s :=
  holdings_congr rfl rfl rfl

@[simp] theorem setSlot_holdings (k : SlotId) (x : Slot) : holdings (s.setSlot k x) = holdings s :=
  holdings_congr rfl rfl rfl

@[simp] theorem onVessel_holdings (k : SlotId) (f : Vessel → Vessel) :
    holdings (s.onVessel k f) = holdings s :=
  holdings_congr rfl rfl rfl

@[simp] theorem onBank_holdings (bk : BankId) (f : Bank → Bank) :
    holdings (s.onBank bk f) = holdings s :=
  holdings_congr (by simp) (by simp) (by simp)

@[simp] theorem setNode_holdings (n : Node) (x : NodeState) :
    holdings (s.setNode n x) = holdings s :=
  holdings_congr rfl rfl rfl

@[simp] theorem setRequests_holdings (q : List Request) : holdings (s.setRequests q) = holdings s :=
  holdings_congr rfl rfl rfl

@[simp] theorem setCycle_holdings (c : Option SampleCycle) : holdings (s.setCycle c) = holdings s :=
  holdings_congr rfl rfl rfl

@[simp] theorem setQueue_holdings (q : List StationId) : holdings (s.setQueue q) = holdings s :=
  holdings_congr rfl rfl rfl

@[simp] theorem setOrders_holdings (q : List Order) : holdings (s.setOrders q) = holdings s :=
  holdings_congr rfl rfl rfl

@[simp] theorem setMonitor_holdings (m : Monitor) : holdings (s.setMonitor m) = holdings s :=
  holdings_congr rfl rfl rfl

@[simp] theorem setControl_holdings (c : LineControl) : holdings (s.setControl c) = holdings s :=
  holdings_congr rfl rfl rfl

@[simp] theorem setLink_holdings (l : LinkState) : holdings (s.setLink l) = holdings s :=
  holdings_congr rfl rfl rfl

@[simp] theorem send_holdings (lines : List Text) : holdings (s.send lines) = holdings s :=
  holdings_congr rfl rfl rfl

@[simp] theorem issueFor_holdings (b : Issuer) (n : Node) (k : OrderKind) (c : OrderCause) :
    holdings (s.issueFor b n k c) = holdings s :=
  holdings_congr rfl rfl rfl

@[simp] theorem issue_holdings (b : Issuer) (n : Node) (k : OrderKind) :
    holdings (s.issue b n k) = holdings s :=
  holdings_congr rfl rfl rfl

@[simp] theorem forAll_holdings {α : Type} (items : List α) (f : State → α → State)
    (each : ∀ s x, holdings (f s x) = holdings s) : holdings (forAll items s f) = holdings s :=
  forAll_same holdings f each items s

@[simp] theorem stands_of_same {r r' : UnitRecord} (tag : r'.tag = r.tag)
    (place : r'.place = r.place)
    (station : r'.station = r.station) : Stands r r' := by
  unfold Stands standing
  rw [tag, place, station]

@[simp] theorem stands_closeEntry (r : UnitRecord) : Stands r r.closeEntry := rfl

@[simp] theorem stands_openEntry (r : UnitRecord) (k : SlotId) (v : Nat) :
    Stands r (r.openEntry k v) := by
  unfold UnitRecord.openEntry
  split <;> rfl

@[simp] theorem stands_book (r : UnitRecord) (d : Grams) : Stands r (r.book d) := by
  unfold UnitRecord.book
  split <;> rfl

@[simp] theorem stands_countEvacuation (r : UnitRecord) : Stands r r.countEvacuation := rfl

@[simp] theorem stands_classify (r : UnitRecord) (m : RefrigerantClass)
    (bands : Option (Vector Nat 6))
    (hit : Option SignatureId) : Stands r (r.classify m bands hit) := rfl

@[simp] theorem stands_addWindow (r : UnitRecord) (bk : BankId) (foam : Option Grams) :
    Stands r (r.addWindow bk foam) := rfl

@[simp] theorem stands_takeShare (r : UnitRecord) (bk : BankId) (g : Grams) (e : Bool) :
    Stands r (r.takeShare bk g e) := by
  unfold UnitRecord.takeShare
  split <;> rfl


/-! ## The shared operations -/

@[simp] theorem orderStation_holdings (i : StationId) (kind : OrderKind) :
    holdings (s.orderStation i kind) = holdings s := by
  simp [State.orderStation]

@[simp] theorem orderSampleValve_holdings (i : StationId) (toOpen : Bool) :
    holdings (s.orderSampleValve i toOpen) = holdings s := by
  simp [State.orderSampleValve]

@[simp] theorem orderTrain_holdings (t : TrainId) (kind : OrderKind) :
    holdings (s.orderTrain t kind) = holdings s := by
  simp [State.orderTrain]

@[simp] theorem orderChamber_holdings (kind : OrderKind) :
    holdings (s.orderChamber kind) = holdings s := by
  simp [State.orderChamber]

@[simp] theorem orderBank_holdings (kind : OrderKind) :
    holdings (s.orderBank kind) = holdings s := by
  simp [State.orderBank]

@[simp] theorem closeValves_holdings (i : StationId) : holdings (s.closeValves i) = holdings s := by
  simp [State.closeValves]

@[simp] theorem abandonCycle_holdings (close : Option Nat) :
    holdings (s.abandonCycle close) = holdings s := by
  dsimp only [State.abandonCycle]
  (repeat' split) <;> simp

@[simp] theorem haltStation_holdings (i : StationId) : holdings (s.haltStation i) = holdings s := by
  dsimp only [State.haltStation]
  (repeat' split) <;> simp

@[simp] theorem haltClassifier_holdings : holdings (s.haltClassifier) = holdings s := by
  dsimp only [State.haltClassifier]
  (repeat' split) <;> simp

@[simp] theorem haltOrderTrain_holdings (t : TrainId) (kind : OrderKind) :
    holdings (s.haltOrderTrain t kind) = holdings s := by
  simp [State.haltOrderTrain]

@[simp] theorem haltTrain_holdings (t : TrainId) : holdings (s.haltTrain t) = holdings s := by
  dsimp only [State.haltTrain]
  (repeat' split) <;> simp

@[simp] theorem haltOrderChamber_holdings (kind : OrderKind) :
    holdings (s.haltOrderChamber kind) = holdings s := by
  simp [State.haltOrderChamber]

@[simp] theorem haltChamber_holdings : holdings (s.haltChamber) = holdings s := by
  simp [State.haltChamber]

@[simp] theorem haltBank_holdings (bk : BankId) : holdings (s.haltBank bk) = holdings s := by
  dsimp only [State.haltBank]
  (repeat' split) <;> simp

@[simp] theorem halt_holdings : holdings (s.halt) = holdings s := by
  dsimp only [State.halt]
  (repeat' split) <;> simp

@[simp] theorem raise_holdings (kind : ConditionKind) (origin : Origin) (detail : Detail) :
    holdings (s.raise kind origin detail) = holdings s := by
  dsimp only [State.raise]
  (repeat' split) <;> simp

@[simp] theorem closeEvac_holdings (i : StationId) : holdings (s.closeEvac i) = holdings s := by
  dsimp only [State.closeEvac]
  (repeat' split) <;> simp

@[simp] theorem stopStation_holdings (i : StationId) : holdings (s.stopStation i) = holdings s := by
  dsimp only [State.stopStation]
  (repeat' split) <;> simp

@[simp] theorem pauseTrain_holdings (t : TrainId) : holdings (s.pauseTrain t) = holdings s := by
  dsimp only [State.pauseTrain]
  (repeat' split) <;> simp

@[simp] theorem lineStop_holdings : holdings s.lineStop = holdings s := by
  rw [lineStop_same holdings (by simp) (by simp)]
  simp

@[simp] theorem watchEntry_holdings (rank : Nat) (tag : Option Tag) (phase : PhaseName) :
    holdings (s.watchEntry rank tag phase) = holdings s :=
  watchEntry_same holdings (by simp) (by simp) (by simp) ..

@[simp] theorem enterPhase_holdings (i : StationId) (p : StationPhase) :
    holdings (s.enterPhase i p) = holdings s := by
  simp [State.enterPhase]

@[simp] theorem enterChamberPhase_holdings (p : ChamberPhase) :
    holdings (s.enterChamberPhase p) = holdings s := by
  simp [State.enterChamberPhase]

@[simp] theorem spendCredit_holdings (i : StationId) : holdings (s.spendCredit i) = holdings s := by
  simp [State.spendCredit]

@[simp] theorem spendChamberCredit_holdings : holdings (s.spendChamberCredit) = holdings s := by
  simp [State.spendChamberCredit]

/-! ## The Unit Register -/

@[simp] theorem closeEntry_holdings (tag : Tag) : holdings (s.closeEntry tag) = holdings s := by
  simp [State.closeEntry]

/-! ## The Station Controller -/

@[simp] theorem startTail_holdings (t : TrainId) : holdings (s.startTail t) = holdings s := by
  dsimp only [State.startTail]
  (repeat' split) <;> simp

@[simp] theorem writeFaultedPhase_holdings (i : StationId) (f : StationFault) :
    holdings (s.writeFaultedPhase i f) = holdings s := by
  dsimp only [State.writeFaultedPhase]
  (repeat' split) <;> simp

@[simp] theorem leaveLists_holdings (i : StationId) : holdings (s.leaveLists i) = holdings s := by
  simp [State.leaveLists]

@[simp] theorem abandonFor_holdings (i : StationId) : holdings (s.abandonFor i) = holdings s := by
  dsimp only [State.abandonFor]
  (repeat' split) <;> simp

@[simp] theorem tailFor_holdings (i : StationId) : holdings (s.tailFor i) = holdings s := by
  dsimp only [State.tailFor]
  (repeat' split) <;> simp

@[simp] theorem faultStation_holdings (i : StationId) (f : StationFault) (tail : Bool) :
    holdings (s.faultStation i f tail) = holdings s := by
  refine (onStation_holdings i Station.clearWork fun _ => rfl).trans ?_
  cases tail <;> simp

@[simp] theorem failStation_holdings (i : StationId) : holdings (s.failStation i) = holdings s := by
  simp [State.failStation]

@[simp] theorem openEvac_holdings (i : StationId) : holdings (s.openEvac i) = holdings s := by
  dsimp only [State.openEvac]
  (repeat' split) <;> simp

@[simp] theorem onStationUnit_holdings (i : StationId) (f : UnitRecord → UnitRecord)
    (stands : ∀ r, Stands r (f r)) : holdings (s.onStationUnit i f) = holdings s := by
  dsimp only [State.onStationUnit]
  split
  · exact onUnit_holdings _ f stands
  · rfl

@[simp] theorem enterEvacuate_holdings (i : StationId) (t : TrainId) :
    holdings (s.enterEvacuate i t) = holdings s := by
  simp [State.enterEvacuate]

@[simp] theorem awaitVessel_holdings (i : StationId) : holdings (s.awaitVessel i) = holdings s := by
  simp [State.awaitVessel]

@[simp] theorem vesselFound_holdings (i : StationId) : holdings (s.vesselFound i) = holdings s := by
  simp [State.vesselFound]

@[simp] theorem dropTrain_holdings (i : StationId) : holdings (s.dropTrain i) = holdings s := by
  simp [State.dropTrain]

@[simp] theorem unclampFailed_holdings (i : StationId) :
    holdings (s.unclampFailed i) = holdings s := by
  dsimp only [State.unclampFailed]
  (repeat' split) <;> simp

@[simp] theorem endDrain_holdings (i : StationId) : holdings (s.endDrain i) = holdings s := by
  simp [State.endDrain]

/-! ## The Path Arbiter -/

@[simp] theorem orderTrainOnce_holdings (t : TrainId) (kind : OrderKind) :
    holdings (s.orderTrainOnce t kind) = holdings s := by
  dsimp only [State.orderTrainOnce]
  (repeat' split) <;> simp

@[simp] theorem orderTrainAfterHalt_holdings (t : TrainId) (kind : OrderKind) :
    holdings (s.orderTrainAfterHalt t kind) = holdings s := by
  dsimp only [State.orderTrainAfterHalt]
  (repeat' split) <;> simp

@[simp] theorem stopTrainAfterHalt_holdings (t : TrainId) :
    holdings (s.stopTrainAfterHalt t) = holdings s := by
  simp [State.stopTrainAfterHalt]

@[simp] theorem stopTrainOnce_holdings (t : TrainId) :
    holdings (s.stopTrainOnce t) = holdings s := by
  simp [State.stopTrainOnce]

@[simp] theorem stopTrain_holdings (t : TrainId) : holdings (s.stopTrain t) = holdings s := by
  simp [State.stopTrain]

@[simp] theorem reportDrawing_holdings (t : TrainId) :
    holdings (s.reportDrawing t) = holdings s := by
  dsimp only [State.reportDrawing]
  (repeat' split) <;> simp

@[simp] theorem orderOutlet_holdings (t : TrainId) : holdings (s.orderOutlet t) = holdings s := by
  dsimp only [State.orderOutlet]
  (repeat' split) <;> simp

@[simp] theorem setTrainState_holdings (t : TrainId) (x : TrainState) :
    holdings (s.setTrainState t x) = holdings s := by
  simp [State.setTrainState]

@[simp] theorem openTrainEntry_holdings (t : TrainId) (k : SlotId) :
    holdings (s.openTrainEntry t k) = holdings s := by
  dsimp only [State.openTrainEntry]
  (repeat' split) <;> simp

@[simp] theorem startPurge_holdings (t : TrainId) : holdings (s.startPurge t) = holdings s := by
  simp [State.startPurge]

@[simp] theorem drawAfresh_holdings (t : TrainId) : holdings (s.drawAfresh t) = holdings s := by
  simp [State.drawAfresh]

@[simp] theorem leavePurge_holdings (t : TrainId) : holdings (s.leavePurge t) = holdings s := by
  dsimp only [State.leavePurge]
  (repeat' split) <;> simp

@[simp] theorem grantTrain_holdings (i : StationId) (tag : Tag) (t : TrainId) (k : SlotId)
    (cls : VesselClass) :
    holdings (s.grantTrain i tag t k cls) = holdings s := by
  dsimp only [State.grantTrain]
  (repeat' split) <;> simp

@[simp] theorem exhaustRequest_holdings (i : StationId) (tag : Tag) :
    holdings (s.exhaustRequest i tag) = holdings s := by
  simp [State.exhaustRequest]

@[simp] theorem scanRequest_holdings (q : Request) : holdings (s.scanRequest q) = holdings s := by
  dsimp only [State.scanRequest]
  (repeat' split) <;> simp

@[simp] theorem grantScan_holdings :
    holdings (s.grantScan) = holdings s := by
  simp [State.grantScan]

@[simp] theorem joinRequests_holdings (i : StationId) (time : Moment) :
    holdings (s.joinRequests i time) = holdings s := by
  simp [State.joinRequests]

@[simp] theorem endTail_holdings (t : TrainId) : holdings (s.endTail t) = holdings s := by
  dsimp only [State.endTail]
  (repeat' split) <;> simp

@[simp] theorem stationTrainFault_holdings (i : StationId) :
    holdings (s.stationTrainFault i) = holdings s := by
  dsimp only [State.stationTrainFault]
  (repeat' split) <;> simp

@[simp] theorem stripTrain_holdings (t : TrainId) : holdings (s.stripTrain t) = holdings s := by
  dsimp only [State.stripTrain]
  (repeat' split) <;> simp

@[simp] theorem faultTrain_holdings (t : TrainId) : holdings (s.faultTrain t) = holdings s := by
  dsimp only [State.faultTrain]
  (repeat' split) <;> simp

@[simp] theorem exhaustTrain_holdings (t : TrainId) : holdings (s.exhaustTrain t) = holdings s := by
  dsimp only [State.exhaustTrain]
  (repeat' split) <;> simp

@[simp] theorem waitForVessel_holdings (t : TrainId) :
    holdings (s.waitForVessel t) = holdings s := by
  dsimp only [State.waitForVessel]
  (repeat' split) <;> simp

@[simp] theorem changeTrain_holdings (k : SlotId) (t : TrainId) :
    holdings (State.changeTrain k s t) = holdings s := by
  dsimp only [State.changeTrain]
  (repeat' split) <;> simp

@[simp] theorem changeTrains_holdings (k : SlotId) : holdings (s.changeTrains k) = holdings s := by
  dsimp only [State.changeTrains]
  (repeat' split) <;> simp

@[simp] theorem resumeTrain_holdings (cls : VesselClass) (t : TrainId) :
    holdings (State.resumeTrain cls s t) = holdings s := by
  dsimp only [State.resumeTrain]
  (repeat' split) <;> simp

@[simp] theorem resumeTrains_holdings (cls : VesselClass) :
    holdings (s.resumeTrains cls) = holdings s := by
  dsimp only [State.resumeTrains]
  (repeat' split) <;> simp

@[simp] theorem endPurge_holdings (t : TrainId) : holdings (s.endPurge t) = holdings s := by
  dsimp only [State.endPurge]
  (repeat' split) <;> simp

@[simp] theorem clearSuspension_holdings (i : StationId) :
    holdings (s.clearSuspension i) = holdings s := by
  dsimp only [State.clearSuspension]
  (repeat' split) <;> simp

/-! ## The Classifier -/

@[simp] theorem raiseClass_holdings (i : StationId) (tag : Tag) (declared : Option RefrigerantClass)
    (measured : RefrigerantClass) :
    holdings (s.raiseClass i tag declared measured) = holdings s := by
  dsimp only [State.raiseClass]
  (repeat' split) <;> simp

@[simp] theorem classifyUnit_holdings (i : StationId) (tag : Tag) (measured : RefrigerantClass)
    (bands : Option (Vector Nat 6)) (hit : Option SignatureId) :
    holdings (s.classifyUnit i tag measured bands hit) = holdings s := by
  dsimp only [State.classifyUnit]
  (repeat' split) <;> simp

@[simp] theorem grantAnalyser_holdings : holdings (s.grantAnalyser) = holdings s := by
  dsimp only [State.grantAnalyser]
  (repeat' split) <;> simp

@[simp] theorem joinQueue_holdings (i : StationId) : holdings (s.joinQueue i) = holdings s := by
  dsimp only [State.joinQueue]
  (repeat' split) <;> simp

/-! ## A station's phases -/

@[simp] theorem beginPierce_holdings (i : StationId) : holdings (s.beginPierce i) = holdings s := by
  simp [State.beginPierce]

@[simp] theorem beginTrainWait_holdings (i : StationId) :
    holdings (s.beginTrainWait i) = holdings s := by
  simp [State.beginTrainWait]

@[simp] theorem beginRiseTest_holdings (i : StationId) :
    holdings (s.beginRiseTest i) = holdings s := by
  simp [State.beginRiseTest]

@[simp] theorem beginOilDrain_holdings (i : StationId) :
    holdings (s.beginOilDrain i) = holdings s := by
  simp [State.beginOilDrain]

@[simp] theorem beginPhase_holdings (i : StationId) (p : StationPhase) :
    holdings (s.beginPhase i p) = holdings s := by
  dsimp only [State.beginPhase]
  (repeat' split) <;> simp

@[simp] theorem testStation_holdings (i : StationId) : holdings (s.testStation i) = holdings s := by
  dsimp only [State.testStation]
  (repeat' split) <;> simp

@[simp] theorem endPhase_holdings (i : StationId) (p : StationPhase) :
    holdings (s.endPhase i p) = holdings s := by
  simp [State.endPhase]

@[simp] theorem enterLoaded_holdings (i : StationId) : holdings (s.enterLoaded i) = holdings s := by
  simp [State.enterLoaded]

@[simp] theorem enterClamping_holdings (i : StationId) :
    holdings (s.enterClamping i) = holdings s := by
  simp [State.enterClamping]

@[simp] theorem evacDone_holdings (i : StationId) : holdings (s.evacDone i) = holdings s := by
  dsimp only [State.evacDone]
  (repeat' split) <;> simp

@[simp] theorem drainDone_holdings (i : StationId) (toOpen : Bool) (oil : Grams) :
    holdings (s.drainDone i toOpen oil) = holdings s := by
  dsimp only [State.drainDone]
  (repeat' split) <;> simp

@[simp] theorem stationOrderFailed_holdings (i : StationId) (o : Order) :
    holdings (s.stationOrderFailed i o) = holdings s := by
  dsimp only [State.stationOrderFailed]
  (repeat' split) <;> simp [Station.closeFailed]

@[simp] theorem readPierce_holdings (i : StationId) (pressure : Nat) :
    holdings (s.readPierce i pressure) = holdings s := by
  dsimp only [State.readPierce]
  (repeat' split) <;> simp

@[simp] theorem reachTarget_holdings (i : StationId) (pressure : Nat) :
    holdings (s.reachTarget i pressure) = holdings s := by
  simp [State.reachTarget]

@[simp] theorem latchRise_holdings (i : StationId) (entry pressure : Nat) :
    holdings (s.latchRise i entry pressure) = holdings s := by
  dsimp only [State.latchRise]
  (repeat' split) <;> simp

@[simp] theorem readRise_holdings (i : StationId) (pressure : Nat) :
    holdings (s.readRise i pressure) = holdings s := by
  dsimp only [State.readRise]
  (repeat' split) <;> simp

@[simp] theorem readOil_holdings (i : StationId) (oil : Grams) :
    holdings (s.readOil i oil) = holdings s := by
  dsimp only [State.readOil]
  (repeat' split) <;> simp

@[simp] theorem takeStationReadings_holdings (i : StationId) (before : Station)
    (a : StationAnswer) :
    holdings (s.takeStationReadings i before a) = holdings s := by
  dsimp only [State.takeStationReadings]
  (repeat' split) <;> simp

@[simp] theorem stationSilent_holdings (i : StationId) :
    holdings (s.stationSilent i) = holdings s := by
  dsimp only [State.stationSilent]
  (repeat' split) <;> simp

@[simp] theorem evacOvertime_holdings (i : StationId) :
    holdings (s.evacOvertime i) = holdings s := by
  simp [State.evacOvertime]

@[simp] theorem resetStation_holdings (i : StationId) :
    holdings (s.resetStation i) = holdings s := by
  dsimp only [State.resetStation]
  (repeat' split) <;> simp

@[simp] theorem resumeAt_holdings (i : StationId) (p : StationPhase) :
    holdings (s.resumeAt i p) = holdings s := by
  simp [State.resumeAt]

@[simp] theorem resumeFrom_holdings (i : StationId) (p : StationPhase) :
    holdings (s.resumeFrom i p) = holdings s := by
  dsimp only [State.resumeFrom]
  (repeat' split) <;> simp

/-! ## The sample cycle -/

@[simp] theorem onCycle_holdings (f : SampleCycle → SampleCycle) :
    holdings (s.onCycle f) = holdings s := by
  simp [State.onCycle]

@[simp] theorem freeCycle_holdings : holdings (s.freeCycle) = holdings s := by
  dsimp only [State.freeCycle]
  (repeat' split) <;> simp

@[simp] theorem sampleOpenDone_holdings (c : SampleCycle) :
    holdings (s.sampleOpenDone c) = holdings s := by
  dsimp only [State.sampleOpenDone]
  (repeat' split) <;> simp

@[simp] theorem sampleOpenFailed_holdings (c : SampleCycle) :
    holdings (s.sampleOpenFailed c) = holdings s := by
  dsimp only [State.sampleOpenFailed]
  (repeat' split) <;> simp

@[simp] theorem closeSample_holdings (c : SampleCycle) :
    holdings (s.closeSample c) = holdings s := by
  dsimp only [State.closeSample]
  (repeat' split) <;> simp

@[simp] theorem sampleOver_holdings :
    holdings (s.sampleOver) = holdings s := by
  simp [State.sampleOver]

@[simp] theorem sampleResult_holdings (c : SampleCycle) (readings : Vector Nat 6) :
    holdings (s.sampleResult c readings) = holdings s := by
  dsimp only [State.sampleResult]
  (repeat' split) <;> simp

@[simp] theorem sampleLost_holdings (c : SampleCycle) : holdings (s.sampleLost c) = holdings s := by
  dsimp only [State.sampleLost]
  (repeat' split) <;> simp

@[simp] theorem sampleClosed_holdings : holdings (s.sampleClosed) = holdings s := by
  simp [State.sampleClosed]

@[simp] theorem sampleValveDone_holdings (i : StationId) (number : Nat) :
    holdings (s.sampleValveDone i number) = holdings s := by
  dsimp only [State.sampleValveDone]
  (repeat' split) <;> simp

@[simp] theorem sampleValveFailed_holdings (i : StationId) (number : Nat) :
    holdings (s.sampleValveFailed i number) = holdings s := by
  dsimp only [State.sampleValveFailed]
  (repeat' split) <;> simp

@[simp] theorem unblock_holdings (i : StationId) (sampleOpen : Bool) :
    holdings (s.unblock i sampleOpen) = holdings s := by
  dsimp only [State.unblock]
  (repeat' split) <;> simp

@[simp] theorem startSampleDone_holdings (number : Nat) (a : AnalyserAnswer) :
    holdings (s.startSampleDone number a) = holdings s := by
  dsimp only [State.startSampleDone]
  (repeat' split) <;> simp

@[simp] theorem startSampleFailed_holdings (number : Nat) :
    holdings (s.startSampleFailed number) = holdings s := by
  dsimp only [State.startSampleFailed]
  (repeat' split) <;> simp

/-! ## A bank's drain -/

@[simp] theorem enterCooling_holdings (bk : BankId) :
    holdings (s.enterCooling bk) = holdings s := by
  simp [State.enterCooling]

@[simp] theorem enterWarm_holdings (bk : BankId) : holdings (s.enterWarm bk) = holdings s := by
  dsimp only [State.enterWarm]
  (repeat' split) <;> simp

@[simp] theorem enterDefrost_holdings (bk : BankId) :
    holdings (s.enterDefrost bk) = holdings s := by
  dsimp only [State.enterDefrost]
  (repeat' split) <;> simp

@[simp] theorem enterDrainWait_holdings (bk : BankId) :
    holdings (s.enterDrainWait bk) = holdings s := by
  simp [State.enterDrainWait]

@[simp] theorem openDrain_holdings (bk : BankId) (k : SlotId) :
    holdings (s.openDrain bk k) = holdings s := by
  simp [State.openDrain]

@[simp] theorem raiseNoAgent_holdings (bk : BankId) :
    holdings (s.raiseNoAgent bk) = holdings s := by
  simp [State.raiseNoAgent]

@[simp] theorem testDrain_holdings (bk : BankId) : holdings (s.testDrain bk) = holdings s := by
  dsimp only [State.testDrain]
  (repeat' split) <;> simp

@[simp] theorem retestDrain_holdings (bk : BankId) : holdings (s.retestDrain bk) = holdings s := by
  dsimp only [State.retestDrain]
  (repeat' split) <;> simp

@[simp] theorem testWaiting_holdings : holdings (s.testWaiting) = holdings s := by
  dsimp only [State.testWaiting]
  (repeat' split) <;> simp

@[simp] theorem closeDrain_holdings (bk : BankId) : holdings (s.closeDrain bk) = holdings s := by
  simp [State.closeDrain]

@[simp] theorem endOpening_holdings (bk : BankId) : holdings (s.endOpening bk) = holdings s := by
  simp [State.endOpening]

@[simp] theorem setLastDrain_holdings (bk : BankId) : holdings (s.setLastDrain bk) = holdings s :=
  holdings_congr rfl rfl rfl

@[simp] theorem dropDrainSlot_holdings (bk : BankId) :
    holdings (s.dropDrainSlot bk) = holdings s := by
  dsimp only [State.dropDrainSlot]
  (repeat' split) <;> simp

@[simp] theorem changeDrain_holdings (k : SlotId) : holdings (s.changeDrain k) = holdings s := by
  dsimp only [State.changeDrain]
  (repeat' split) <;> simp

/-! ## The Vessel Table -/

@[simp] theorem vesselFilled_holdings (k : SlotId) : holdings (s.vesselFilled k) = holdings s := by
  dsimp only [State.vesselFilled]
  (repeat' split) <;> simp

@[simp] theorem bookVessel_holdings (k : SlotId) (d : Grams) :
    holdings (s.bookVessel k d) = holdings s := by
  dsimp only [State.bookVessel]
  (repeat' split) <;> simp

@[simp] theorem bookTrain_holdings (tag : Tag) (d : Grams) :
    holdings (s.bookTrain tag d) = holdings s := by
  dsimp only [State.bookTrain]
  (repeat' split) <;> simp

@[simp] theorem testOverfill_holdings (k : SlotId) : holdings (s.testOverfill k) = holdings s := by
  dsimp only [State.testOverfill]
  (repeat' split) <;> simp

@[simp] theorem writePlatform_holdings (readings : Vector Platform 12) (k : SlotId) :
    holdings (State.writePlatform readings s k) = holdings s := by
  simp [State.writePlatform]

@[simp] theorem takeBayReadings_holdings (a : BayAnswer) :
    holdings (s.takeBayReadings a) = holdings s := by
  simp [State.takeBayReadings]

@[simp] theorem vesselReady_holdings (cls : VesselClass) :
    holdings (s.vesselReady cls) = holdings s := by
  dsimp only [State.vesselReady]
  (repeat' split) <;> simp

/-! ## The Chamber Sequencer -/

@[simp] theorem onChamberUnit_holdings (f : UnitRecord → UnitRecord)
    (stands : ∀ r, Stands r (f r)) :
    holdings (s.onChamberUnit f) = holdings s := by
  dsimp only [State.onChamberUnit]
  split
  · exact onUnit_holdings _ f stands
  · rfl

@[simp] theorem handCabinet_holdings : holdings (s.handCabinet) = holdings s := by
  dsimp only [State.handCabinet]
  (repeat' split) <;> simp

@[simp] theorem writeLastFoam_holdings (tag : Tag) (g : Grams) :
    holdings (s.writeLastFoam tag g) = holdings s := by
  dsimp only [State.writeLastFoam]
  (repeat' split) <;> simp

@[simp] theorem recordFoam_holdings : holdings (s.recordFoam) = holdings s := by
  dsimp only [State.recordFoam]
  (repeat' split) <;> simp

@[simp] theorem beginPurge_holdings (repurge : Bool) :
    holdings (s.beginPurge repurge) = holdings s := by
  simp [State.beginPurge]

@[simp] theorem beginShred_holdings :
    holdings (s.beginShred) = holdings s := by
  simp [State.beginShred]

@[simp] theorem beginClear_holdings :
    holdings (s.beginClear) = holdings s := by
  simp [State.beginClear]

@[simp] theorem tryShred_holdings : holdings (s.tryShred) = holdings s := by
  dsimp only [State.tryShred]
  (repeat' split) <;> simp

@[simp] theorem pauseShred_holdings (o2 : Nat) : holdings (s.pauseShred o2) = holdings s := by
  simp [State.pauseShred]

@[simp] theorem faultChamberIn_holdings (p : ChamberPhase) :
    holdings (s.faultChamberIn p) = holdings s := by
  dsimp only [State.faultChamberIn]
  (repeat' split) <;> simp

@[simp] theorem faultChamber_holdings : holdings (s.faultChamber) = holdings s := by
  simp [State.faultChamber]

@[simp] theorem purgeTimedOut_holdings : holdings (s.purgeTimedOut) = holdings s := by
  simp [State.purgeTimedOut]

@[simp] theorem suspendChamber_holdings : holdings (s.suspendChamber) = holdings s := by
  dsimp only [State.suspendChamber]
  (repeat' split) <;> simp

@[simp] theorem bankLost_holdings : holdings (s.bankLost) = holdings s := by
  dsimp only [State.bankLost]
  (repeat' split) <;> simp

@[simp] theorem chamberOrderFailed_holdings (o : Order) :
    holdings (s.chamberOrderFailed o) = holdings s := by
  dsimp only [State.chamberOrderFailed]
  (repeat' split) <;> simp

@[simp] theorem chamberSilent_holdings : holdings (s.chamberSilent) = holdings s := by
  dsimp only [State.chamberSilent]
  (repeat' split) <;> simp

@[simp] theorem warnLel_holdings (lel : Nat) : holdings (s.warnLel lel) = holdings s := by
  dsimp only [State.warnLel]
  (repeat' split) <;> simp

@[simp] theorem testPause_holdings (o2 : Nat) : holdings (s.testPause o2) = holdings s := by
  dsimp only [State.testPause]
  (repeat' split) <;> simp

@[simp] theorem testHigh_holdings (inProgress : Bool) (o2 : Nat) :
    holdings (s.testHigh inProgress o2) = holdings s := by
  dsimp only [State.testHigh]
  (repeat' split) <;> simp

@[simp] theorem resetChamber_holdings : holdings s.resetChamber = holdings s := by
  dsimp only [State.resetChamber]
  split
  · split <;> simp
  · rename_i held
    have cleared : holdings (s.onChamber fun c => { Chamber.reset with feed := c.feed, readings := c.readings }) =
        holdings s :=
      chamber_holdings _ rfl (by simpa using held : s.chamber.unit = none).symm
    split
    · exact cleared
    · exact cleared

/-! ## The Condenser -/

@[simp] theorem hardTest_holdings (bk : BankId) : holdings (s.hardTest bk) = holdings s := by
  dsimp only [State.hardTest]
  (repeat' split) <;> simp

@[simp] theorem setPendingIf_holdings (bk : BankId) (trigger : Bool) :
    holdings (s.setPendingIf bk trigger) = holdings s := by
  simp [State.setPendingIf]

@[simp] theorem testHardLoad_holdings : holdings (s.testHardLoad) = holdings s := by
  dsimp only [State.testHardLoad]
  (repeat' split) <;> simp

@[simp] theorem endDefrost_holdings (bk : BankId) : holdings (s.endDefrost bk) = holdings s := by
  simp [State.endDefrost]

@[simp] theorem faultDrain_holdings (bk : BankId) : holdings (s.faultDrain bk) = holdings s := by
  simp [State.faultDrain]

@[simp] theorem takeDrain_holdings (d : Grams) : holdings (s.takeDrain d) = holdings s := by
  dsimp only [State.takeDrain]
  (repeat' split) <;> simp

@[simp] theorem coolTimedOut_holdings (bk : BankId) :
    holdings (s.coolTimedOut bk) = holdings s := by
  simp [State.coolTimedOut]

@[simp] theorem overrunDefrost_holdings (bk : BankId) :
    holdings (s.overrunDefrost bk) = holdings s := by
  simp [State.overrunDefrost]

@[simp] theorem startBank_holdings (bk : BankId) : holdings (s.startBank bk) = holdings s := by
  dsimp only [State.startBank]
  (repeat' split) <;> simp

@[simp] theorem startCondenser_holdings : holdings s.startCondenser = holdings s := by
  dsimp only [State.startCondenser]
  split
  · rfl
  · exact forAll_holdings _ _ fun _ _ => startBank_holdings _

@[simp] theorem redrain_holdings (bk : BankId) : holdings (s.redrain bk) = holdings s := by
  dsimp only [State.redrain]
  (repeat' split) <;> simp

@[simp] theorem emptyWindows_holdings : holdings (s.emptyWindows) = holdings s := by
  simp [State.emptyWindows]

/-! ## Line Control -/

@[simp] theorem withdrawCredits_holdings : holdings (s.withdrawCredits) = holdings s := by
  simp [State.withdrawCredits]

@[simp] theorem testStepEnd_holdings : holdings s.testStepEnd = holdings s := by
  dsimp only [State.testStepEnd]
  split <;> simp

@[simp] theorem resetTrain_holdings (t : TrainId) : holdings (s.resetTrain t) = holdings s := by
  dsimp only [State.resetTrain]
  (repeat' split) <;> simp

@[simp] theorem closeAllEntries_holdings : holdings s.closeAllEntries = holdings s := by
  simp [holdings, State.closeAllEntries, State.station, Function.comp_def, standing, UnitRecord.closeEntry]

@[simp] theorem resetLine_holdings :
    holdings (s.resetLine) = holdings s := by
  simp [State.resetLine]

@[simp] theorem resetBlocks_holdings : holdings (s.resetBlocks) = holdings s := by
  simp [State.resetBlocks]

/-! ## The Command Line -/

/-! ## The end of a hold (R21, R187) -/

/-! ## The Field Loop -/

@[simp] theorem removeOrder_holdings (o : Order) : holdings (s.removeOrder o) = holdings s := by
  simp [State.removeOrder]

@[simp] theorem acknowledge_holdings (o : Order) : holdings (s.acknowledge o) = holdings s := by
  dsimp only [State.acknowledge]
  simp

@[simp] theorem stationNodeFailed_holdings (i : StationId) (o : Order) :
    holdings (s.stationNodeFailed i o) = holdings s := by
  dsimp only [State.stationNodeFailed]
  (repeat' split) <;> simp

@[simp] theorem testDischarge_holdings (t : TrainId) (discharge : Nat) :
    holdings (s.testDischarge t discharge) = holdings s := by
  dsimp only [State.testDischarge]
  (repeat' split) <;> simp

@[simp] theorem takeDelta_holdings (t : TrainId) (d : Grams) :
    holdings (s.takeDelta t d) = holdings s := by
  dsimp only [State.takeDelta]
  (repeat' split) <;> simp

@[simp] theorem trainQuantities_holdings (t : TrainId) (before : TrainState) (a : TrainAnswer) :
    holdings (trainQuantities t before a s) = holdings s := by
  dsimp only [trainQuantities]
  (repeat' split) <;> simp

/-! ## Every command -/

end

end Sys2Proof.Proofs

namespace Sys2Proof.Proofs

open Sys2Proof Sys2Proof.Machine Sys2Proof.Laws

/-! ## Sound holdings -/

namespace Holdings

/-- Where the record of a tag stands. -/
def stands (H : Holdings) (tag : Tag) : Option (Tag × Option Place × Option StationId) :=
  H.records.find? fun x => x.1 == tag

/-- A tag is held by the feed queue, the chamber or a station. -/
def holds (H : Holdings) (tag : Tag) : Prop :=
  tag ∈ H.feed ∨ H.chamber = some tag ∨ ∃ i, H.station i = some tag

/-- `State.placesSound`, of the holdings alone. -/
def sound (H : Holdings) : Prop :=
  H.feed.Nodup ∧
    (∀ tag ∈ H.feed, ∃ x, H.stands tag = some x ∧ x.2.1 = some .queued) ∧
    (∀ i tag, H.station i = some tag →
      ∃ x, H.stands tag = some x ∧ x.2.1 = some .station ∧ x.2.2 = some i) ∧
    ∀ tag, H.chamber = some tag → ∃ x, H.stands tag = some x ∧ x.2.1 = some .chamber

/-- The records of a tag change place. -/
def move (H : Holdings) (tag : Tag) (g : Option Place × Option StationId → Option Place × Option StationId) :
    Holdings :=
  { H with records := H.records.map fun x => if x.1 == tag then (x.1, g x.2) else x }

/-- The head of the feed queue enters the chamber, and its record place CHAMBER (R122). -/
def takeHead (H : Holdings) (tag : Tag) (rest : List Tag) : Holdings where
  feed := rest
  chamber := some tag
  station := H.station
  records := (H.move tag fun x => (some .chamber, x.2)).records

/-- The records of a tag leave the register. -/
def without (H : Holdings) (tag : Tag) : Holdings :=
  { H with records := H.records.filter fun x => x.1 != tag }

theorem stands_move (H : Holdings) (tag other : Tag)
    (g : Option Place × Option StationId → Option Place × Option StationId) :
    (H.move tag g).stands other =
      if other = tag then (H.stands other).map fun x => (x.1, g x.2) else H.stands other := by
  unfold stands move
  dsimp only
  rw [List.find?_map]
  have key : ((fun x : Tag × Option Place × Option StationId => x.1 == other) ∘ fun x =>
      if x.1 == tag then (x.1, g x.2) else x) = fun x => x.1 == other := by
    funext x
    simp only [Function.comp_apply]
    split <;> rfl
  rw [key]
  cases found : H.records.find? fun x => x.1 == other with
  | none => simp
  | some x =>
    have tagged : x.1 = other := by simpa using List.find?_some found
    by_cases e : other = tag <;> simp [tagged, e]

theorem stands_takeHead (H : Holdings) (tag other : Tag) (rest : List Tag) :
    (H.takeHead tag rest).stands other =
      if other = tag then (H.stands other).map fun x => (x.1, some .chamber, x.2.2) else H.stands other :=
  stands_move H tag other fun x => (some .chamber, x.2)

theorem stands_without (H : Holdings) (tag other : Tag) (ne : other ≠ tag) :
    (H.without tag).stands other = H.stands other := by
  unfold stands without
  dsimp only
  rw [List.find?_filter]
  congr 1
  funext x
  by_cases e : x.1 = other
  · simp [e, ne]
  · simp [e]

/-- A record in no holder's place is held by none. -/
theorem not_holds {H : Holdings} (h : H.sound) {tag : Tag}
    {x : Tag × Option Place × Option StationId}
    (stood : H.stands tag = some x) (queued : x.2.1 ≠ some .queued) (station : x.2.1 ≠ some .station)
    (chamber : x.2.1 ≠ some .chamber) : ¬ H.holds tag := by
  obtain ⟨-, feeds, stations, chambers⟩ := h
  rintro (held | held | ⟨i, held⟩)
  · obtain ⟨y, e, place⟩ := feeds tag held
    exact queued (by rw [← Option.some_inj.mp (stood.symm.trans e)] at place; exact place)
  · obtain ⟨y, e, place⟩ := chambers tag held
    exact chamber (by rw [← Option.some_inj.mp (stood.symm.trans e)] at place; exact place)
  · obtain ⟨y, e, place, -⟩ := stations i tag held
    exact station (by rw [← Option.some_inj.mp (stood.symm.trans e)] at place; exact place)

/-- Sound holdings stay sound, and an empty feed queue empty. -/
structure Kept (H H' : Holdings) : Prop where
  sound : H.sound → H'.sound
  feed : H.feed = [] → H'.feed = []

theorem Kept.refl (H : Holdings) : Kept H H := ⟨id, id⟩

theorem Kept.trans {H H' H'' : Holdings} (h : Kept H H') (h' : Kept H' H'') : Kept H H'' :=
  ⟨h'.sound ∘ h.sound, h'.feed ∘ h.feed⟩

/-- Where no more is held than before, and the record of all that is held stands where it stood, the
holdings stay sound. -/
theorem kept_of_less {H H' : Holdings} (feed : H'.feed.Sublist H.feed)
    (chamber : ∀ tag, H'.chamber = some tag → H.chamber = some tag)
    (station : ∀ i tag, H'.station i = some tag → H.station i = some tag)
    (stands : H.sound → ∀ tag, H'.holds tag → H'.stands tag = H.stands tag) : Kept H H' where
  sound h := by
    have stands := stands h
    obtain ⟨nodup, feeds, stations, chambers⟩ := h
    refine ⟨nodup.sublist feed, fun tag held => ?_, fun i tag held => ?_, fun tag held => ?_⟩
    · rw [stands tag (.inl held)]
      exact feeds tag (feed.subset held)
    · rw [stands tag (.inr (.inr ⟨i, held⟩))]
      exact stations i tag (station i tag held)
    · rw [stands tag (.inr (.inl held))]
      exact chambers tag (chamber tag held)
  feed none := by rwa [none, List.sublist_nil] at feed

end Holdings

open Holdings

theorem stands_holdings (s : State) (tag : Tag) :
    (holdings s).stands tag = (s.findUnit tag).map standing := by
  unfold Holdings.stands holdings State.findUnit
  dsimp only
  rw [List.find?_map]
  rfl

theorem placesSound_iff (s : State) : s.placesSound ↔ (holdings s).sound := by
  unfold State.placesSound Holdings.sound
  simp only [stands_holdings, Option.map_eq_some_iff]
  refine and_congr_right fun _ => and_congr ?_ (and_congr ?_ ?_)
  · exact forall₂_congr fun _ _ =>
      ⟨fun ⟨r, found, place⟩ => ⟨_, ⟨r, found, rfl⟩, place⟩, fun ⟨_, ⟨r, found, rfl⟩, place⟩ => ⟨r, found, place⟩⟩
  · exact forall₃_congr fun _ _ _ =>
      ⟨fun ⟨r, found, place⟩ => ⟨_, ⟨r, found, rfl⟩, place⟩, fun ⟨_, ⟨r, found, rfl⟩, place⟩ => ⟨r, found, place⟩⟩
  · exact forall₂_congr fun _ _ =>
      ⟨fun ⟨r, found, place⟩ => ⟨_, ⟨r, found, rfl⟩, place⟩, fun ⟨_, ⟨r, found, rfl⟩, place⟩ => ⟨r, found, place⟩⟩

section
variable {H : Holdings} {s : State}

/-! ## Operations that change the holdings -/

/-- A write that moves a record. -/
theorem onUnit_move (tag : Tag) (f : UnitRecord → UnitRecord)
    (g : Option Place × Option StationId → Option Place × Option StationId)
    (moves : ∀ r, standing (f r) = (r.tag, g (r.place, r.station))) :
    holdings (s.onUnit tag f) = (holdings s).move tag g := by
  have records : (s.onUnit tag f).register.units.map standing =
      (s.register.units.map standing).map fun x => if x.1 == tag then (x.1, g x.2) else x := by
    rw [onUnit_register, List.map_map, List.map_map]
    refine List.map_congr_left fun r _ => ?_
    have tagged : (standing r).1 = r.tag := rfl
    simp only [Function.comp_apply, tagged]
    split
    · exact moves r
    · rfl
  unfold holdings Holdings.move
  rw [records]
  rfl

@[simp] theorem closeUnit_holdings (tag : Tag) (d : Disposition) :
    holdings (s.closeUnit tag d) = (holdings s).without tag := by
  have filtered : (s.register.units.filter fun r => r.tag != tag).map standing =
      (s.register.units.map standing).filter fun x => x.1 != tag := by
    rw [List.filter_map]
    rfl
  unfold State.closeUnit
  split
  · rename_i none
    have all : ∀ r ∈ s.register.units, r.tag ≠ tag := by
      simpa [State.findUnit] using none
    unfold Holdings.without holdings
    rw [← filtered, List.filter_eq_self.mpr fun r hr => by simpa using all r hr]
  · unfold State.placeClosed
    dsimp only
    have same : (holdings s).without tag = holdings { s with register :=
        { s.register with units := s.register.units.filter fun x => x.tag != tag } } := by
      unfold Holdings.without holdings
      rw [← filtered]
      rfl
    rw [same]
    (repeat' split) <;> simp <;> rfl

theorem closeUnit_blocks (tag : Tag) (d : Disposition) :
    (s.closeUnit tag d).chamber = s.chamber ∧ (s.closeUnit tag d).stations = s.stations := by
  unfold State.closeUnit State.placeClosed
  dsimp only
  (repeat' split) <;> simp [raise_quiet (show kindClass .closedLogFull ≠ .exigent by decide)]

/-- A record that no block holds moves to ATTRIBUTION or leaves. -/
theorem attributeOrClose_stands (tag other : Tag) (d : Disposition) (ne : other ≠ tag) :
    (holdings (s.attributeOrClose tag d)).stands other = (holdings s).stands other := by
  unfold State.attributeOrClose
  split
  · rfl
  · split
    · rw [closeUnit_holdings, stands_without _ _ _ ne]
    · rw [onUnit_move tag _ (fun x => (some .attribution, x.2)) fun r => rfl, stands_move, if_neg ne]

/-- A station that holds nothing any more. -/
theorem onStation_drops (i : StationId) (f : Station → Station)
    (unit : (f (s.station i)).unit = none) :
    Kept (holdings s) (holdings (s.onStation i f)) := by
  refine kept_of_less (.refl _) (fun _ => id) (fun j tag held => ?_) fun _ _ _ => rfl
  by_cases e : i = j
  · subst e
    simp [holdings, unit] at held
  · simpa [holdings, station_onStation_ne _ _ _ _ e] using held

@[simp] theorem unclamp_kept (i : StationId) (h : Kept H (holdings s)) :
    Kept H (holdings (s.unclamp i)) := by
  refine h.trans ?_
  have drops := onStation_drops (s := s.orderStation i .unclamp) i
    (fun x => { x with unit := none, unclamping := true, workOrder := some s.orderNumber }) rfl
  rwa [orderStation_holdings] at drops

@[simp] theorem emptyStation_kept (i : StationId) (h : Kept H (holdings s)) :
    Kept H (holdings (s.emptyStation i)) := h.trans (onStation_drops i _ rfl)

/-- A record in ATTRIBUTION closes. -/
theorem closeUnit_kept (tag : Tag) (d : Disposition) (r : UnitRecord)
    (found : s.findUnit tag = some r)
    (place : r.place = some .attribution) (h : Kept H (holdings s)) :
    Kept H (holdings (s.closeUnit tag d)) := by
  refine h.trans ?_
  rw [closeUnit_holdings]
  refine kept_of_less (.refl _) (fun _ => id) (fun _ _ => id) fun sound other held => ?_
  refine stands_without _ _ _ fun e => ?_
  subst e
  have stood : (holdings s).stands other = some (standing r) := by rw [stands_holdings, found]; rfl
  exact not_holds sound stood (by simp [standing, place]) (by simp [standing, place])
    (by simp [standing, place]) held

@[simp] theorem writeShare_kept (bk : BankId) (allZero : Bool) (w : Cabinet × Grams)
    (h : Kept H (holdings s)) : Kept H (holdings (s.writeShare bk allZero w)) := by
  have h : Kept H (holdings (s.onUnit w.1.tag fun r => r.takeShare bk w.2 (allZero || w.1.foam.isNone))) := by
    simpa using h
  dsimp only [State.writeShare]
  split
  · rename_i r found
    have tagged : r.tag = w.1.tag := by simpa using List.find?_some found
    split
    · rename_i leaves
      have place : r.place = some .attribution := by simp_all
      exact closeUnit_kept _ _ r (tagged ▸ found) place h
    · exact h
  · exact h

@[simp] theorem forAll_kept {α : Type} (items : List α) (f : State → α → State)
    (each : ∀ s x, Kept H (holdings s) → Kept H (holdings (f s x))) (h : Kept H (holdings s)) :
    Kept H (holdings (forAll items s f)) :=
  forAll_keeps (fun s => Kept H (holdings s)) f each items s h

@[simp] theorem apportion_kept (bk : BankId) (h : Kept H (holdings s)) :
    Kept H (holdings (s.apportion bk)) := by
  dsimp only [State.apportion]
  (repeat' split) <;> simp +contextual [h]

@[simp] theorem finishDrain_kept (bk : BankId) (h : Kept H (holdings s)) :
    Kept H (holdings (s.finishDrain bk)) := by
  dsimp only [State.finishDrain]
  split <;> simp [h]

@[simp] theorem confirmClose_kept (bk : BankId) (h : Kept H (holdings s)) :
    Kept H (holdings (s.confirmClose bk)) := by
  dsimp only [State.confirmClose]
  (repeat' split) <;> simp [h]

theorem takeHead_holdings (tag : Tag) (rest : List Tag) :
    holdings (s.takeHead tag rest) = (holdings s).takeHead tag rest := by
  have moved := onUnit_move (s := s.onChamber fun c => { c with feed := rest, unit := some tag }) tag
    (fun r => { r with place := some .chamber }) (fun x => (some .chamber, x.2)) fun _ => rfl
  refine Eq.trans ?_ moved
  simp [State.takeHead]

@[simp] theorem takeHead_kept (tag : Tag) (rest : List Tag) (queue : s.chamber.feed = tag :: rest)
    (h : Kept H (holdings s)) : Kept H (holdings (s.takeHead tag rest)) := by
  refine h.trans ⟨fun sound => ?_, fun none => ?_⟩
  · rw [takeHead_holdings]
    obtain ⟨nodup, feeds, stations, chambers⟩ := sound
    have feed : (holdings s).feed = tag :: rest := queue
    rw [feed] at nodup feeds
    obtain ⟨apart, nodup⟩ := List.nodup_cons.mp nodup
    obtain ⟨x, stood, place⟩ := feeds tag List.mem_cons_self
    have others : ∀ other, other ≠ tag →
        ((holdings s).takeHead tag rest).stands other = (holdings s).stands other := fun other ne => by
      rw [stands_takeHead, if_neg ne]
    refine ⟨nodup, fun other held => ?_, fun i other held => ?_, fun other held => ?_⟩
    · rw [others other fun e => apart (e ▸ held)]
      exact feeds other (List.mem_cons_of_mem _ held)
    · obtain ⟨y, stood', place', station⟩ := stations i other held
      rw [others other fun e => ?_]
      · exact ⟨y, stood', place', station⟩
      · rw [e, stood] at stood'
        cases stood'
        simp [place] at place'
    · cases held
      refine ⟨(x.1, some .chamber, x.2.2), ?_, rfl⟩
      rw [stands_takeHead, if_pos rfl, stood]
      rfl
  · have feed : (holdings s).feed = tag :: rest := queue
    simp [feed] at none

@[simp] theorem testChamber_kept (h : Kept H (holdings s)) : Kept H (holdings s.testChamber) := by
  have credit : s.spendChamberCredit.chamber = s.chamber := rfl
  dsimp only [State.testChamber]
  (repeat' split) <;> simp [*]

end
end Sys2Proof.Proofs

namespace Sys2Proof.Proofs

open Sys2Proof Sys2Proof.Machine Sys2Proof.Laws
open Holdings
section
variable {H : Holdings} {s : State}

@[simp] theorem tickStation_holdings (dt : Moment) (i : StationId) :
    holdings (s.tickStation dt i) = holdings s := by
  dsimp only [State.tickStation]
  split <;> simp

@[simp] theorem tickBank_holdings (dt : Moment) (bk : BankId) :
    holdings (s.tickBank dt bk) = holdings s := by
  dsimp only [State.tickBank]
  split <;> simp

theorem setNow_holdings (t : Moment) : holdings { s with now := t } = holdings s := rfl

@[simp] theorem advance_holdings (dt : Moment) : holdings (s.advance dt) = holdings s := by
  have clocks : holdings (forAll bankIds (forAll stationIds s (State.tickStation dt)) (State.tickBank dt)) =
      holdings s := by simp
  exact (setNow_holdings _).trans clocks

@[simp] theorem advanceTo_holdings (t : Moment) :
    holdings (s.advanceTo t) = holdings s := advance_holdings _

/-- Where the chamber gives up its unit, and the records of all other tags stand where they stood, the holdings
stay sound. -/
theorem kept_of_chamberLeft {t : State} (tag : Tag) (unit : s.chamber.unit = some tag)
    (feed : t.chamber.feed = s.chamber.feed) (left : t.chamber.unit = none)
    (stations : ∀ i, (t.station i).unit = (s.station i).unit)
    (stands : ∀ other, other ≠ tag → (holdings t).stands other = (holdings s).stands other) :
    Kept (holdings s) (holdings t) := by
  have feed : (holdings t).feed = (holdings s).feed := feed
  have station : (holdings t).station = (holdings s).station := funext stations
  have none : (holdings t).chamber = none := left
  refine kept_of_less (by rw [feed]) (fun other held => by simp [none] at held)
    (fun i other held => by rwa [station] at held) fun sound other held => stands other ?_
  rintro rfl
  obtain ⟨-, feeds, stationed, chambers⟩ := sound
  obtain ⟨x, stood, place⟩ := chambers other unit
  rcases held with held | held | ⟨i, held⟩
  · obtain ⟨y, e, place'⟩ := feeds other (feed ▸ held)
    rw [stood] at e
    cases e
    simp [place] at place'
  · simp [none] at held
  · obtain ⟨y, e, place', -⟩ := stationed i other (station ▸ held)
    rw [stood] at e
    cases e
    simp [place] at place'

theorem attributeOrClose_blocks (tag : Tag) (d : Disposition) :
    (s.attributeOrClose tag d).chamber = s.chamber ∧ (s.attributeOrClose tag d).stations = s.stations := by
  unfold State.attributeOrClose
  (repeat' split) <;> simp [closeUnit_blocks]

/-- The chamber is left, and its unit's record moves on (R127). -/
@[simp] theorem leaveClear_kept (h : Kept H (holdings s)) : Kept H (holdings s.leaveClear) := by
  refine h.trans ?_
  unfold State.leaveClear
  dsimp only
  split
  · rename_i tag unit
    obtain ⟨chamber, stations⟩ := attributeOrClose_blocks (s := s.onChamber fun c =>
      { c with phase := .idle, nextPhase := none, unit := none, clearEnd := none }) tag .complete
    refine kept_of_chamberLeft tag unit (by rw [chamber]; rfl) (by rw [chamber]; rfl)
      (fun i => by unfold State.station; rw [stations]; rfl) fun other ne => ?_
    rw [attributeOrClose_stands _ _ _ ne]
    rfl
  · rename_i none
    rw [chamber_holdings _ rfl none.symm]
    exact .refl _

@[simp] theorem endChamberPhase_kept (p : ChamberPhase) (h : Kept H (holdings s)) :
    Kept H (holdings (s.endChamberPhase p)) := by
  simp +contextual (maxDischargeDepth := 60) [State.endChamberPhase, h]

@[simp] theorem endAirlock_kept (h : Kept H (holdings s)) :
    Kept H (holdings (s.endAirlock)) := by
  dsimp only [State.endAirlock]
  (repeat' split) <;> simp +contextual (maxDischargeDepth := 60) [*]

@[simp] theorem endShred_kept (h : Kept H (holdings s)) :
    Kept H (holdings (s.endShred)) := by
  dsimp only [State.endShred]
  (repeat' split) <;> simp +contextual (maxDischargeDepth := 60) [*]

@[simp] theorem returnToShred_kept (h : Kept H (holdings s)) :
    Kept H (holdings (s.returnToShred)) := by
  dsimp only [State.returnToShred]
  (repeat' split) <;> simp +contextual (maxDischargeDepth := 60) [*]

@[simp] theorem endPurgePhase_kept (h : Kept H (holdings s)) :
    Kept H (holdings (s.endPurgePhase)) := by
  dsimp only [State.endPurgePhase]
  (repeat' split) <;> simp +contextual (maxDischargeDepth := 60) [*]

@[simp] theorem returnChamber_kept (h : Kept H (holdings s)) :
    Kept H (holdings (s.returnChamber)) := by
  dsimp only [State.returnChamber]
  (repeat' split) <;> simp +contextual (maxDischargeDepth := 60) [*]

@[simp] theorem bankCondenses_kept (h : Kept H (holdings s)) :
    Kept H (holdings (s.bankCondenses)) := by
  dsimp only [State.bankCondenses]
  (repeat' split) <;> simp +contextual (maxDischargeDepth := 60) [*]

@[simp] theorem chamberOrderDone_kept (o : Order) (h : Kept H (holdings s)) :
    Kept H (holdings (s.chamberOrderDone o)) := by
  dsimp only [State.chamberOrderDone]
  (repeat' split) <;> simp +contextual (maxDischargeDepth := 60) [*]

@[simp] theorem takeEmpty_kept (h : Kept H (holdings s)) :
    Kept H (holdings (s.takeEmpty)) := by
  dsimp only [State.takeEmpty]
  (repeat' split) <;> simp +contextual (maxDischargeDepth := 60) [*]

@[simp] theorem testPurgeEnd_kept (o2 : Nat) (h : Kept H (holdings s)) :
    Kept H (holdings (s.testPurgeEnd o2)) := by
  dsimp only [State.testPurgeEnd]
  (repeat' split) <;> simp +contextual (maxDischargeDepth := 60) [*]

@[simp] theorem takeChamberReadings_kept (before : Chamber) (r : ChamberReadings)
    (h : Kept H (holdings s)) :
    Kept H (holdings (s.takeChamberReadings before r)) := by
  dsimp only [State.takeChamberReadings]
  (repeat' split) <;> simp +contextual (maxDischargeDepth := 60) [*]

@[simp] theorem enterCondensing_kept (bk : BankId) (h : Kept H (holdings s)) :
    Kept H (holdings (s.enterCondensing bk)) := by
  simp +contextual (maxDischargeDepth := 60) [State.enterCondensing, h]

@[simp] theorem tryCondense_kept (bk : BankId) (h : Kept H (holdings s)) :
    Kept H (holdings (s.tryCondense bk)) := by
  dsimp only [State.tryCondense]
  (repeat' split) <;> simp +contextual (maxDischargeDepth := 60) [*]

@[simp] theorem swapBanks_kept (bk : BankId) (h : Kept H (holdings s)) :
    Kept H (holdings (s.swapBanks bk)) := by
  simp +contextual (maxDischargeDepth := 60) [State.swapBanks, h]

@[simp] theorem swapTest_kept (h : Kept H (holdings s)) :
    Kept H (holdings (s.swapTest)) := by
  dsimp only [State.swapTest]
  (repeat' split) <;> simp +contextual (maxDischargeDepth := 60) [*]

@[simp] theorem testTriggers_kept (h : Kept H (holdings s)) :
    Kept H (holdings (s.testTriggers)) := by
  dsimp only [State.testTriggers]
  (repeat' split) <;> simp +contextual (maxDischargeDepth := 60) [*]

@[simp] theorem enterCold_kept (bk : BankId) (h : Kept H (holdings s)) :
    Kept H (holdings (s.enterCold bk)) := by
  simp +contextual (maxDischargeDepth := 60) [State.enterCold, h]

@[simp] theorem loseBank_kept (bk : BankId) (h : Kept H (holdings s)) :
    Kept H (holdings (s.loseBank bk)) := by
  simp +contextual (maxDischargeDepth := 60) [State.loseBank, h]

@[simp] theorem faultBank_kept (bk : BankId) (h : Kept H (holdings s)) :
    Kept H (holdings (s.faultBank bk)) := by
  dsimp only [State.faultBank]
  (repeat' split) <;> simp +contextual (maxDischargeDepth := 60) [*]

@[simp] theorem bankOrderDone_kept (o : Order) (h : Kept H (holdings s)) :
    Kept H (holdings (s.bankOrderDone o)) := by
  dsimp only [State.bankOrderDone]
  (repeat' split) <;> simp +contextual (maxDischargeDepth := 60) [*]

@[simp] theorem bankOrderFailed_kept (o : Order) (h : Kept H (holdings s)) :
    Kept H (holdings (s.bankOrderFailed o)) := by
  dsimp only [State.bankOrderFailed]
  (repeat' split) <;> simp +contextual (maxDischargeDepth := 60) [*]

@[simp] theorem condenserSilent_kept (h : Kept H (holdings s)) :
    Kept H (holdings (s.condenserSilent)) := by
  simp +contextual (maxDischargeDepth := 60) [State.condenserSilent, h]

@[simp] theorem testTemperature_kept (bk : BankId) (t : Int) (h : Kept H (holdings s)) :
    Kept H (holdings (s.testTemperature bk t)) := by
  dsimp only [State.testTemperature]
  (repeat' split) <;> simp +contextual (maxDischargeDepth := 60) [*]

@[simp] theorem takeBank_kept (bk : BankId) (r : BankReading) (h : Kept H (holdings s)) :
    Kept H (holdings (s.takeBank bk r)) := by
  dsimp only [State.takeBank]
  (repeat' split) <;> simp +contextual (maxDischargeDepth := 60) [*]

@[simp] theorem takeInlet_kept (d : Grams) (h : Kept H (holdings s)) :
    Kept H (holdings (s.takeInlet d)) := by
  dsimp only [State.takeInlet]
  (repeat' split) <;> simp +contextual (maxDischargeDepth := 60) [*]

@[simp] theorem takeCondenserReadings_kept (a : CondenserAnswer) (h : Kept H (holdings s)) :
    Kept H (holdings (s.takeCondenserReadings a)) := by
  simp +contextual (maxDischargeDepth := 60) [State.takeCondenserReadings, h]

@[simp] theorem maxTimeReached_kept (bk : BankId) (h : Kept H (holdings s)) :
    Kept H (holdings (s.maxTimeReached bk)) := by
  simp +contextual (maxDischargeDepth := 60) [State.maxTimeReached, h]

@[simp] theorem resetBank_kept (bk : BankId) (h : Kept H (holdings s)) :
    Kept H (holdings (s.resetBank bk)) := by
  dsimp only [State.resetBank]
  (repeat' split) <;> simp +contextual (maxDischargeDepth := 60) [*]

@[simp] theorem resetCondenser_kept (h : Kept H (holdings s)) :
    Kept H (holdings (s.resetCondenser)) := by
  simp +contextual (maxDischargeDepth := 60) [State.resetCondenser, h]

@[simp] theorem lineEntered_kept (h : Kept H (holdings s)) :
    Kept H (holdings (s.lineEntered)) := by
  simp +contextual (maxDischargeDepth := 60) [State.lineEntered, h]

@[simp] theorem settleBlocks_kept (h : Kept H (holdings s)) :
    Kept H (holdings (s.settleBlocks)) := by
  simp +contextual (maxDischargeDepth := 60) [State.settleBlocks, h]

@[simp] theorem settingChanged_kept (name : SettingName) (h : Kept H (holdings s)) :
    Kept H (holdings (s.settingChanged name)) := by
  dsimp only [State.settingChanged]
  (repeat' split) <;> simp +contextual (maxDischargeDepth := 60) [*]

@[simp] theorem workDone_kept (i : StationId) (kind : OrderKind) (h : Kept H (holdings s)) :
    Kept H (holdings (s.workDone i kind)) := by
  dsimp only [State.workDone]
  (repeat' split) <;> simp +contextual (maxDischargeDepth := 60) [*]

@[simp] theorem stationOrderDone_kept (i : StationId) (o : Order) (oil : Grams)
    (h : Kept H (holdings s)) :
    Kept H (holdings (s.stationOrderDone i o oil)) := by
  have closed : holdings (s.onStation i fun x => x.closedByOrder o.number) = holdings s :=
    onStation_holdings i _ fun _ => rfl
  dsimp only [State.stationOrderDone]
  (repeat' split) <;> simp (maxDischargeDepth := 60) [closed, h]

@[simp] theorem stationNodeDone_kept (i : StationId) (a : StationAnswer) (o : Order)
    (h : Kept H (holdings s)) :
    Kept H (holdings (stationNodeDone i a s o)) := by
  dsimp only [stationNodeDone]
  (repeat' split) <;> simp +contextual (maxDischargeDepth := 60) [*]

@[simp] theorem stationQuantities_holdings (i : StationId) (before : Station) (a : StationAnswer) :
    holdings (stationQuantities i before a s) = holdings s := by
  simp [stationQuantities, Station.closedByAnswer]

@[simp] theorem orderFails_kept (o : Order) (h : Kept H (holdings s)) :
    Kept H (holdings (s.orderFails o)) := by
  dsimp only [State.orderFails]
  (repeat' split) <;> simp +contextual (maxDischargeDepth := 60) [*]

@[simp] theorem endFailed_kept (kind : ConditionKind) (o : Order) (h : Kept H (holdings s)) :
    Kept H (holdings (s.endFailed kind o)) := by
  simp +contextual (maxDischargeDepth := 60) [State.endFailed, h]

@[simp] theorem takeReport_kept (n : Node) (done : State → Order → State) (r : OrderReport)
    (ends : ∀ s o, Kept H (holdings s) → Kept H (holdings (done s o))) (h : Kept H (holdings s)) :
    Kept H (holdings (s.takeReport n done r)) := by
  dsimp only [State.takeReport]
  (repeat' split) <;> simp +contextual (maxDischargeDepth := 60) [*]

@[simp] theorem silenceCleared_kept (n : Node) (h : Kept H (holdings s)) :
    Kept H (holdings (s.silenceCleared n)) := by
  dsimp only [State.silenceCleared]
  (repeat' split) <;> simp +contextual (maxDischargeDepth := 60) [*]

@[simp] theorem takeAnswer_kept (n : Node) (moment : Moment) (reports : List OrderReport)
    (done : State → Order → State) (quantities : State → State)
    (ends : ∀ s o, Kept H (holdings s) → Kept H (holdings (done s o)))
    (reads : ∀ s, Kept H (holdings s) → Kept H (holdings (quantities s)))
    (h : Kept H (holdings s)) :
    Kept H (holdings (s.takeAnswer n moment reports done quantities)) := by
  dsimp only [State.takeAnswer]
  (repeat' split) <;> simp +contextual (maxDischargeDepth := 60) [*]

@[simp] theorem takeStation_kept (i : StationId) (a : StationAnswer) (h : Kept H (holdings s)) :
    Kept H (holdings (takeStation i a s)) := by
  simp +contextual (maxDischargeDepth := 60) [takeStation, h]

@[simp] theorem takeAnalyser_kept (a : AnalyserAnswer) (h : Kept H (holdings s)) :
    Kept H (holdings (takeAnalyser a s)) := by
  simp +contextual (maxDischargeDepth := 60) [takeAnalyser, h]

@[simp] theorem takeTrain_kept (t : TrainId) (a : TrainAnswer) (h : Kept H (holdings s)) :
    Kept H (holdings (takeTrain t a s)) := by
  simp +contextual (maxDischargeDepth := 60) [takeTrain, h]

@[simp] theorem takeBay_kept (a : BayAnswer) (h : Kept H (holdings s)) :
    Kept H (holdings (takeBay a s)) := by
  simp +contextual (maxDischargeDepth := 60) [takeBay, h]

@[simp] theorem takeChamber_kept (a : ChamberAnswer) (h : Kept H (holdings s)) :
    Kept H (holdings (takeChamber a s)) := by
  simp +contextual (maxDischargeDepth := 60) [takeChamber, h]

@[simp] theorem takeCondenser_kept (a : CondenserAnswer) (h : Kept H (holdings s)) :
    Kept H (holdings (takeCondenser a s)) := by
  simp +contextual (maxDischargeDepth := 60) [takeCondenser, h]

@[simp] theorem testGas_holdings (lel : Nat) : holdings (s.testGas lel) = holdings s := by
  dsimp only [State.testGas]
  (repeat' split) <;> simp

@[simp] theorem testStopInput_holdings (active doorOpen : Bool) :
    holdings (s.testStopInput active doorOpen) = holdings s := by
  dsimp only [State.testStopInput]
  split <;> simp

@[simp] theorem takeSafety_kept (a : SafetyAnswer) (h : Kept H (holdings s)) :
    Kept H (holdings (takeSafety a s)) := by
  simp +contextual (maxDischargeDepth := 60) [takeSafety, h]

@[simp] theorem ownerSilent_kept (n : Node) (h : Kept H (holdings s)) :
    Kept H (holdings (s.ownerSilent n)) := by
  dsimp only [State.ownerSilent]
  (repeat' split) <;> simp +contextual (maxDischargeDepth := 60) [*]

@[simp] theorem failBySilence_kept (o : Order) (h : Kept H (holdings s)) :
    Kept H (holdings (s.failBySilence o)) := by
  dsimp only [State.failBySilence]
  (repeat' split) <;> simp +contextual (maxDischargeDepth := 60) [*]

@[simp] theorem declareSilent_kept (n : Node) (h : Kept H (holdings s)) :
    Kept H (holdings (s.declareSilent n)) := by
  dsimp only [State.declareSilent]
  (repeat' split) <;> simp +contextual (maxDischargeDepth := 60) [*]

@[simp] theorem missAnswer_kept (n : Node) (moment : Moment) (h : Kept H (holdings s)) :
    Kept H (holdings (missAnswer n moment s)) := by
  dsimp only [missAnswer]
  (repeat' split) <;> simp +contextual (maxDischargeDepth := 60) [*]

@[simp] theorem pollNext_holdings (moment : Moment) :
    holdings (pollNext moment s) = holdings s := by
  have polled (k : Fin 17) (p : Option Poll) (u : State) :
      holdings { u with loop := { u.loop with nextPoll := k, lastPoll := p } } = holdings u := rfl
  exact (polled _ _ _).trans (advanceTo_holdings moment)

@[simp] theorem expire_kept (deadline : Option Moment) (f : State → State)
    (effect : ∀ s, Kept H (holdings s) → Kept H (holdings (f s))) (h : Kept H (holdings s)) :
    Kept H (holdings (s.expire deadline f)) := by
  dsimp only [State.expire]
  (repeat' split) <;> simp +contextual (maxDischargeDepth := 60) [*]

@[simp] theorem timeOutOrder_kept (number : Nat) (h : Kept H (holdings s)) :
    Kept H (holdings (timeOutOrder number s)) := by
  dsimp only [timeOutOrder]
  (repeat' split) <;> simp +contextual (maxDischargeDepth := 60) [*]

@[simp] theorem overtime_kept (i : StationId) (h : Kept H (holdings s)) :
    Kept H (holdings (overtime i s)) := by
  dsimp only [overtime]
  (repeat' split) <;> simp +contextual (maxDischargeDepth := 60) [*]

@[simp] theorem oilDeadlinePasses_kept (i : StationId) (h : Kept H (holdings s)) :
    Kept H (holdings (oilDeadlinePasses i s)) := by
  dsimp only [oilDeadlinePasses]
  (repeat' split) <;> simp +contextual (maxDischargeDepth := 60) [*]

@[simp] theorem purgeEndPasses_kept (t : TrainId) (h : Kept H (holdings s)) :
    Kept H (holdings (purgeEndPasses t s)) := by
  dsimp only [purgeEndPasses]
  (repeat' split) <;> simp +contextual (maxDischargeDepth := 60) [*]

@[simp] theorem tailEndPasses_kept (t : TrainId) (h : Kept H (holdings s)) :
    Kept H (holdings (tailEndPasses t s)) := by
  dsimp only [tailEndPasses]
  (repeat' split) <;> simp +contextual (maxDischargeDepth := 60) [*]

@[simp] theorem chamberPurgePasses_kept (h : Kept H (holdings s)) :
    Kept H (holdings (chamberPurgePasses s)) := by
  dsimp only [chamberPurgePasses]
  (repeat' split) <;> simp +contextual (maxDischargeDepth := 60) [*]

@[simp] theorem clearEndPasses_kept (h : Kept H (holdings s)) :
    Kept H (holdings (clearEndPasses s)) := by
  dsimp only [clearEndPasses]
  (repeat' split) <;> simp +contextual (maxDischargeDepth := 60) [*]

@[simp] theorem coolDeadlinePasses_kept (bk : BankId) (h : Kept H (holdings s)) :
    Kept H (holdings (coolDeadlinePasses bk s)) := by
  dsimp only [coolDeadlinePasses]
  (repeat' split) <;> simp +contextual (maxDischargeDepth := 60) [*]

@[simp] theorem maxTimePasses_kept (bk : BankId) (h : Kept H (holdings s)) :
    Kept H (holdings (maxTimePasses bk s)) := by
  dsimp only [maxTimePasses]
  (repeat' split) <;> simp +contextual (maxDischargeDepth := 60) [*]

@[simp] theorem defrostDeadlinePasses_kept (bk : BankId) (h : Kept H (holdings s)) :
    Kept H (holdings (defrostDeadlinePasses bk s)) := by
  dsimp only [defrostDeadlinePasses]
  (repeat' split) <;> simp +contextual (maxDischargeDepth := 60) [*]

@[simp] theorem drainDeadlinePasses_kept (bk : BankId) (h : Kept H (holdings s)) :
    Kept H (holdings (drainDeadlinePasses bk s)) := by
  dsimp only [drainDeadlinePasses]
  (repeat' split) <;> simp +contextual (maxDischargeDepth := 60) [*]

end
end Sys2Proof.Proofs

namespace Sys2Proof.Proofs

open Sys2Proof Sys2Proof.Machine Sys2Proof.Laws
open Holdings
section
variable {H : Holdings} {s : State}

@[simp] theorem setLine_holdings (l : LineState) : holdings (s.setLine l) = holdings s := by
  simp [State.setLine]

@[simp] theorem giveCredits_holdings : holdings s.giveCredits = holdings s := by
  simp [State.giveCredits]

@[simp] theorem doQueryUnit_holdings (tag : Nat) (final : Bool) :
    holdings (doQueryUnit tag final s) = holdings s := by
  dsimp only [doQueryUnit]
  (repeat' split) <;> simp

@[simp] theorem doTakeClosed_holdings (count : Nat) :
    holdings (doTakeClosed count s) = holdings s := by
  dsimp only [doTakeClosed]
  split
  · split
    · simp
    · exact holdings_congr rfl rfl rfl
  · simp

@[simp] theorem doSignatureDigest_holdings : holdings (doSignatureDigest s) = holdings s := by
  simp [doSignatureDigest]

@[simp] theorem doClearSignatures_holdings : holdings (doClearSignatures s) = holdings s := by
  dsimp only [doClearSignatures]
  split
  · simp
  · exact holdings_congr rfl rfl rfl

@[simp] theorem doLoadSignatures_holdings (rows : Nat) :
    holdings (doLoadSignatures rows s) = holdings s := by
  dsimp only [doLoadSignatures]
  (repeat' split) <;> simp

@[simp] theorem doResume_holdings (station : Nat) : holdings (doResume station s) = holdings s := by
  dsimp only [doResume]
  (repeat' split) <;> simp

@[simp] theorem doSetPaths_holdings (station : Nat) (trains : List Nat) :
    holdings (doSetPaths station trains s) = holdings s := by
  dsimp only [doSetPaths]
  split
  · split
    · simp
    · split
      · simp
      · exact holdings_congr rfl rfl rfl
  · simp

@[simp] theorem doTrainService_holdings (train : Nat) (intoService : Bool) :
    holdings (doTrainService train intoService s) = holdings s := by
  dsimp only [doTrainService]
  (repeat' split) <;> simp

@[simp] theorem doInsertVessel_holdings (slot id : Nat) (cls : VesselClass)
    (tare initial fill : Nat) :
    holdings (doInsertVessel slot id cls tare initial fill s) = holdings s := by
  dsimp only [doInsertVessel]
  (repeat' split) <;> simp

@[simp] theorem doCloseVessel_holdings (slot : Nat) :
    holdings (doCloseVessel slot s) = holdings s := by
  dsimp only [doCloseVessel]
  (repeat' split) <;> simp

@[simp] theorem doRemoveVessel_holdings (slot : Nat) :
    holdings (doRemoveVessel slot s) = holdings s := by
  dsimp only [doRemoveVessel]
  (repeat' split) <;> simp

@[simp] theorem doQueryVessel_holdings (slot : Nat) :
    holdings (doQueryVessel slot s) = holdings s := by
  dsimp only [doQueryVessel]
  (repeat' split) <;> simp

@[simp] theorem doBankService_holdings (bk : BankId) :
    holdings (doBankService bk s) = holdings s := by
  dsimp only [doBankService]
  (repeat' split) <;> simp

@[simp] theorem doQueryCondenser_holdings (bk : BankId) :
    holdings (doQueryCondenser bk s) = holdings s := by
  simp [doQueryCondenser]

@[simp] theorem doSetMasks_holdings (m : Masks) : holdings (doSetMasks m s) = holdings s := by
  simp [doSetMasks]

@[simp] theorem doReport_holdings : holdings (doReport s) = holdings s := by
  dsimp only [doReport]
  (repeat' split) <;> simp

@[simp] theorem doStop_holdings : holdings (doStop s) = holdings s := by
  dsimp only [doStop]
  (repeat' split) <;> simp

@[simp] theorem doSetWatch_holdings (tag : Nat) (phase : PhaseName) :
    holdings (doSetWatch tag phase s) = holdings s := by
  dsimp only [doSetWatch]
  (repeat' split) <;> simp

@[simp] theorem doClearWatch_holdings (which : WatchChoice) :
    holdings (doClearWatch which s) = holdings s := by
  simp [doClearWatch]

@[simp] theorem doStatus_holdings : holdings (doStatus s) = holdings s := by
  simp [doStatus]

@[simp] theorem doGetLimit_holdings (name : SettingName) :
    holdings (doGetLimit name s) = holdings s := by
  simp [doGetLimit]

@[simp] theorem doReset_holdings (kind : ResetKind) : holdings (doReset kind s) = holdings s := by
  simp [doReset]

@[simp] theorem takeRow_holdings (l : Load) (row : Option RowEntry) :
    holdings (s.takeRow l row) = holdings s := by
  dsimp only [State.takeRow]
  (repeat' split) <;> exact holdings_congr rfl rfl rfl

@[simp] theorem bufferLine_holdings (l : Line) : holdings (s.bufferLine l) = holdings s := by
  dsimp only [State.bufferLine]
  split
  · exact holdings_congr rfl rfl rfl
  · simp

@[simp] theorem doSwapBanks_kept (h : Kept H (holdings s)) :
    Kept H (holdings (doSwapBanks s)) := by
  dsimp only [doSwapBanks]
  (repeat' split) <;> simp (maxDischargeDepth := 60) [*]

@[simp] theorem doStart_kept (h : Kept H (holdings s)) :
    Kept H (holdings (doStart s)) := by
  dsimp only [doStart]
  (repeat' split) <;> simp (maxDischargeDepth := 60) [*]

@[simp] theorem doStep_kept (h : Kept H (holdings s)) :
    Kept H (holdings (doStep s)) := by
  dsimp only [doStep]
  (repeat' split) <;> simp (maxDischargeDepth := 60) [*]

@[simp] theorem doSetLimit_kept (name : SettingName) (v : Nat) (h : Kept H (holdings s)) :
    Kept H (holdings (doSetLimit name v s)) := by
  dsimp only [doSetLimit]
  (repeat' split) <;> simp (maxDischargeDepth := 60) [h]

@[simp] theorem lineResetAction_kept (h : Kept H (holdings s)) :
    Kept H (holdings (s.lineResetAction)) := by
  simp (maxDischargeDepth := 60) [State.lineResetAction, h]

/-! ## Commands that change what is held -/

/-- A closed record whose tag no block holds afterwards leaves sound holdings sound (R72, R118). -/
theorem kept_of_closed {t : State} (tag : Tag) (feed : t.chamber.feed.Sublist s.chamber.feed)
    (unit : t.chamber.unit = s.chamber.unit)
    (station : ∀ i other, (t.station i).unit = some other → (s.station i).unit = some other)
    (records : (holdings t).records = ((holdings s).without tag).records)
    (free : (holdings s).sound → ¬ (holdings t).holds tag) : Kept (holdings s) (holdings t) := by
  refine kept_of_less feed (fun other held => ?_) station fun sound other held => ?_
  · have e : (holdings t).chamber = (holdings s).chamber := unit
    rwa [e] at held
  · have ne : other ≠ tag := fun e => free sound (e ▸ held)
    rw [← stands_without (holdings s) tag other ne]
    unfold Holdings.stands
    rw [records]

/-- RETIRE closes the unit's record and takes the unit from its station (R72). -/
theorem retire_kept (i : StationId) (tag : Tag) (unit : (s.station i).unit = some tag) :
    Kept (holdings s) (holdings ((s.closeUnit tag .retired).unclamp i)) := by
  obtain ⟨chamber, stations⟩ := closeUnit_blocks (s := s) tag .retired
  have station (j : StationId) : (s.closeUnit tag .retired).station j = s.station j := by
    unfold State.station
    rw [stations]
  have others : ∀ j, ∀ other, (((s.closeUnit tag .retired).unclamp i).station j).unit = some other →
      j ≠ i ∧ (s.station j).unit = some other := by
    intro j other held
    by_cases e : i = j
    · subst e
      simp [State.unclamp] at held
    · refine ⟨Ne.symm e, ?_⟩
      unfold State.unclamp at held
      rw [station_onStation_ne _ _ _ _ e] at held
      rw [← station j]
      exact held
  refine kept_of_closed tag (by simp [State.unclamp, chamber]) (by simp [State.unclamp, chamber])
    (fun j other held => (others j other held).2) ?_ fun sound held => ?_
  · rw [← closeUnit_holdings tag .retired]
    rfl
  · obtain ⟨-, feeds, stationed, chambers⟩ := sound
    obtain ⟨x, stood, place, at_⟩ := stationed i tag unit
    have feed : ((s.closeUnit tag .retired).unclamp i).chamber = s.chamber := by
      simp [State.unclamp, chamber]
    rcases held with held | held | ⟨j, held⟩
    · obtain ⟨y, e, place'⟩ := feeds tag (by simpa [holdings, feed] using held)
      rw [stood] at e
      cases e
      simp [place] at place'
    · obtain ⟨y, e, place'⟩ := chambers tag (by simpa [holdings, feed] using held)
      rw [stood] at e
      cases e
      simp [place] at place'
    · obtain ⟨ne, held⟩ := others j tag held
      obtain ⟨y, e, -, at'⟩ := stationed j tag held
      rw [stood] at e
      cases e
      exact ne (Option.some_inj.mp (at'.symm.trans at_))

@[simp] theorem doRetire_kept (station : Nat) (h : Kept H (holdings s)) :
    Kept H (holdings (doRetire station s)) := by
  dsimp only [doRetire]
  (repeat' split) <;> simp [h]
  rename_i unit
  exact h.trans (retire_kept _ _ unit)

end
end Sys2Proof.Proofs

namespace Sys2Proof.Proofs

open Sys2Proof Sys2Proof.Machine Sys2Proof.Laws
open Holdings
section
variable {H : Holdings} {s : State}

/-! ## Withdrawal, abort, admission and release -/

/-- A unit of the feed queue leaves it with its record (R118). -/
theorem withdraw_kept (tag : Tag) (r : UnitRecord) (found : s.findInRegister tag = some r)
    (queued : r.place = some .queued) :
    Kept (holdings s) (holdings
      ((s.onChamber fun c => { c with feed := c.feed.filter (· != tag) }).closeUnit tag .withdrawn)) := by
  have open_ : s.findUnit tag = none ∨ s.findUnit tag = some r := by
    unfold State.findInRegister at found
    rw [List.find?_append] at found
    cases unit : s.findUnit tag with
    | none => exact .inl rfl
    | some r' =>
      unfold State.findUnit at unit
      rw [unit] at found
      exact .inr found
  have stood : ∀ x, (holdings s).stands tag = some x → x.2.1 = some .queued := by
    intro x e
    rw [stands_holdings] at e
    rcases open_ with none | some
    · simp [none] at e
    · rw [some] at e
      cases e
      exact queued
  rw [closeUnit_holdings]
  refine kept_of_less List.filter_sublist (fun _ => id) (fun _ _ => id) fun sound other held => ?_
  refine stands_without _ _ _ fun e => ?_
  subst e
  obtain ⟨-, -, stationed, chambers⟩ := sound
  rcases held with held | held | ⟨i, held⟩
  · simp [holdings, Holdings.without] at held
  · obtain ⟨x, e, place⟩ := chambers other held
    simp [stood x e] at place
  · obtain ⟨x, e, place, -⟩ := stationed i other held
    simp [stood x e] at place

@[simp] theorem doWithdrawFeed_kept (tag : Nat) (h : Kept H (holdings s)) :
    Kept H (holdings (doWithdrawFeed tag s)) := by
  dsimp only [doWithdrawFeed]
  split
  · simpa using h
  · split
    · simpa using h
    · rename_i r found
      split
      · simpa using h
      · rename_i queued
        rw [send_holdings]
        exact h.trans (withdraw_kept tag r found (by simpa using queued))

theorem abortUnit_blocks (tag : Tag) :
    (s.abortUnit tag).chamber = s.chamber ∧ (s.abortUnit tag).stations = s.stations :=
  attributeOrClose_blocks tag _

theorem abortUnit_stands (tag other : Tag) (ne : other ≠ tag) :
    (holdings (s.abortUnit tag)).stands other = (holdings s).stands other := by
  dsimp only [State.abortUnit]
  rw [attributeOrClose_stands _ _ _ ne]
  exact congrArg (fun H : Holdings => H.stands other) (onUnit_holdings tag _ fun r => rfl)

/-- The chamber is left by its abort (R131). -/
theorem abort_kept (tag : Tag) (unit : s.chamber.unit = some tag) {t : State}
    (chamber : t.chamber = (s.abortUnit tag).chamber) (same : holdings t = holdings (s.abortUnit tag))
    (f : Chamber → Chamber) (feed : ∀ c, (f c).feed = c.feed) (left : ∀ c, (f c).unit = none) :
    Kept (holdings s) (holdings (t.onChamber f)) := by
  obtain ⟨chamber', stations⟩ := abortUnit_blocks (s := s) tag
  refine kept_of_chamberLeft tag unit ?_ ?_ (fun i => ?_) fun other ne => ?_
  · rw [onChamber_chamber, feed, chamber, chamber']
  · exact left _
  · have e := congrFun (congrArg Holdings.station same) i
    have e' : (s.abortUnit tag).station i = s.station i := by
      unfold State.station
      rw [stations]
    exact e.trans (by rw [← e']; rfl)
  · have e : (holdings (t.onChamber f)).stands other = (holdings t).stands other := rfl
    rw [e, same, abortUnit_stands _ _ ne]

@[simp] theorem doAbortChamber_kept (h : Kept H (holdings s)) :
    Kept H (holdings (doAbortChamber s)) := by
  have chamber (u : State) (k : OrderKind) : (u.orderChamber k).chamber = u.chamber := rfl
  dsimp only [doAbortChamber]
  split
  · simpa using h
  · split
    · simpa using h
    · rw [send_holdings]
      refine testChamber_kept (h.trans ?_)
      split
      · rename_i tag unit
        refine abort_kept tag unit ?_ ?_ _ (fun _ => rfl) fun _ => rfl
        · split <;> rfl
        · split <;> simp
      · rename_i empty
        have cleared (u : State) (same : u.chamber = s.chamber) (same' : holdings u = holdings s) :
            Kept (holdings s) (holdings (u.onChamber fun c => { c with
              nitrogenOpen := false, phase := .idle, nextPhase := none, unit := none,
              faultedPhase := none, foamStart := none, emptyNoted := false })) := by
          rw [chamber_holdings _ rfl (by rw [same, empty]), same']
          exact .refl _
        refine cleared _ ?_ ?_
        · split <;> rfl
        · split <;> simp

/-- A record in place STATION is new in the register, and its station holds it (R15). -/
theorem sound_admit {H H' : Holdings} (tag : Tag) (i : StationId) (absent : H.stands tag = none)
    (feed : H'.feed = H.feed) (chamber : H'.chamber = H.chamber)
    (here : H'.station i = some tag) (others : ∀ j, j ≠ i → H'.station j = H.station j)
    (records : H'.records = H.records ++ [(tag, some .station, some i)]) (h : H.sound) : H'.sound := by
  have kept : ∀ other x, H.stands other = some x → H'.stands other = some x := by
    intro other x e
    unfold Holdings.stands at e ⊢
    rw [records, List.find?_append, e]
    rfl
  have added : H'.stands tag = some (tag, some .station, some i) := by
    unfold Holdings.stands at absent ⊢
    rw [records, List.find?_append, absent]
    simp
  obtain ⟨nodup, feeds, stations, chambers⟩ := h
  refine ⟨feed ▸ nodup, fun other held => ?_, fun j other held => ?_, fun other held => ?_⟩
  · obtain ⟨x, e, place⟩ := feeds other (feed ▸ held)
    exact ⟨x, kept other x e, place⟩
  · by_cases e : j = i
    · subst e
      cases here.symm.trans held
      exact ⟨_, added, rfl, rfl⟩
    · rw [others j e] at held
      obtain ⟨x, e, place⟩ := stations j other held
      exact ⟨x, kept other x e, place⟩
  · rw [chamber] at held
    obtain ⟨x, e, place⟩ := chambers other held
    exact ⟨x, kept other x e, place⟩

theorem doAdmit_sound (tag station : Nat) (refrigerant : Option RefrigerantClass)
    (foam : Option GasClass)
    (h : (holdings s).sound) : (holdings (doAdmit tag station refrigerant foam s)).sound := by
  dsimp only [doAdmit]
  split
  · simpa using h
  · rename_i i _
    split
    · simpa using h
    · split
      · simpa using h
      · rename_i new
        (repeat' split) <;> simp only [send_holdings, enterClamping_holdings, h]
        have absent : (holdings s).stands tag = none := by
          unfold State.findInRegister at new
          rw [Bool.not_eq_true, Option.isSome_eq_false_iff, Option.isNone_iff_eq_none, List.find?_append,
            Option.or_eq_none_iff] at new
          rw [stands_holdings]
          exact congrArg _ new.1
        refine sound_admit tag i absent rfl rfl ?_ (fun j ne => ?_) ?_ h
        · simp [holdings]
        · show ((_ : State).station j).unit = _
          rw [station_onStation_ne _ _ _ _ (Ne.symm ne)]
          rfl
        · exact List.map_append

/-- A unit leaves its station for the end of the feed queue, and its record with it (R70). -/
theorem sound_release {H H' : Holdings} (tag : Tag) (i : StationId) (unit : H.station i = some tag)
    (feed : H'.feed = H.feed ++ [tag]) (chamber : H'.chamber = H.chamber) (here : H'.station i = none)
    (others : ∀ j, j ≠ i → H'.station j = H.station j)
    (records : H'.records = (H.move tag fun _ => (some .queued, none)).records) (h : H.sound) :
    H'.sound := by
  have stands (other : Tag) : H'.stands other =
      if other = tag then (H.stands other).map fun x => (x.1, some .queued, none) else H.stands other := by
    rw [← stands_move H tag other fun _ => (some .queued, none)]
    unfold Holdings.stands
    rw [records]
  obtain ⟨nodup, feeds, stations, chambers⟩ := h
  obtain ⟨x, stood, place, at_⟩ := stations i tag unit
  have kept : ∀ other y, other ≠ tag → H.stands other = some y → H'.stands other = some y := by
    intro other y ne e
    rw [stands, if_neg ne, e]
  have apart : tag ∉ H.feed := fun held => by
    obtain ⟨y, e, place'⟩ := feeds tag held
    cases stood.symm.trans e
    simp [place] at place'
  refine ⟨?_, fun other held => ?_, fun j other held => ?_, fun other held => ?_⟩
  · rw [feed, List.nodup_append]
    simpa [nodup] using fun other held (e : other = tag) => apart (e ▸ held)
  · rw [feed, List.mem_append, List.mem_singleton] at held
    by_cases e : other = tag
    · subst e
      exact ⟨_, by rw [stands, if_pos rfl, stood]; rfl, rfl⟩
    · obtain ⟨y, e', place⟩ := feeds other (held.resolve_right e)
      exact ⟨y, kept other y e e', place⟩
  · by_cases e : j = i
    · subst e
      simp [here] at held
    · rw [others j e] at held
      obtain ⟨y, e', place', at'⟩ := stations j other held
      refine ⟨y, kept other y (fun same => ?_) e', place', at'⟩
      subst same
      cases stood.symm.trans e'
      exact e (Option.some_inj.mp (at'.symm.trans at_))
  · rw [chamber] at held
    obtain ⟨y, e', place'⟩ := chambers other held
    refine ⟨y, kept other y (fun same => ?_) e', place'⟩
    subst same
    cases stood.symm.trans e'
    simp [place] at place'

theorem doRelease_sound (station : Nat) (h : (holdings s).sound) :
    (holdings (doRelease station s)).sound := by
  dsimp only [doRelease]
  split
  · simpa using h
  · rename_i i _
    split
    · simpa using h
    · rename_i tag unit
      (repeat' split) <;> simp only [send_holdings, h]
      refine (testChamber_kept (.refl _)).sound
        (sound_release (H := holdings s) tag i unit rfl rfl ?_ (fun j ne => ?_) ?_ h)
      · simp [holdings, State.unclamp]
      · show ((_ : State).station j).unit = _
        unfold State.unclamp
        rw [station_onStation_ne _ _ _ _ (Ne.symm ne)]
        rfl
      · have moved := onUnit_move (s := s.joinFeed tag) tag
          (fun r => { r with place := some .queued, station := none }) (fun _ => (some .queued, none))
          fun _ => rfl
        exact (congrArg Holdings.records moved :)

/-! ## The clear reset -/

theorem dropUnits_chamber : s.dropUnits.chamber = { s.chamber with unit := none } :=
  congrArg (fun c : Chamber => { c with unit := none })
    (forAll_same State.chamber (fun s i => s.onStation i fun x => { x with unit := none })
      (fun _ _ => rfl) stationIds s)

theorem dropUnits_station (i : StationId) : (s.dropUnits.station i).unit = none := by
  have dropped : ∀ ids (u : State), i ∈ ids ∨ (u.station i).unit = none →
      ((forAll ids u fun s j => s.onStation j fun x => { x with unit := none }).station i).unit = none := by
    intro ids
    induction ids with
    | nil => simp
    | cons j ids ih =>
      intro u h
      rw [forAll_cons]
      refine ih _ ?_
      by_cases e : j = i
      · subst e
        simp
      · rw [station_onStation_ne _ _ _ _ e]
        exact h.imp_left fun h => (List.mem_cons.mp h).resolve_left (Ne.symm e)
  exact dropped stationIds s (.inl (mem_stationIds i))

theorem emptyTables_feed : s.emptyTables.chamber.feed = [] := rfl

/-- Nothing is held after a clear reset (R78, R117, R135). -/
theorem clearResetAction_sound : (holdings s.clearResetAction).sound := by
  have feed (u : State) : (u.emptyTables.resetChamber.emptyWindows).resetCondenser.chamber.feed = [] := by
    have kept := (resetCondenser_kept (.refl (holdings u.emptyTables.resetChamber.emptyWindows))).feed
    rw [emptyWindows_holdings, resetChamber_holdings] at kept
    exact kept (emptyTables_feed (s := u))
  have none_held (u : State) (empty : u.chamber.feed = []) : (holdings u.dropUnits).sound := by
    have feed' : (holdings u.dropUnits).feed = [] := by
      simp [holdings, dropUnits_chamber, empty]
    have chamber' : (holdings u.dropUnits).chamber = none := by
      simp [holdings, dropUnits_chamber]
    refine ⟨?_, fun tag held => ?_, fun i tag held => ?_, fun tag held => ?_⟩
    · simp [feed']
    · simp [feed'] at held
    · simp [holdings, dropUnits_station] at held
    · simp [chamber'] at held
  exact none_held _ (feed _)

/-! ## Commands, lines and the end of an event -/

theorem perform_sound (c : Command) (h : (holdings s).sound) : (holdings (perform c s)).sound := by
  have kept {t : State} (k : Kept (holdings s) (holdings s) → Kept (holdings s) (holdings t)) :
      (holdings t).sound := (k (.refl _)).sound h
  cases c with
  | admitUnit tag station r f => exact doAdmit_sound tag station r f h
  | release station => exact doRelease_sound station h
  | retire station => exact kept (doRetire_kept station)
  | withdrawFeed tag => exact kept (doWithdrawFeed_kept tag)
  | abortChamber => exact kept doAbortChamber_kept
  | swapBanks => exact kept doSwapBanks_kept
  | start => exact kept doStart_kept
  | step => exact kept doStep_kept
  | setLimit name v => exact kept (doSetLimit_kept name v)
  | _ => simpa [perform] using h

theorem takeLine_sound (l : Line) (h : (holdings s).sound) : (holdings (s.takeLine l)).sound := by
  unfold State.takeLine
  split
  · simpa using h
  · exact perform_sound _ h

theorem receive_sound (l : Line) (h : (holdings s).sound) : (holdings (s.receive l)).sound := by
  unfold State.receive
  split
  · exact takeLine_sound l h
  · simpa using h
  · simpa using h
  · simpa using h

theorem submit_sound (c : Command) (h : (holdings s).sound) : (holdings (submit c s)).sound := by
  unfold submit
  split
  · exact perform_sound c h
  · exact receive_sound _ h

theorem completeLine_sound (received : List RxChar) (h : (holdings s).sound) :
    (holdings (completeLine received s)).sound := by
  dsimp only [completeLine]
  split
  · exact h
  · exact receive_sound _ h

theorem takeBuffered_sound (h : (holdings s).sound) : (holdings s.takeBuffered).sound := by
  dsimp only [State.takeBuffered]
  split
  · simpa using h
  · exact takeLine_sound _ h

theorem answerHeld_sound (q : HeldQuery) (final : Bool) (h : (holdings s).sound) :
    (holdings (s.answerHeld q final)).sound :=
  takeBuffered_sound (by simpa using h)

theorem endHeld_sound (h : (holdings s).sound) : (holdings s.endHeld).sound := by
  unfold State.endHeld
  split
  · split
    · exact h
    · exact (settleBlocks_kept (.refl _)).sound (answerHeld_sound _ _ h)
  · exact h

theorem afterEvent_sound (h : (holdings s).sound) : (holdings s.afterEvent).sound :=
  endHeld_sound (endHeld_sound ((settleBlocks_kept (.refl _)).sound h))

theorem event_sound {f : State → State} (effect : (holdings s).sound → (holdings (f s)).sound)
    (h : (holdings s).sound) : (holdings (event f s)).sound := by
  unfold event
  split
  · exact h
  · exact afterEvent_sound (effect h)

theorem event_sound_of_kept {f : State → State}
    (effect : Kept (holdings s) (holdings s) → Kept (holdings s) (holdings (f s)))
    (h : (holdings s).sound) : (holdings (event f s)).sound :=
  event_sound (effect (.refl _)).sound h

theorem takeReset_sound (kind : ResetKind) (act : State → State)
    (effect : (holdings s).sound → (holdings (act s)).sound) (h : (holdings s).sound) :
    (holdings (s.takeReset kind act)).sound := by
  unfold State.takeReset
  split
  · exact takeBuffered_sound ((settleBlocks_kept (.refl _)).sound (effect h))
  · exact h

theorem expireHold_sound (h : (holdings s).sound) : (holdings (expireHold s)).sound := by
  unfold expireHold
  split
  · exact answerHeld_sound _ _ (by simpa using h)
  · exact h

end

/-! ## A step -/

theorem reset_sound : (holdings State.reset).sound := (placesSound_iff _).mp placesSound_reset

theorem exec_sound (i : Instr) {s t : State} (h : (holdings s).sound) (next : exec i s = .next t) :
    (holdings t).sound := by
  cases i <;> cases next
  case resetPinAsserted => exact h
  case powerOnReset => exact reset_sound
  case lineCompleted received => exact event_sound (completeLine_sound received) h
  case heldQueryExpiry => exact event_sound expireHold_sound h
  case sigRow row => exact event_sound (receive_sound row) h
  case lineReset =>
    exact event_sound (takeReset_sound .line _ (lineResetAction_kept (.refl _)).sound) h
  case clearReset =>
    exact event_sound (takeReset_sound .clear _ fun _ => clearResetAction_sound) h
  case stationAnswer i a => exact event_sound_of_kept (takeStation_kept i a) h
  case evacOvertime i => exact event_sound_of_kept (overtime_kept i) h
  case oilDeadline i => exact event_sound_of_kept (oilDeadlinePasses_kept i) h
  case trainAnswer t a => exact event_sound_of_kept (takeTrain_kept t a) h
  case trainPurgeEnd t => exact event_sound_of_kept (purgeEndPasses_kept t) h
  case trainTailExpiry t => exact event_sound_of_kept (tailEndPasses_kept t) h
  case bayAnswer a => exact event_sound_of_kept (takeBay_kept a) h
  case chamberAnswer a => exact event_sound_of_kept (takeChamber_kept a) h
  case purgeTimeout => exact event_sound_of_kept chamberPurgePasses_kept h
  case clearEnd => exact event_sound_of_kept clearEndPasses_kept h
  case condenserAnswer a => exact event_sound_of_kept (takeCondenser_kept a) h
  case bankCoolTimeout bk => exact event_sound_of_kept (coolDeadlinePasses_kept bk) h
  case bankMaxTime bk => exact event_sound_of_kept (maxTimePasses_kept bk) h
  case defrostOverrun bk => exact event_sound_of_kept (defrostDeadlinePasses_kept bk) h
  case drainDeadline bk => exact event_sound_of_kept (drainDeadlinePasses_kept bk) h
  case safetyAnswer a => exact event_sound_of_kept (takeSafety_kept a) h
  case poll moment => exact event_sound (fun h => by simpa using h) h
  case missedAnswer n moment => exact event_sound_of_kept (missAnswer_kept n moment) h
  case orderTimeout number => exact event_sound_of_kept (timeOutOrder_kept number) h
  case analyserAnswer a => exact event_sound_of_kept (takeAnalyser_kept a) h
  all_goals exact event_sound (submit_sound _) h

theorem step_placesSound {s t : State} (next : step s = .next t) (h : s.placesSound) :
    t.placesSound := by
  rw [placesSound_iff] at *
  unfold step at next
  split at next
  · cases next
    unfold State.idle
    split
    · exact h
    · simpa using h
  · rename_i c rest _
    exact exec_sound c (s := s.setPending rest) h next

theorem step_listsSound {s t : State} (next : step s = .next t) (h : ListsSound s) : ListsSound t :=
  step_keeps (fun _ _ ⟨stepOnly, watch, paths, requests, queue, feed⟩ =>
      ⟨stepOnly, watch, paths, requests, queue, feed⟩)
    (fun _ ⟨stepOnly, watch, paths, requests, queue, feed⟩ =>
      ⟨stepOnly, watch, paths, requests, queue, feed⟩)
    (fun _ => have ⟨stepOnly, watch, paths, requests, queue, feed⟩ := listsSound_reset
      ⟨stepOnly, watch, paths, requests, queue, feed⟩)
    (fun _ _ => listsSound_change) next h

/-- Settles O10: the lists, the banks and the order numbers are kept by every primitive change; the places,
which a command writes in several changes, by every command, answer and expiry as a whole. -/
theorem listsAndBanksStaySound : Obligations.ListsAndBanksStaySound := by
  refine ⟨⟨fun s t lists next => ?_, fun s t h next => step_placesSound next h.2⟩, fun s t h next => ?_⟩
  · obtain ⟨stepOnly, watch, paths, requests, queue, feed⟩ := lists
    obtain ⟨stepOnly, watch, paths, requests, queue, feed⟩ :=
      step_listsSound next ⟨stepOnly, watch, paths, requests, queue, feed⟩
    exact ⟨stepOnly, watch, paths, requests, queue, feed⟩
  · exact step_keeps (P := fun s => s.condenser.oneEach ∧ s.loop.numbersSound) (fun _ _ h => h)
      (fun _ h => h) (fun _ => ⟨oneEach_reset, numbersSound_reset⟩)
      (fun _ _ => banksAndNumbers_change) next h

end Sys2Proof.Proofs

namespace Sys2Proof.Proofs

open Sys2Proof Sys2Proof.Machine Sys2Proof.Laws

/-! ## ADMIT (O21) -/

theorem findInRegister_none (s : State) (tag : Tag) :
    s.findInRegister tag = none ↔ ∀ r ∈ s.register.units ++ s.register.closing, r.tag ≠ tag := by
  simp only [State.findInRegister, List.find?_eq_none, beq_iff_eq, ne_eq]

theorem setStation_setStation (s : State) (i : StationId) (x y : Station) :
    (s.setStation i x).setStation i y = s.setStation i y := by
  simp [State.setStation]

theorem onStation_onStation (s : State) (i : StationId) (f g : Station → Station) :
    (s.onStation i f).onStation i g = s.onStation i fun x => g (f x) := by
  unfold State.onStation
  rw [setStation_setStation, station_setStation]

/-- A station enters CLAMPING: the watch, and the CLAMP order (R52). -/
theorem enterClamping_eq (s v : State) (i : StationId)
    (entered : v = (s.onStation i fun x => { x with phase := .clamping, nextPhase := none }).watchEntry
      (i.val + 1) (s.station i).unit .clamping) :
    s.enterClamping i =
      (v.issue .stationController (.station i) .clamp).onStation i fun x =>
        { x with workOrder := some v.orderNumber } := by
  subst entered
  rfl

/-- An ADMIT that no row of its table refuses (R15, R16). -/
theorem doAdmit_accepted {s : State} {tag station : Nat} {i : StationId}
    (refrigerant : Option RefrigerantClass) (foam : Option GasClass) (at_ : stationOf station = some i)
    (tagged : tag ≠ 0) (new : s.findInRegister tag = none) (room : s.registerCount < Config.registerSize)
    (empty : (s.station i).phase = .empty) (heard : s.isSilent (.station i) = false)
    (running : s.halted = false) :
    doAdmit tag station refrigerant foam s =
      (((s.addUnit (UnitRecord.create tag i refrigerant foam)).onStation i fun x =>
        { x with unit := some tag }).enterClamping i).send
          [okLine .admitUnit (field "tag" (numText tag) ++ field "station" (stationText i))] := by
  simp [doAdmit, at_, tagged, new, Nat.not_le.mpr room, empty, heard, running]

/-- Settles O21: no refusal of R15 applies, and what is left is the entry to CLAMPING. -/
theorem admitCreatesTheRecordAndClamps : Obligations.AdmitCreatesTheRecordAndClamps := by
  intro s tag station i refrigerant foam takes at_ tagged new room empty heard running
  refine ⟨_, _, _, rfl, rfl, rfl, ?_⟩
  have executed := exec_rowFor (.admitUnit tag station refrigerant foam) s takes
  rw [perform, doAdmit_accepted refrigerant foam at_ tagged ((findInRegister_none s tag).mpr new) room empty
    heard (by simpa [State.halted] using running), enterClamping_eq _ _ i rfl, onStation_onStation,
    station_onStation] at executed
  rw [stationOf_some at_] at executed ⊢
  exact executed

end Sys2Proof.Proofs

namespace Sys2Proof.Proofs

open Sys2Proof Sys2Proof.Machine Sys2Proof.Laws

/-! ## QUERY-UNIT (O22) -/

theorem queriedUnit_eq (s : State) (tag : Tag) :
    s.queriedUnit tag = (((s.register.units ++ s.register.closing).find? fun x => x.tag == tag).or
      (s.register.log.reverse.find? fun x => x.tag == tag)) := by
  unfold State.queriedUnit State.findInRegister
  split
  · rename_i found
    rw [found]
    rfl
  · rename_i found
    rw [found]
    rfl

theorem queryReply_of_some {s : State} {tag : Tag} {r : UnitRecord}
    (found : s.queriedUnit tag = some r)
    (final : Bool) :
    s.queryReply tag final = okLine .queryUnit (field "final" (yesNo final) ++ r.allFields) := by
  rw [State.queryReply, found]

/-- Where the tags of the open records are distinct, a record is found by its tag. -/
theorem findUnit_of_mem {s : State} {r : UnitRecord} (mem : r ∈ s.register.units)
    (nodup : (s.register.units.map (·.tag)).Nodup) : s.findUnit r.tag = some r := by
  unfold State.findUnit
  generalize s.register.units = units at mem nodup
  induction units with
  | nil => cases mem
  | cons x xs ih =>
    rw [List.map_cons, List.nodup_cons] at nodup
    obtain ⟨apart, nodup⟩ := nodup
    rcases List.mem_cons.mp mem with rfl | mem
    · simp
    · have ne : x.tag ≠ r.tag := fun e => apart (e ▸ List.mem_map_of_mem mem)
      rw [List.find?_cons_of_neg (by simpa using ne)]
      exact ih mem nodup

theorem refrigerantOpen_iff (s : State) (tag : Tag) :
    s.refrigerantOpen tag = true ↔
      (∃ i, (s.station i).unit = some tag ∧ (s.station i).phase = .evacuate) ∨
        ∃ t, (s.train t).tag = some tag ∧ ((s.train t).state = .drawing ∨
          (s.train t).state = .waitVessel ∨ (s.train t).state = .tailing) := by
  simp only [State.refrigerantOpen, Bool.or_eq_true, List.any_eq_true, Bool.and_eq_true, beq_iff_eq,
    mem_stationIds, mem_trainIds, true_and]
  refine or_congr_right (exists_congr fun t => and_congr_right fun _ => ?_)
  cases (s.train t).state <;> simp

theorem shredInProgress_iff (c : Chamber) :
    c.shredInProgress = true ↔ c.nextPhase = none ∧ (c.phase = .shred ∨ c.phase = .clear ∨
      (c.phase = .purge ∧ c.repurge = true) ∨ (c.phase = .suspended ∧ c.returnPhase.isSome = true)) := by
  have boundary : (!c.atBoundary) = true ↔ c.nextPhase = none := by
    simp [Chamber.atBoundary]
  rw [Chamber.shredInProgress, Bool.and_eq_true, boundary]
  cases c.phase <;> simp

/-- Settles O22: the record is the one R17 names, and the open accumulations are read off the stations, the
trains and the chamber. -/
theorem queryUnitAnswersOrHolds : Obligations.QueryUnitAnswersOrHolds := by
  refine ⟨fun s tag final r takes found => ?_, fun s r mem nodup => ?_⟩
  · rw [← queriedUnit_eq] at found
    have executed := exec_rowFor (.queryUnit tag final) s takes
    rw [perform, doQueryUnit, found, Option.isSome_some, Bool.true_and, queryReply_of_some found] at executed
    refine ⟨fun now => ?_, fun held => ?_⟩
    · rw [now] at executed
      exact executed
    · rw [held] at executed
      exact executed
  · rw [State.openAccumulation, findUnit_of_mem mem nodup]
    simp only [Bool.or_eq_true, refrigerantOpen_iff, State.foamOpen, Bool.and_eq_true, beq_iff_eq,
      shredInProgress_iff]

/-! ## The expiry of a held query (O23) -/

/-- The state with the interface READY and nothing in its buffer. -/
def readied (s : State) : State := { s with link := { s.link with state := .ready, buffer := none } }

@[simp] theorem readied_resetPin (s : State) : (readied s).resetPin = s.resetPin := rfl

@[simp] theorem readied_state (s : State) : (readied s).link.state = .ready := rfl

@[simp] theorem readied_buffer (s : State) : (readied s).link.buffer = none := rfl

theorem takeBuffered_of_empty {s : State} (empty : s.link.buffer = none) :
    s.takeBuffered = readied s := by
  simp only [State.takeBuffered, setLink_link, empty, readied]
  rw [← empty]
  rfl

theorem takeBuffered_of_line {s : State} {l : Line} (waits : s.link.buffer = some l) :
    s.takeBuffered = (readied s).takeLine l := by
  simp only [State.takeBuffered, setLink_link, waits]
  rfl

theorem takeLine_of_framing {s : State} {l : Line} {f : FramingReply}
    (read : readLine l = .framing f) :
    s.takeLine l = s.send [framingLine f] := by
  rw [State.takeLine, read]

theorem takeLine_of_command {s : State} {l : Line} {c : Command} (read : readLine l = .command c) :
    s.takeLine l = perform c s := by
  rw [State.takeLine, read]

theorem exec_heldQueryExpiry {s : State} (runs : s.resetPin = false) :
    exec .heldQueryExpiry s = .next (expireHold s).afterEvent := by
  show Host.Outcome.next (event expireHold s) = _
  rw [event, runs]
  rfl

theorem expireHold_of_held {s : State} {q : HeldQuery} {r : UnitRecord}
    (held : s.link.state = .held q)
    (found : (s.advanceTo q.expiry).queriedUnit q.tag = some r) :
    expireHold s = ((s.advanceTo q.expiry).send
      [okLine .queryUnit (field "final" (ascii "no") ++ r.allFields)]).takeBuffered := by
  simp only [expireHold, held, State.answerHeld, queryReply_of_some found]
  rfl

/-- Settles O23: the reply is sent, and the interface goes on as R187 says. -/
theorem heldQueryExpiryAnswersNo : Obligations.HeldQueryExpiryAnswersNo := by
  intro s runs
  rw [exec_heldQueryExpiry runs]
  refine ⟨fun q r held found => ?_, fun none => ?_⟩
  · rw [expireHold_of_held held found]
    have link : (s.advanceTo q.expiry).link = s.link := advance_link ..
    have pin : (s.advanceTo q.expiry).resetPin = s.resetPin := advance_resetPin ..
    generalize s.advanceTo q.expiry = t at link pin
    rw [← link]
    refine ⟨readied (t.send [okLine .queryUnit (field "final" (ascii "no") ++ r.allFields)]), rfl,
      fun empty => ?_, fun l f waits read => ?_, fun l c waits read => ?_⟩
    · rw [takeBuffered_of_empty (s := t.send _) empty]
    · rw [takeBuffered_of_line (s := t.send _) waits, takeLine_of_framing read]
    · rw [takeBuffered_of_line (s := t.send _) waits, takeLine_of_command read,
        exec_rowFor c (readied (t.send _)) ⟨pin.trans runs, rfl⟩]
  · unfold expireHold
    split
    · rename_i q held
      exact absurd held (none q)
    · rfl

/-! ## TAKE-CLOSED (O24) -/

/-- The log after a TAKE-CLOSED, and its mark (R13, R14). -/
theorem register_take (u : UnitRegister) (n : Nat) :
    u.take n =
      { units := u.units
        closing := u.closing.drop (32 - (u.log.drop n).length)
        log := u.log.drop n ++ (u.closing.take (32 - (u.log.drop n).length)).map fun r => { r with place := none }
        logFull := u.logFull &&
          !decide ((u.log.drop n ++ u.closing.take (32 - (u.log.drop n).length)).length < 32 ∧
            u.closing.drop (32 - (u.log.drop n).length) = []) } := by
  have room : Config.logSize = 32 := rfl
  have moved : UnitRecord.intoLog = fun r => { r with place := none } := rfl
  have waiting (l : List UnitRecord) : l.isEmpty = decide (l = []) := by cases l <;> rfl
  simp only [UnitRegister.take, room, moved, List.length_append, List.length_map, Bool.decide_and, waiting]

theorem sentLine_eq :
    UnitRecord.sentLine = fun r =>
      sealLine (ascii "UNIT" ++ r.fields ++ optField "digest" (r.digest.map hex4)) := by
  funext r
  rw [UnitRecord.sentLine, UnitRecord.allFields, List.append_assoc]

/-- A TAKE-CLOSED with a count in its range (R24). -/
theorem doTakeClosed_inRange {s : State} {count : Nat} (low : 1 ≤ count) (high : count ≤ 4) :
    doTakeClosed count s =
      let sent := s.send (okLine .takeClosed (field "count" (numText (s.register.log.take count).length)) ::
        (s.register.log.take count).map UnitRecord.sentLine)
      if (s.register.log.take count).isEmpty then sent
      else { sent with register := s.register.take count } := by
  simp [doTakeClosed, low, high]

/-- Settles O24: what is taken is empty exactly where the log is. -/
theorem takeClosedEmptiesTheLogHead : Obligations.TakeClosedEmptiesTheLogHead := by
  intro s count takes low high
  have executed := exec_rowFor (.takeClosed count) s takes
  rw [perform, doTakeClosed_inRange low high] at executed
  refine ⟨_, _, _, _, rfl, rfl, rfl, rfl, fun some => ?_, fun none => ?_⟩
  · have taken : (s.register.log.take count).isEmpty = false := by
      simp [List.take_eq_nil_iff, some, Nat.ne_of_gt low]
    rw [taken] at executed
    rw [register_take, sentLine_eq] at executed
    exact executed
  · have zero : numText 0 = ascii "0" := by decide
    rw [none, List.take_nil, List.length_nil, zero] at executed
    exact executed

/-! ## Closing, opening an entry and booking (O25) -/

theorem hasOpenEntry_false {r : UnitRecord} (none : ∀ e ∈ r.allocations, e.isOpen = false) :
    r.hasOpenEntry = false := by
  simpa [UnitRecord.hasOpenEntry] using none

theorem addToOpen_first (d : Grams) (e : Allocation) (ys : List Allocation)
    (isOpen : e.isOpen = true)
    (xs : List Allocation) (closed : ∀ x ∈ xs, x.isOpen = false) :
    addToOpen d (xs ++ e :: ys) = xs ++ { e with grams := e.grams + d } :: ys := by
  induction xs with
  | nil => simp [addToOpen, isOpen]
  | cons x xs ih =>
    obtain ⟨first, rest⟩ := List.forall_mem_cons.mp closed
    simp [addToOpen, first, ih rest]

theorem addToLast_append (d : Grams) (e : Allocation) (xs : List Allocation) :
    addToLast d (xs ++ [e]) = xs ++ [{ e with grams := e.grams + d }] := by
  induction xs with
  | nil => rfl
  | cons x xs ih =>
    rw [List.cons_append, addToLast, ih]
    · rfl
    · simp

/-- The closed record's place: the log while it has room and nothing waits, else CLOSING (R12, R13). -/
theorem placeClosed_eq (s : State) (r : UnitRecord) :
    s.placeClosed r =
      if s.register.log.length < 32 ∧ s.register.closing = [] then
        { s with register := { s.register with log := s.register.log ++ [r] } }
      else
        let waits : State := { s with register := { s.register with
          closing := s.register.closing ++ [{ r with place := some .closing }], logFull := true } }
        if s.register.logFull then waits
        else waits.raise .closedLogFull .line { first := r.tag, second := none } := by
  have room : Config.logSize = 32 := rfl
  simp only [State.placeClosed, room, Bool.and_eq_true, decide_eq_true_eq, List.isEmpty_iff, one]

theorem closeUnit_of_found {s : State} {tag : Tag} {r : UnitRecord} (d : Disposition)
    (found : s.findUnit tag = some r) :
    s.closeUnit tag d = ({ s with register := { s.register with
      units := s.register.units.filter fun x => x.tag != tag } } : State).placeClosed (r.closed d) := by
  rw [State.closeUnit, found]

/-- Settles O25: a closed record goes where it fits, and an entry is opened or booked as the open one, else
the last. -/
theorem recordsOpenBookAndClose : Obligations.RecordsOpenBookAndClose := by
  refine ⟨fun s tag d r bare closed found bared sealed => ?_,
    fun r k id d => ⟨fun room => ?_, fun full => ?_, fun xs e ys entries others isOpen => ?_,
      fun xs e entries others => ?_, fun none => ?_⟩⟩
  · have tagged : r.tag = tag := by simpa using List.find?_some found
    have same : closed = r.closed d := by
      subst sealed bared
      rfl
    have tagged' : closed.tag = tag := by rw [same, closed_tag, tagged]
    rw [closeUnit_of_found d found, placeClosed_eq, ← same, tagged']
    refine ⟨fun fits => ?_, fun waits => ⟨_, rfl, ?_⟩⟩
    · rw [if_pos fits]
    · rw [if_neg waits]
  · exact if_neg (show ¬ 4 ≤ r.allocations.length from Nat.not_le.mpr room)
  · exact if_pos full
  · have nonempty : r.allocations.isEmpty = false := by simp [entries]
    have opened : r.hasOpenEntry = true := by simp [UnitRecord.hasOpenEntry, entries, isOpen]
    rw [UnitRecord.book, nonempty, opened, entries, if_pos rfl, addToOpen_first d e ys isOpen xs others]
    rfl
  · have nonempty : r.allocations.isEmpty = false := by simp [entries]
    rw [UnitRecord.book, nonempty, hasOpenEntry_false others, entries, addToLast_append]
    rfl
  · rw [UnitRecord.book, none]
    rfl

end Sys2Proof.Proofs

namespace Sys2Proof.Proofs

open Sys2Proof Sys2Proof.Machine Sys2Proof.Laws

/-! ## The end of an event (O4) -/

theorem stationKeepsCredit_iff (x : Station) :
    x.keepsCredit = true ↔ x.unit ≠ none ∧ x.phase ≠ .faulted ∧ x.phase ≠ .done := by
  simp only [Station.keepsCredit, Bool.and_eq_true, bne_iff_ne, Option.isSome_iff_ne_none, and_assoc]

theorem chamberKeepsCredit_iff (c : Chamber) :
    c.keepsCredit = true ↔ c.phase ≠ .faulted ∧ ¬ (c.phase = .idle ∧ c.feed = []) := by
  simp [Chamber.keepsCredit, Chamber.isIdleEmpty, imp_iff_not_or]

/-- The credits of R172, and no others, are withdrawn. -/
theorem withdrawCredits_eq (s : State) :
    s.withdrawCredits = s.setControl { s.control with
      credits := s.control.credits.filter fun i => decide ((s.station i).unit ≠ none ∧
        (s.station i).phase ≠ .faulted ∧ (s.station i).phase ≠ .done)
      chamberCredit := s.control.chamberCredit && decide (s.chamber.phase ≠ .faulted ∧
        ¬ (s.chamber.phase = .idle ∧ s.chamber.feed = [])) } := by
  simp only [← stationKeepsCredit_iff, ← chamberKeepsCredit_iff, Bool.decide_eq_true, State.withdrawCredits]

theorem stationAtRest_iff (x : Station) :
    x.atRest = true ↔ x.nextPhase ≠ none ∨
      x.phase ∈ [.empty, .faulted, .loaded, .done, .sampleWait, .trainWait] ∨
      x.phase = .evacuate ∧ (x.suspended = true ∨ x.awaitingVessel = true) := by
  rw [Station.atRest, Station.atBoundary, Bool.or_eq_true, Option.isSome_iff_ne_none]
  cases x.phase <;> simp

theorem chamberAtRest_iff (c : Chamber) :
    c.atRest = true ↔ c.nextPhase ≠ none ∨ c.phase ∈ [.idle, .faulted, .suspended] := by
  rw [Chamber.atRest, Chamber.atBoundary, Bool.or_eq_true, Option.isSome_iff_ne_none]
  cases c.phase <;> simp

/-- The step is over as R173 says. -/
theorem stepOver_iff (s : State) :
    s.stepOver ↔ s.control.line = .step ∧ s.control.credits = [] ∧ s.control.chamberCredit = false ∧
      (∀ i ∈ s.control.holders, (s.station i).nextPhase ≠ none ∨
        (s.station i).phase ∈ [.empty, .faulted, .loaded, .done, .sampleWait, .trainWait] ∨
        (s.station i).phase = .evacuate ∧
          ((s.station i).suspended = true ∨ (s.station i).awaitingVessel = true)) ∧
      (s.control.chamberHolder = true →
        s.chamber.nextPhase ≠ none ∨ s.chamber.phase ∈ [.idle, .faulted, .suspended]) := by
  simp only [State.stepOver, State.noCredits, State.holdersAtRest, Bool.and_eq_true, List.isEmpty_iff,
    Bool.not_eq_true', List.all_eq_true, Bool.or_eq_true, stationAtRest_iff, chamberAtRest_iff,
    Bool.eq_false_iff, ← imp_iff_not_or, and_assoc]

theorem testStepEnd_of_over {s : State} (done : s.stepOver) :
    s.testStepEnd = s.lineStop.raise .stepDone .line { first := 0, second := none } := by
  obtain ⟨line, credits, rest⟩ := done
  exact if_pos (by simp [line, credits, rest])

theorem testStepEnd_of_notOver {s : State} (on : ¬ s.stepOver) : s.testStepEnd = s := by
  refine if_neg fun done => on ?_
  simpa [State.stepOver, and_assoc] using done

theorem swapTest_of_notDue {s : State} (none : s.noSwapDue) : s.swapTest = s := by
  unfold State.swapTest
  split
  · rename_i bk condensing
    rw [none bk condensing]
    rfl
  · rfl

theorem noSwapDue_of_noneCondensing {s : State} (none : ∀ bk, (s.bank bk).state ≠ .condensing) :
    s.noSwapDue := by
  intro bk condensing
  exact absurd (by simpa using List.find?_some condensing) (none bk)

theorem withdrawCredits_of_kept {s : State} (kept : s.creditsKept) : s.withdrawCredits = s := by
  obtain ⟨stations, chamber⟩ := kept
  have credits : (s.control.credits.filter fun i => (s.station i).keepsCredit) = s.control.credits :=
    List.filter_eq_self.mpr stations
  have credit : (s.control.chamberCredit && s.chamber.keepsCredit) = s.control.chamberCredit := by
    cases held : s.control.chamberCredit with
    | false => rfl
    | true => exact chamber held
  rw [State.withdrawCredits, credits, credit]
  rfl

theorem settleBlocks_of_nothingDue {s : State} (none : s.nothingDue) : s.settleBlocks = s := by
  obtain ⟨swap, credits, step⟩ := none
  rw [State.settleBlocks, swapTest_of_notDue swap, withdrawCredits_of_kept credits, testStepEnd_of_notOver step]

/-- An event that leaves the held query's unit with an open accumulation, or no query held, ends no hold. -/
theorem endHeld_of_open {s : State}
    (open_ : ∀ q, s.link.state = .held q → s.openAccumulation q.tag = true) : s.endHeld = s := by
  unfold State.endHeld
  split
  · rename_i q held
    rw [if_pos (open_ q held)]
  · rfl

theorem attnLevel_eq (s : State) :
    s.attnLevel = (decide (∃ e ∈ s.monitor.entries, classEnabled s.monitor.masks (kindClass e.kind) = true) ||
      s.control.line == .halted) := by
  have any : s.monitor.entries.any (ConditionEntry.reportable s.monitor.masks) =
      decide (∃ e ∈ s.monitor.entries, classEnabled s.monitor.masks (kindClass e.kind) = true) := by
    rw [Bool.eq_iff_iff, List.any_eq_true, decide_eq_true_eq]
    rfl
  rw [State.attnLevel, any]
  rfl

/-- With nothing in the buffer, one look ends every hold that the event ends. -/
theorem afterEvent_of_noBuffer {s : State} (empty : s.link.buffer = none) :
    s.afterEvent = s.settleBlocks.endHeld.finish := by
  rw [State.afterEvent, endHold_of_noBuffer (by rw [settleBlocks_link, empty])]

/-- The end of an event that ends a hold: the state that the reply and the buffered line leave is settled as at
the end of an event of its own (R21, R187). -/
theorem afterEvent_of_ended {u v t : State} {q : HeldQuery} (settled : v = u.settleBlocks)
    (held : v.link.state = .held q) (shut : v.openAccumulation q.tag = false)
    (answered : v.answerHeld q true = t) (empty : t.link.buffer = none) : u.afterEvent = t.afterEvent := by
  have ended : v.endHeld = t.settleBlocks := by
    simp [State.endHeld, held, shut, answered]
  rw [afterEvent_of_noBuffer empty, State.afterEvent, State.endHold, ← settled, ended]

/-- Settles O4. -/
theorem eventEndSetsAttnAndEndsHolds : Obligations.EventEndSetsAttnAndEndsHolds := by
  refine ⟨⟨fun u w x ended swapped withdrawn ends => ?_, fun u none => ?_, fun u => settleBlocks_of_nothingDue,
    fun u v settled open_ => ?_⟩, fun u v q r settled held shut found => ?_⟩
  · rw [← withdrawCredits_eq] at withdrawn
    rw [← stepOver_iff] at ends
    have settled : u.settleBlocks = x.testStepEnd := by rw [withdrawn, swapped]; rfl
    rw [settled, ends]
    exact ⟨testStepEnd_of_over, testStepEnd_of_notOver⟩
  · exact swapTest_of_notDue (noSwapDue_of_noneCondensing none)
  · rw [State.afterEvent, ← settled, State.endHold, endHeld_of_open open_, endHeld_of_open open_, State.finish,
      attnLevel_eq]
  · have answered : v.answerHeld q true = (v.send
        [okLine .queryUnit (field "final" (ascii "yes") ++ r.allFields)]).takeBuffered := by
      rw [State.answerHeld, queryReply_of_some found]
      rfl
    refine ⟨readied (v.send [okLine .queryUnit (field "final" (ascii "yes") ++ r.allFields)]), rfl,
      fun empty => ?_, fun l f waits read => ?_, fun l c waits read runs => ?_⟩
    · rw [takeBuffered_of_empty (s := v.send _) empty] at answered
      exact afterEvent_of_ended settled held shut answered rfl
    · rw [takeBuffered_of_line (s := v.send _) waits, takeLine_of_framing read] at answered
      exact afterEvent_of_ended settled held shut answered rfl
    · rw [takeBuffered_of_line (s := v.send _) waits] at answered
      rw [exec_rowFor c (readied (v.send _)) ⟨runs, rfl⟩, ← takeLine_of_command read,
        afterEvent_of_ended settled held shut answered (takeLine_buffer l rfl)]

end Sys2Proof.Proofs

namespace Sys2Proof.Proofs

open Sys2Proof Sys2Proof.Machine Sys2Proof.Laws

/-! ## Refusal tables (O15) -/

/-- What a command comes to answers a refusal table: where a row holds, it is the reply with the reason of the
first one that does. -/
def Refuses (s t : State) (w : CommandWord) (table : List (Bool × Reason)) : Prop :=
  ∀ r, firstRefusal table = some r → t = s.send [noLine w r]

section
variable {s t : State} {w : CommandWord} {b : Bool} {reason : Reason} {table : List (Bool × Reason)}

theorem refuses_command {c : Command} (takes : s.takesCommand)
    (h : Refuses s (perform c s) w table) :
    s.refuses (rowFor c) w table :=
  refuses_of_perform c s takes w table h

theorem refuses_nil : Refuses s t w [] := nofun

/-- The first row holds. -/
theorem refuses_now (holds : b = true) :
    Refuses s (s.send [noLine w reason]) w ((b, reason) :: table) := by
  intro r first
  rw [firstRefusal, if_pos holds] at first
  cases first
  rfl

/-- The first row does not hold. -/
theorem refuses_next (fails : b = false) (rest : Refuses s t w table) :
    Refuses s t w ((b, reason) :: table) := by
  intro r first
  rw [firstRefusal, if_neg (by simp [fails])] at first
  exact rest r first

/-- The command tests what the first row says. -/
theorem refuses_test {p : Prop} [Decidable p] (same : b = true ↔ p)
    (rest : ¬ p → Refuses s t w table) :
    Refuses s (if p then s.send [noLine w reason] else t) w ((b, reason) :: table) := by
  by_cases h : p
  · rw [if_pos h]
    exact refuses_now (same.mpr h)
  · rw [if_neg h]
    exact refuses_next (Bool.eq_false_iff.mpr fun holds => h (same.mp holds)) (rest h)

end

theorem station_outOfRange (n : Nat) : (n == 0 || decide (8 < n)) = (stationOf n).isNone := by
  rw [Bool.eq_iff_iff, Option.isNone_iff_eq_none, stationOf_none]
  simp

theorem train_outOfRange (n : Nat) : (n == 0 || decide (4 < n)) = (trainOf n).isNone := by
  rw [Bool.eq_iff_iff, Option.isNone_iff_eq_none, trainOf_none]
  simp

theorem slot_outOfRange (n : Nat) : (n == 0 || decide (12 < n)) = (slotOf n).isNone := by
  rw [Bool.eq_iff_iff, Option.isNone_iff_eq_none, slotOf_none]
  simp

theorem findInRegister_isSome (s : State) (tag : Tag) :
    (s.findInRegister tag).isSome = (s.register.units ++ s.register.closing).any fun r => r.tag == tag := by
  rw [State.findInRegister, List.isSome_find?]

theorem halted_iff (s : State) : (s.control.line == .halted) = s.halted := rfl

section
variable {s : State}

/-! ### Units (R15, R17, R24, R70, R72, R73, R118) -/

theorem doAdmit_refuses (tag station : Nat) (r : Option RefrigerantClass) (f : Option GasClass) :
    Refuses s (doAdmit tag station r f s) .admitUnit
      [(tag == 0 || station == 0 || 8 < station, .range),
        ((s.register.units ++ s.register.closing).any fun r => r.tag == tag, .duplicate),
        (48 ≤ s.register.units.length + s.register.closing.length, .full),
        ((stationOf station).any fun i => (s.station i).phase != .empty, .stationBusy),
        ((stationOf station).any fun i => (s.node (.station i)).silent, .nodeSilent),
        (s.control.line == .halted, .lineHalted)] := by
  rw [doAdmit, Bool.or_assoc, station_outOfRange]
  cases stationOf station with
  | none => exact refuses_now (by simp)
  | some i =>
    refine refuses_test (by simp) fun _ => refuses_test ?_ fun _ => refuses_test ?_ fun _ => refuses_test ?_ fun _ =>
      refuses_test ?_ fun _ => refuses_test ?_ fun _ => refuses_nil
    · rw [findInRegister_isSome]
    · exact decide_eq_true_iff
    · rfl
    · rfl
    · rfl

theorem doQueryUnit_refuses (tag : Nat) (final : Bool) :
    Refuses s (doQueryUnit tag final s) .queryUnit
      [(!(s.register.units ++ s.register.closing ++ s.register.log).any fun r => r.tag == tag,
        .noSuchUnit)] := by
  have isSome : (s.queriedUnit tag).isSome =
      (s.register.units ++ s.register.closing ++ s.register.log).any fun r => r.tag == tag := by
    rw [queriedUnit_eq, Option.isSome_or, List.isSome_find?, List.isSome_find?, List.any_reverse,
      List.any_append (xs := _ ++ _)]
  rw [← isSome, doQueryUnit]
  cases found : s.queriedUnit tag with
  | none =>
    rw [State.queryReply, found]
    exact refuses_now rfl
  | some r => exact refuses_next rfl refuses_nil

theorem doTakeClosed_refuses (count : Nat) :
    Refuses s (doTakeClosed count s) .takeClosed [(count == 0 || 4 < count, .range)] := by
  rw [doTakeClosed]
  split
  · rename_i fits
    simp only [Bool.and_eq_true, decide_eq_true_eq] at fits
    exact refuses_next (by simp; omega) refuses_nil
  · rename_i out
    simp only [Bool.and_eq_true, decide_eq_true_eq] at out
    exact refuses_now (by simp; omega)

theorem doRelease_refuses (station : Nat) :
    Refuses s (doRelease station s) .release
      [(station == 0 || 8 < station, .range),
        ((stationOf station).any fun i =>
          (s.station i).phase != .done || (s.station i).unit.isNone, .wrongState),
        ((stationOf station).any fun i => (s.node (.station i)).silent, .nodeSilent),
        (6 ≤ s.chamber.feed.length, .queueFull)] := by
  rw [doRelease, station_outOfRange]
  cases stationOf station with
  | none => exact refuses_now rfl
  | some i =>
    refine refuses_next rfl ?_
    dsimp only
    cases unit : (s.station i).unit with
    | none => exact refuses_now (by simp [unit])
    | some tag =>
      exact refuses_test (by simp [unit]) fun _ => refuses_test Iff.rfl fun _ =>
        refuses_test decide_eq_true_iff fun _ => refuses_nil

theorem doRetire_refuses (station : Nat) :
    Refuses s (doRetire station s) .retire
      [(station == 0 || 8 < station, .range),
        ((stationOf station).any fun i =>
          ((s.station i).phase != .done && (s.station i).phase != .faulted) ||
            ((s.station i).phase == .done && (s.station i).unit.isNone) ||
            (s.station i).unclamping || (s.station i).train.isSome ||
            !(s.station i).unsecured.isEmpty, .wrongState),
        ((stationOf station).any fun i => (s.node (.station i)).silent, .nodeSilent)] := by
  rw [doRetire, station_outOfRange]
  cases stationOf station with
  | none => exact refuses_now rfl
  | some i =>
    refine refuses_next rfl (refuses_test ?_ fun _ => refuses_test Iff.rfl fun _ => refuses_nil)
    rw [Option.any_some, Station.retireBlocked, Bool.not_or, Station.isSecured]
    rfl

theorem doResume_refuses (station : Nat) :
    Refuses s (doResume station s) .resume
      [(station == 0 || 8 < station, .range),
        (s.control.line == .halted, .lineHalted),
        ((stationOf station).any fun i =>
          (s.station i).phase != .faulted || (s.station i).unit.isNone ||
            (s.station i).train.isSome || !(s.station i).unsecured.isEmpty, .wrongState),
        ((stationOf station).any fun i => (s.node (.station i)).silent, .nodeSilent)] := by
  rw [doResume, station_outOfRange]
  cases stationOf station with
  | none => exact refuses_now rfl
  | some i =>
    exact refuses_next rfl (refuses_test Iff.rfl fun _ => refuses_test Iff.rfl fun _ =>
      refuses_test Iff.rfl fun _ => refuses_nil)

theorem doWithdrawFeed_refuses (tag : Nat) :
    Refuses s (doWithdrawFeed tag s) .withdrawFeed
      [(tag == 0, .range),
        (!(s.register.units ++ s.register.closing).any fun r => r.tag == tag, .noSuchUnit),
        ((s.findInRegister tag).any fun r => r.place != some .queued, .wrongState)] := by
  rw [doWithdrawFeed, ← findInRegister_isSome]
  refine refuses_test beq_iff_eq fun _ => ?_
  cases s.findInRegister tag with
  | none => exact refuses_now rfl
  | some r => exact refuses_next rfl (refuses_test Iff.rfl fun _ => refuses_nil)

/-! ### Tables and vessels (R44, R48, R82, R93, R107, R109, R110, R113) -/

theorem doLoadSignatures_refuses (rows : Nat) :
    Refuses s (doLoadSignatures rows s) .loadSignatures
      [(rows == 0 || 16 < rows, .range),
        (s.control.line != .stopped || stationIds.any fun i => (s.station i).phase == .sampling,
          .wrongState)] := by
  refine refuses_test ?_ fun _ => refuses_test Iff.rfl fun _ => refuses_nil
  simp

theorem doClearSignatures_refuses :
    Refuses s (doClearSignatures s) .clearSignatures
      [(s.control.line != .stopped || stationIds.any fun i => (s.station i).phase == .sampling,
        .wrongState)] :=
  refuses_test Iff.rfl fun _ => refuses_nil

theorem noRepeats_eq_decide {α : Type} [DecidableEq α] (l : List α) :
    noRepeats l = decide l.Nodup := by
  induction l with
  | nil => rfl
  | cons x xs ih => simp [noRepeats, ih]

/-- A path's trains are those numbered in the command. -/
theorem pathOf_some {ns : List Nat} {ts : List TrainId} (h : pathOf ns = some ts) :
    ns = ts.map fun t => t.val + 1 := by
  induction ns generalizing ts with
  | nil =>
    cases h
    rfl
  | cons n ns ih =>
    rw [pathOf] at h
    split at h
    · rename_i t rest first others
      cases h
      rw [List.map_cons, ← ih others, ← trainOf_some first]
    · cases h

theorem pathOf_isNone (ns : List Nat) :
    (pathOf ns).isNone = ns.any fun n => n == 0 || decide (4 < n) := by
  induction ns with
  | nil => rfl
  | cons n ns ih =>
    rw [List.any_cons, ← ih, train_outOfRange, pathOf]
    cases trainOf n <;> cases pathOf ns <;> rfl

theorem doSetPaths_refuses (station : Nat) (trains : List Nat) :
    Refuses s (doSetPaths station trains s) .setPaths
      [(station == 0 || 8 < station || trains.isEmpty || 4 < trains.length ||
          (trains.any fun n => n == 0 || 4 < n) || !decide trains.Nodup, .range),
        (s.control.line != .stopped, .wrongState)] := by
  rw [doSetPaths, station_outOfRange, ← pathOf_isNone]
  cases stationOf station with
  | none => exact refuses_now (by simp)
  | some i =>
    cases path : pathOf trains with
    | none => exact refuses_now (by simp)
    | some ts =>
      obtain rfl := pathOf_some path
      have distinct : (ts.map fun t => t.val + 1).Nodup ↔ ts.Nodup :=
        List.nodup_map_iff fun _ _ e => Fin.ext (Nat.succ.inj e)
      refine refuses_test ?_ fun _ => refuses_test Iff.rfl fun _ => refuses_nil
      simp [noRepeats_eq_decide, distinct]

theorem doTrainService_refuses (train : Nat) (intoService : Bool) :
    Refuses s (doTrainService train intoService s) .trainService
      [(train == 0 || 4 < train, .range),
        ((trainOf train).any fun t =>
          if intoService then
            (s.train t).state != .outOfService && (s.train t).state != .faulted
          else (s.train t).state != .idle && (s.train t).state != .faulted, .wrongState),
        (intoService && (trainOf train).any fun t => (s.node (.train t)).silent, .nodeSilent)] := by
  rw [doTrainService, train_outOfRange]
  cases trainOf train with
  | none => exact refuses_now rfl
  | some t =>
    refine refuses_next rfl (refuses_test ?_ fun _ => refuses_test Iff.rfl fun _ => refuses_nil)
    cases intoService <;> simp

theorem doInsertVessel_refuses (slot id : Nat) (cls : VesselClass) (tare initial fill : Nat) :
    Refuses s (doInsertVessel slot id cls tare initial fill s) .insertVessel
      [(slot == 0 || 12 < slot, .noSuchSlot),
        (id == 0 || fill ≤ initial, .range),
        ((slotOf slot).any fun k => (s.slot k).vessel.isSome, .slotBusy),
        ((slotOf slot).any fun k => slotIds.any fun j =>
          j != k && (s.slot j).vessel.any fun v => v.id == id, .duplicate),
        ((s.node .bay).silent, .nodeSilent),
        ((slotOf slot).any fun k => !(s.slot k).platform.any fun p => p.present, .notPresent)] := by
  have elsewhere (k : SlotId) : s.vesselElsewhere k id =
      slotIds.any fun j => j != k && (s.slot j).vessel.any fun v => v.id == id := by
    unfold State.vesselElsewhere
    congr 1
    funext j
    cases (s.slot j).vessel <;> rfl
  have present (k : SlotId) : s.isPresent k = (s.slot k).platform.any fun p => p.present := by
    unfold State.isPresent
    cases (s.slot k).platform <;> rfl
  rw [doInsertVessel, slot_outOfRange]
  cases slotOf slot with
  | none => exact refuses_now rfl
  | some k =>
    refine refuses_next rfl (refuses_test (by simp) fun _ => refuses_test Iff.rfl fun _ =>
      refuses_test ?_ fun _ => refuses_test Iff.rfl fun _ => refuses_test ?_ fun _ => refuses_nil)
    · rw [elsewhere]
      rfl
    · rw [present]
      rfl

theorem doCloseVessel_refuses (slot : Nat) :
    Refuses s (doCloseVessel slot s) .closeVessel
      [(slot == 0 || 12 < slot, .noSuchSlot),
        ((slotOf slot).any fun k => (s.slot k).vessel.isNone, .wrongState)] := by
  rw [doCloseVessel, slot_outOfRange]
  cases slotOf slot with
  | none => exact refuses_now rfl
  | some k =>
    refine refuses_next rfl ?_
    dsimp only
    cases vessel : (s.slot k).vessel with
    | none => exact refuses_now (by simp [vessel])
    | some v => exact refuses_next (by simp [vessel]) refuses_nil

theorem hasFeeders_eq (s : State) (k : SlotId) :
    s.hasFeeders k = ((trainIds.any fun t => (s.train t).slot == some k) ||
      bankIds.any fun bk => (s.bank bk).drainSlot == some k) := by
  have nonempty {α : Type} (l : List α) (p : α → Bool) : (!(l.filter p).isEmpty) = l.any p := by
    rw [Bool.eq_iff_iff, Bool.not_eq_true', List.isEmpty_eq_false_iff, List.any_eq_true]
    simp
  rw [State.hasFeeders, State.trainFeeders, State.bankFeeders, nonempty, nonempty]

theorem doRemoveVessel_refuses (slot : Nat) :
    Refuses s (doRemoveVessel slot s) .removeVessel
      [(slot == 0 || 12 < slot, .noSuchSlot),
        ((slotOf slot).any fun k =>
          !(s.slot k).vessel.any fun v => v.state != .filling, .wrongState),
        ((slotOf slot).any fun k =>
          (trainIds.any fun t => (s.train t).slot == some k) ||
            bankIds.any fun bk => (s.bank bk).drainSlot == some k, .feeding),
        ((s.node .bay).silent, .nodeSilent)] := by
  rw [doRemoveVessel, slot_outOfRange]
  cases slotOf slot with
  | none => exact refuses_now rfl
  | some k =>
    refine refuses_next rfl ?_
    dsimp only
    cases vessel : (s.slot k).vessel with
    | none => exact refuses_now (by simp [vessel])
    | some v =>
      refine refuses_test (by simp [vessel]) fun _ => refuses_test ?_ fun _ => refuses_test Iff.rfl fun _ =>
        refuses_nil
      rw [hasFeeders_eq]
      rfl

theorem doQueryVessel_refuses (slot : Nat) :
    Refuses s (doQueryVessel slot s) .queryVessel [(slot == 0 || 12 < slot, .noSuchSlot)] := by
  rw [doQueryVessel, slot_outOfRange]
  cases slotOf slot with
  | none => exact refuses_now rfl
  | some k => exact refuses_next rfl refuses_nil

/-! ### The line, the chamber and the condenser (R131, R151, R152, R170, R171, R175, R179) -/

theorem doAbortChamber_refuses :
    Refuses s (doAbortChamber s) .abortChamber
      [(s.control.line == .halted, .lineHalted),
        (s.chamber.phase != .faulted || s.chamber.readings.any fun r => r.running, .wrongState)] := by
  refine refuses_test Iff.rfl fun _ => refuses_test ?_ fun _ => refuses_nil
  rw [Chamber.shredderRuns]
  cases s.chamber.readings <;> rfl

theorem doBankService_refuses (bk : BankId) :
    Refuses s (doBankService bk s) .bankService
      [((s.bank bk).state != .faulted || (s.bank bk).drainSlot.isSome, .wrongState),
        ((s.node .condenser).silent, .nodeSilent)] :=
  refuses_test Iff.rfl fun _ => refuses_test Iff.rfl fun _ => refuses_nil

theorem doSwapBanks_refuses :
    Refuses s (doSwapBanks s) .swapBanks
      [(bankIds.all fun bk => (s.bank bk).state != .condensing, .wrongState)] := by
  have none : (bankIds.all fun bk => (s.bank bk).state != .condensing) = s.condensing.isNone := by
    rw [State.condensing, Bool.eq_iff_iff, Option.isNone_iff_eq_none, List.find?_eq_none, List.all_eq_true]
    simp
  rw [none, doSwapBanks]
  cases s.condensing with
  | none => exact refuses_now rfl
  | some bk => exact refuses_next rfl refuses_nil

theorem doStart_refuses :
    Refuses s (doStart s) .start
      [(s.control.line == .step, .wrongState), (s.control.line == .halted, .lineHalted)] := by
  rw [doStart]
  cases s.control.line with
  | stopped | run => exact refuses_next rfl (refuses_next rfl refuses_nil)
  | step => exact refuses_now rfl
  | halted => exact refuses_next rfl (refuses_now rfl)

theorem doStop_refuses : Refuses s (doStop s) .stop [(s.control.line == .halted, .lineHalted)] := by
  rw [doStop]
  cases s.control.line with
  | stopped | run | step => exact refuses_next rfl refuses_nil
  | halted => exact refuses_now rfl

theorem doStep_refuses :
    Refuses s (doStep s) .step
      [(s.control.line == .run || s.control.line == .step, .wrongState),
        (s.control.line == .halted, .lineHalted)] := by
  rw [doStep]
  cases s.control.line with
  | stopped => exact refuses_next rfl (refuses_next rfl refuses_nil)
  | run | step => exact refuses_now rfl
  | halted => exact refuses_next rfl (refuses_now rfl)

theorem doSetWatch_refuses (tag : Nat) (phase : PhaseName) :
    Refuses s (doSetWatch tag phase s) .setWatch
      [(tag == 0 || phase == .empty || phase == .idle, .range),
        (s.control.watch.any fun w => w.tag == tag && w.phase == phase, .duplicate),
        (4 ≤ s.control.watch.length, .full)] := by
  refine refuses_test ?_ fun _ => refuses_test ?_ fun _ => refuses_test decide_eq_true_iff fun _ => refuses_nil
  · cases phase <;> simp [isWatchPhase]
  · rw [List.contains_iff_mem, List.any_eq_true]
    constructor
    · rintro ⟨⟨t, p⟩, mem, same⟩
      simp only [Bool.and_eq_true, beq_iff_eq] at same
      obtain ⟨rfl, rfl⟩ := same
      exact mem
    · exact fun mem => ⟨_, mem, by simp⟩

theorem doSetLimit_refuses (name : SettingName) (value : Nat) :
    Refuses s (doSetLimit name value s) .setLimit
      [(s.control.line == .halted, .lineHalted),
        (s.control.line == .run || s.control.line == .step, .wrongState),
        (value < settingLow s.limits name || settingHigh s.limits name < value, .range)] := by
  rw [doSetLimit]
  cases s.control.line with
  | halted => exact refuses_now rfl
  | run | step => exact refuses_next rfl (refuses_now rfl)
  | stopped =>
    refine refuses_next rfl (refuses_next rfl ?_)
    dsimp only
    split
    · rename_i fits
      simp only [Bool.and_eq_true, decide_eq_true_eq] at fits
      exact refuses_next (by simp; omega) refuses_nil
    · rename_i out
      simp only [Bool.and_eq_true, decide_eq_true_eq] at out
      exact refuses_now (by simp; omega)

end

/-- Settles O15: each command's tests are the rows of its table, in their order. -/
theorem commandsAreRefusedInOrder : Obligations.CommandsAreRefusedInOrder := by
  refine ⟨fun s takes => ⟨?_, ?_, ?_, ?_, ?_, ?_, ?_⟩, fun s takes => ⟨?_, ?_, ?_, ?_, ?_, ?_, ?_, ?_⟩,
    fun s takes => ⟨?_, ?_, ?_, ?_, ?_, ?_, ?_, ?_⟩⟩
  · exact fun tag station r f => refuses_command (c := .admitUnit ..) takes (doAdmit_refuses tag station r f)
  · exact fun tag final => refuses_command (c := .queryUnit ..) takes (doQueryUnit_refuses tag final)
  · exact fun count => refuses_command (c := .takeClosed _) takes (doTakeClosed_refuses count)
  · exact fun station => refuses_command (c := .release _) takes (doRelease_refuses station)
  · exact fun station => refuses_command (c := .retire _) takes (doRetire_refuses station)
  · exact fun station => refuses_command (c := .resume _) takes (doResume_refuses station)
  · exact fun tag => refuses_command (c := .withdrawFeed _) takes (doWithdrawFeed_refuses tag)
  · exact fun rows => refuses_command (c := .loadSignatures _) takes (doLoadSignatures_refuses rows)
  · exact refuses_command (c := .clearSignatures) takes doClearSignatures_refuses
  · exact fun station trains =>
      refuses_command (c := .setPaths ..) takes (doSetPaths_refuses station trains)
  · exact fun train intoService =>
      refuses_command (c := .trainService ..) takes (doTrainService_refuses train intoService)
  · exact fun slot id cls tare initial fill =>
      refuses_command (c := .insertVessel ..) takes (doInsertVessel_refuses slot id cls tare initial fill)
  · exact fun slot => refuses_command (c := .closeVessel _) takes (doCloseVessel_refuses slot)
  · exact fun slot => refuses_command (c := .removeVessel _) takes (doRemoveVessel_refuses slot)
  · exact fun slot => refuses_command (c := .queryVessel _) takes (doQueryVessel_refuses slot)
  · exact refuses_command (c := .abortChamber) takes doAbortChamber_refuses
  · exact fun bk => refuses_command (c := .bankService _) takes (doBankService_refuses bk)
  · exact refuses_command (c := .swapBanks) takes doSwapBanks_refuses
  · exact refuses_command (c := .start) takes doStart_refuses
  · exact refuses_command (c := .stop) takes doStop_refuses
  · exact refuses_command (c := .step) takes doStep_refuses
  · exact fun tag phase => refuses_command (c := .setWatch ..) takes (doSetWatch_refuses tag phase)
  · exact fun name value => refuses_command (c := .setLimit ..) takes (doSetLimit_refuses name value)

end Sys2Proof.Proofs

namespace Sys2Proof.Proofs

open Sys2Proof Sys2Proof.Machine Sys2Proof.Laws

/-! ## The evacuation valve (R58) -/

/-- The conditions of R58, of a station that a train serves. -/
theorem openEvac_eq {s : State} {i : StationId} {t : TrainId}
    (served : (s.station i).train = some t) :
    s.openEvac i =
      if (s.station i).phase = .evacuate ∧ (s.station i).evacValve = .closed ∧ (s.train t).state = .drawing ∧
          (s.station i).suspended = false ∧ (s.station i).awaitingVessel = false ∧ s.control.line ≠ .halted then
        (s.issue .stationController (.station i) (.evacValve true)).setStation i
          { s.station i with evacValve := .opening, evacOrder := some s.orderNumber }
      else s := by
  have draws : s.trainDraws i = ((s.train t).state == .drawing) := by rw [State.trainDraws, served]
  simp only [State.openEvac, draws, State.halted, Bool.and_eq_true, beq_iff_eq, Bool.not_eq_true',
    beq_eq_false_iff_ne, and_assoc]
  rfl

/-! ## The train that a grant takes (R84, R85) -/

theorem eligible_iff (s : State) (i : StationId) (risk : Bool) (t : TrainId) :
    s.eligible i risk t = true ↔ t ∈ s.arbiter.paths.get i ∧ (s.train t).state = .idle ∧
      (s.node (.train t)).silent = false ∧ (risk = true → t.val < 2) := by
  simp only [State.eligible, State.isSilent, flammableRated, Bool.and_eq_true, beq_iff_eq, Bool.not_eq_true',
    List.contains_iff_mem, Bool.or_eq_true, decide_eq_true_eq, Bool.eq_false_iff, ← imp_iff_not_or]
  tauto

/-- The first train of a list that has a property, found behind those that do not. -/
theorem find?_split {α : Type} {p : α → Bool} {l xs ys : List α} {t : α} (split : l = xs ++ t :: ys)
    (holds : p t = true) (before : ∀ x ∈ xs, ¬ p x = true) : l.find? p = some t := by
  rw [split, List.find?_append, List.find?_eq_none.mpr before, List.find?_cons_of_pos holds]
  rfl

theorem grantedTrain_none {s : State} {i : StationId} {risk : Bool} {cls : VesselClass}
    (refused : ∀ t ∈ s.arbiter.paths.get i, ¬ s.eligible i risk t = true) :
    s.grantedTrain i risk cls = none := by
  rw [State.grantedTrain, State.eligibleTrains, List.filter_eq_nil_iff.mpr refused]
  rfl

/-- The first eligible train of the path list that carried the class last is granted. -/
theorem grantedTrain_sameClass {s : State} {i : StationId} {risk : Bool} {cls : VesselClass}
    {xs ys : List TrainId} {t : TrainId} (path : s.arbiter.paths.get i = xs ++ t :: ys)
    (eligible : s.eligible i risk t = true) (last : (s.train t).lastClass = some cls)
    (before : ∀ x ∈ xs, ¬ (s.eligible i risk x = true ∧ (s.train x).lastClass = some cls)) :
    s.grantedTrain i risk cls = some t := by
  have found : (s.eligibleTrains i risk).find? (fun t => (s.train t).lastClass == some cls) = some t := by
    rw [State.eligibleTrains, List.find?_filter]
    exact find?_split path (by simp [eligible, last]) (by simpa using before)
  rw [State.grantedTrain, found]

/-- Where no eligible train carried the class last, the first eligible one is granted. -/
theorem grantedTrain_first {s : State} {i : StationId} {risk : Bool} {cls : VesselClass}
    {xs ys : List TrainId} {t : TrainId} (path : s.arbiter.paths.get i = xs ++ t :: ys)
    (eligible : s.eligible i risk t = true) (before : ∀ x ∈ xs, ¬ s.eligible i risk x = true)
    (others : ∀ x ∈ s.arbiter.paths.get i,
      ¬ (s.eligible i risk x = true ∧ (s.train x).lastClass = some cls)) :
    s.grantedTrain i risk cls = some t := by
  have none : (s.eligibleTrains i risk).find? (fun t => (s.train t).lastClass == some cls) = none := by
    rw [State.eligibleTrains, List.find?_filter, List.find?_eq_none]
    simpa using others
  rw [State.grantedTrain, none, State.eligibleTrains, List.head?_filter]
  exact find?_split path eligible before

/-! ## One request of a scan (R84, R85) -/

theorem scanRequest_running {s : State} {q : Request} {tag : Tag} {cls : VesselClass}
    (running : s.running = true) (unit : (s.station q.station).unit = some tag) (needed : q.needed = some cls) :
    s.scanRequest q =
      match s.grantedTrain q.station (s.flammableRisk tag) cls, s.chooseVessel cls with
      | some t, some k =>
        if s.entriesExhausted tag then s.exhaustRequest q.station tag
        else s.grantTrain q.station tag t k cls
      | _, _ => s := by
  rw [State.scanRequest, running, unit, needed]
  rfl

theorem scanRequest_notRunning {s : State} (q : Request) (stands : s.running = false) :
    s.scanRequest q = s := by
  rw [State.scanRequest, stands]
  rfl

theorem scanRequest_noTrain {s : State} {q : Request} {tag : Tag} {cls : VesselClass}
    (unit : (s.station q.station).unit = some tag) (needed : q.needed = some cls)
    (none : s.grantedTrain q.station (s.flammableRisk tag) cls = none) : s.scanRequest q = s := by
  cases running : s.running with
  | false => exact scanRequest_notRunning q running
  | true => rw [scanRequest_running running unit needed, none]

theorem scanRequest_noVessel {s : State} {q : Request} {tag : Tag} {cls : VesselClass}
    (unit : (s.station q.station).unit = some tag) (needed : q.needed = some cls)
    (none : s.chooseVessel cls = none) : s.scanRequest q = s := by
  cases running : s.running with
  | false => exact scanRequest_notRunning q running
  | true =>
    rw [scanRequest_running running unit needed, none]
    split
    · contradiction
    · rfl

theorem entriesExhausted_of_found {s : State} {tag : Tag} {r : UnitRecord}
    (found : s.findUnit tag = some r) :
    s.entriesExhausted tag = decide (4 ≤ r.allocations.length) := by
  rw [State.entriesExhausted, found]
  rfl

/-! ## A grant (R85) -/

theorem setTrain_train (s : State) (t : TrainId) : s.setTrain t (s.train t) = s := by
  have same : s.arbiter.trains.set t.val (s.arbiter.trains.get t) t.isLt = s.arbiter.trains :=
    Vector.set_getElem_self t.isLt
  unfold State.setTrain State.train
  rw [same]

theorem onTrain_same {s : State} {t : TrainId} {f : Train → Train}
    (same : f (s.train t) = s.train t) :
    s.onTrain t f = s := by
  rw [State.onTrain, same, setTrain_train]

/-- Two writes to the record of a tag. -/
theorem onUnit_onUnit (s : State) (tag : Tag) (f g : UnitRecord → UnitRecord)
    (keeps : ∀ r, (f r).tag = r.tag) : (s.onUnit tag f).onUnit tag g = s.onUnit tag fun r => g (f r) := by
  unfold State.onUnit
  simp only [List.map_map]
  congr 3
  funext r
  simp only [Function.comp_apply]
  by_cases e : (r.tag == tag) = true
  · rw [if_pos e, if_pos (by rw [keeps]; exact e), if_pos e]
  · rw [if_neg e, if_neg e, if_neg e]

@[simp] theorem openEntry_tag (r : UnitRecord) (k : SlotId) (v : Nat) :
    (r.openEntry k v).tag = r.tag := by
  unfold UnitRecord.openEntry
  split <;> rfl

/-- What a line stop leaves of a train: all but its state. -/
def granted (x : Train) : Train := { x with state := .idle }

theorem granted_pauseTrain (s : State) (t u : TrainId) :
    granted ((s.pauseTrain u).train t) = granted (s.train t) := by
  unfold State.pauseTrain
  split
  · by_cases e : u = t
    · subst e
      rw [train_onTrain]
      rfl
    · rw [train_onTrain_ne _ _ _ _ e]
      rfl
  · rfl

theorem granted_stopStation (s : State) (t : TrainId) (i : StationId) :
    granted ((s.stopStation i).train t) = granted (s.train t) := by
  rw [stopStation_eq]
  rfl

/-- A watch hit that stops the line leaves a train what it was granted. -/
theorem granted_watchEntry (s : State) (t : TrainId) (rank : Nat) (tag : Option Tag)
    (p : PhaseName) :
    granted ((s.watchEntry rank tag p).train t) = granted (s.train t) :=
  watchEntry_same (fun s => granted (s.train t)) (fun _ _ => rfl) (fun _ _ => rfl)
    (fun s => lineStop_same (fun s => granted (s.train t)) (fun s i => granted_stopStation s t i)
      (fun s u => granted_pauseTrain s t u) s) s rank tag p

theorem openTrainEntry_eq {s : State} {t : TrainId} {k : SlotId} {tag : Tag} {v : Vessel}
    (serves : (s.train t).tag = some tag) (feeds : (s.train t).slot = some k)
    (vessel : (s.slot k).vessel = some v) :
    s.openTrainEntry t k = s.onUnit tag fun r => r.openEntry k v.id := by
  rw [State.openTrainEntry, serves, vessel]
  refine onTrain_same ?_
  show { s.train t with slot := some k } = s.train t
  rw [← feeds]

/-- A station enters EVACUATE: one more is counted, and the watch tested (R4, R57). -/
theorem enterEvacuate_eq {s : State} {i : StationId} {tag : Tag} (t : TrainId)
    (unit : (s.station i).unit = some tag) :
    s.enterEvacuate i t =
      ((s.onUnit tag UnitRecord.countEvacuation).setStation i
        { s.station i with
          phase := .evacuate, nextPhase := none, train := some t, suspended := false
          awaitingVessel := false
          evacValve := if (s.station i).evacValve = .closing then .closing else .closed }).watchEntry
            (i.val + 1) (some tag) .evacuate := by
  have counted : s.onStationUnit i UnitRecord.countEvacuation = s.onUnit tag UnitRecord.countEvacuation := by
    rw [State.onStationUnit, unit]
  rw [State.enterEvacuate, counted, State.enterPhase, onStation_onStation, station_onStation,
    show ((s.onUnit tag UnitRecord.countEvacuation).station i).unit = some tag from unit]
  simp only [beq_iff_eq]
  rfl

theorem drawAfresh_eq {s : State} {t : TrainId} {k : SlotId} {i : StationId}
    (feeds : (s.train t).slot = some k) (holds : (s.train t).station = some i) :
    s.drawAfresh t = (((s.issue .pathArbiter (.train t) (.outletOpen k)).issue .pathArbiter (.train t)
      .compressorStart).onTrain t fun x => { x with state := .drawing }).openEvac i := by
  rw [State.drawAfresh, State.orderOutlet, feeds, State.reportDrawing]
  unfold State.setTrainState
  rw [train_onTrain]
  show (match (s.train t).station with | some i => _ | none => _) = _
  rw [holds]
  rfl

theorem train_openEvac (s : State) (i : StationId) (t : TrainId) :
    (s.openEvac i).train t = s.train t := by
  unfold State.openEvac
  dsimp only
  split <;> rfl

theorem line_openEvac (s : State) (i : StationId) : (s.openEvac i).control = s.control := by
  unfold State.openEvac
  dsimp only
  split <;> rfl

theorem pauseTrain_drawing {s : State} {t : TrainId} (draws : (s.train t).state = .drawing) :
    s.pauseTrain t = (s.issue .pathArbiter (.train t) .compressorStop).onTrain t fun x =>
      { x with state := .paused } := by
  rw [State.pauseTrain, draws]
  rfl

/-- The state of a grant once the station has entered EVACUATE: the train holds the station, the unit has its
entry, and the watch has been tested (R85). -/
structure Entered (s : State) (i : StationId) (tag : Tag) (t : TrainId) (k : SlotId) (cls : VesselClass)
    (vessel : Nat) (u v w : State) : Prop where
  served : u = ((s.setRequests (s.arbiter.requests.filter fun p => p.station != i)).setTrain t
    { s.train t with station := some i, tag := some tag, carried := some cls, slot := some k }).onUnit
      tag fun r => (r.openEntry k vessel).countEvacuation
  entered : v = u.setStation i
    { s.station i with
      phase := .evacuate, nextPhase := none, train := some t, suspended := false
      awaitingVessel := false
      evacValve := if (s.station i).evacValve = .closing then .closing else .closed }
  watched : w = v.watchEntry (i.val + 1) (some tag) .evacuate

section
variable {s u v w : State} {i : StationId} {tag : Tag} {t : TrainId} {k : SlotId} {cls : VesselClass}
  {v₀ : Vessel}

theorem Entered.train (h : Entered s i tag t k cls v₀.id u v w) : granted (w.train t) = granted
    { s.train t with station := some i, tag := some tag, carried := some cls, slot := some k } := by
  obtain ⟨served, entered, watched⟩ := h
  rw [watched, granted_watchEntry, entered, served]
  exact congrArg granted (train_setTrain _ t _)

theorem Entered.lastClass (h : Entered s i tag t k cls v₀.id u v w) :
    (w.train t).lastClass = (s.train t).lastClass :=
  (congrArg Train.lastClass h.train :)

theorem Entered.slot (h : Entered s i tag t k cls v₀.id u v w) : (w.train t).slot = some k :=
  (congrArg Train.slot h.train :)

theorem Entered.station (h : Entered s i tag t k cls v₀.id u v w) : (w.train t).station = some i :=
  (congrArg Train.station h.train :)

theorem Entered.now (h : Entered s i tag t k cls v₀.id u v w) : w.now = s.now := by
  obtain ⟨served, entered, watched⟩ := h
  rw [watched, watchEntry_now, entered, served]
  rfl

theorem Entered.settings (h : Entered s i tag t k cls v₀.id u v w) :
    w.control.settings = s.control.settings := by
  obtain ⟨served, entered, watched⟩ := h
  rw [watched, watchEntry_settings, entered, served]
  rfl

/-- A grant is the entry, and then the train's draw or its purge (R85). -/
theorem grantTrain_eq (unit : (s.station i).unit = some tag) (vessel : (s.slot k).vessel = some v₀)
    (h : Entered s i tag t k cls v₀.id u v w) :
    s.grantTrain i tag t k cls =
      if (s.train t).lastClass = some cls then
        if w.control.line = .stopped then (w.drawAfresh t).pauseTrain t else w.drawAfresh t
      else w.startPurge t := by
  have before (g : State) (e : g = (s.setRequests (s.arbiter.requests.filter fun p => p.station != i)).setTrain t
      { s.train t with station := some i, tag := some tag, carried := some cls, slot := some k }) :
      (g.openTrainEntry t k).enterEvacuate i t = w := by
    obtain ⟨served, entered, watched⟩ := h
    have serves : (g.train t).tag = some tag := by rw [e, train_setTrain]
    have feeds : (g.train t).slot = some k := by rw [e, train_setTrain]
    have vessel' : (g.slot k).vessel = some v₀ := by rw [e]; exact vessel
    have unit' : ((g.onUnit tag fun r => r.openEntry k v₀.id).station i).unit = some tag := by
      rw [e]
      exact unit
    rw [openTrainEntry_eq serves feeds vessel', enterEvacuate_eq t unit',
      onUnit_onUnit _ _ _ _ fun r => openEntry_tag r k v₀.id, watched, entered, served, e]
    rfl
  have line : (w.drawAfresh t).control.line = w.control.line := by
    rw [drawAfresh_eq h.slot h.station, line_openEvac]
    rfl
  have entry := before ((s.setRequests (s.arbiter.requests.filter fun p => p.station != i)).onTrain t fun x =>
    { x with station := some i, tag := some tag, carried := some cls, slot := some k }) rfl
  rw [State.grantTrain]
  dsimp only
  rw [entry]
  simp only [beq_iff_eq, h.lastClass, line]

theorem state_drawAfresh (h : Entered s i tag t k cls v₀.id u v w) :
    ((w.drawAfresh t).train t).state = .drawing := by
  rw [drawAfresh_eq h.slot h.station, train_openEvac, train_onTrain]

end

/-- Settles O36: the conditions of R58, the train and the vessel that R84 and R85 choose, and the grant. -/
theorem grantScanServesARequest : Obligations.GrantScanServesARequest := by
  refine ⟨fun s i t served => ?_, fun s q tag cls elig needs unit needed eligible needing => ?_, fun s => rfl,
    fun r => ⟨fun few => ?_, fun many => ?_⟩⟩
  · rw [openEvac_eq served]
    exact ⟨fun holds => if_pos holds, fun fails => if_neg fails⟩
  · have on_path (x : TrainId) (mem : x ∈ s.arbiter.paths.get q.station) :
        s.eligible q.station (s.flammableRisk tag) x = true ↔ elig x := by
      rw [eligible_iff, eligible]
      exact and_iff_right mem
    have on_path' (x : TrainId) (mem : x ∈ s.arbiter.paths.get q.station) :
        (s.eligible q.station (s.flammableRisk tag) x = true ∧ (s.train x).lastClass = some cls) ↔
          needs x := by
      rw [on_path x mem, needing]
    refine ⟨fun stands => ?_, fun refused => ?_, scanRequest_noVessel unit needed,
      fun xs t ys k v₀ r runs path chosen vessel found first => ?_⟩
    · refine scanRequest_notRunning q ?_
      rcases stands with line | line <;> rw [State.running, line] <;> rfl
    · exact scanRequest_noTrain unit needed
        (grantedTrain_none fun x mem => (on_path x mem).not.mpr (refused x mem))
    · have running : s.running = true := by
        rcases runs with line | line <;> rw [State.running, line] <;> rfl
      have mem : t ∈ s.arbiter.paths.get q.station := by rw [path]; simp
      have earlier : ∀ x ∈ xs, x ∈ s.arbiter.paths.get q.station := fun x hx => by rw [path]; simp [hx]
      have taken : s.grantedTrain q.station (s.flammableRisk tag) cls = some t := by
        rcases first with ⟨same, before⟩ | ⟨fits, before, others⟩
        · obtain ⟨fits, last⟩ := (on_path' t mem).mpr same
          exact grantedTrain_sameClass path fits last fun x hx => (on_path' x (earlier x hx)).not.mpr (before x hx)
        · exact grantedTrain_first path ((on_path t mem).mpr fits)
            (fun x hx => (on_path x (earlier x hx)).not.mpr (before x hx))
            fun x hx => (on_path' x hx).not.mpr (others x (path ▸ hx))
      have scanned := scanRequest_running running unit needed
      rw [taken, chosen, entriesExhausted_of_found found] at scanned
      refine ⟨fun many => ?_, fun few => ?_⟩
      · rw [scanned, decide_eq_true many]
        rfl
      · have h : Entered s q.station tag t k cls v₀.id _ _ _ := ⟨rfl, rfl, rfl⟩
        have granted := grantTrain_eq unit vessel h
        have drawn := drawAfresh_eq h.slot h.station
        rw [decide_eq_false (Nat.not_le.mpr few)] at scanned
        refine ⟨_, _, _, _, rfl, rfl, rfl, rfl, fun same => ⟨fun runs => ?_, fun stopped => ?_⟩, fun other => ?_⟩
        · rw [← drawn, scanned]
          refine granted.trans ?_
          rw [if_pos same, if_neg runs]
        · rw [← drawn, ← pauseTrain_drawing (state_drawAfresh h), scanned]
          refine granted.trans ?_
          rw [if_pos same, if_pos stopped]
        · rw [scanned, ← h.now, ← h.settings]
          refine granted.trans ?_
          rw [if_neg other]
          rfl
  · exact congrArg (fun n => { r with evacuations := n }) (if_pos few)
  · exact congrArg (fun n => { r with evacuations := n }) (if_neg (Nat.not_lt.mpr many))

end Sys2Proof.Proofs

namespace Sys2Proof.Proofs

open Sys2Proof Sys2Proof.Machine Sys2Proof.Laws

/-! ## The reset actions of the chamber and of the banks (O57; R134, R156) -/

/-- The chamber of a reset without a unit: at power-on, with its queue and its readings kept (R134). -/
def chamberAtReset (c : Chamber) : Chamber := { Chamber.reset with feed := c.feed, readings := c.readings }

theorem resetChamber_held {s : State} (unit : s.chamber.unit ≠ none) :
    s.resetChamber =
      if s.chamber.phase = .faulted then s.issue .chamberSequencer .chamber .shredderStop else s.faultChamber := by
  rw [State.resetChamber, if_pos (Option.isSome_iff_ne_none.mpr unit)]
  simp only [beq_iff_eq]
  rfl

theorem resetChamber_empty {s : State} (unit : s.chamber.unit = none) :
    s.resetChamber =
      if s.chamber.nitrogenOpen then
        ({ s with chamber := chamberAtReset s.chamber } : State).issue .chamberSequencer .chamber (.nitrogen false)
      else { s with chamber := chamberAtReset s.chamber } := by
  rw [State.resetChamber, unit]
  rfl

section
variable {s : State} {bk : BankId}

theorem resetBank_pausedDefrost {d : Moment} (state : (s.bank bk).state = .defrost)
    (paused : (s.bank bk).paused = true) (left : (s.bank bk).defrostRemaining = some d) :
    s.resetBank bk = (s.issue .condenser .condenser (.heaterOn bk)).setBank bk { s.bank bk with
      paused := false, defrostDeadline := some (s.now + d), defrostRemaining := none } := by
  have same : (s.orderBank (.heaterOn bk)).bank bk = s.bank bk := rfl
  rw [State.resetBank, state]
  simp only [paused, State.onBank, same, left]
  rfl

theorem resetBank_drain (state : (s.bank bk).state = .drain) (on : (s.bank bk).drainEnded = false) :
    s.resetBank bk = s.redrain bk := by
  rw [State.resetBank, state]
  simp only [on]
  rfl

theorem bank_raiseNoAgent (other : BankId) : (s.raiseNoAgent bk).bank other = s.bank other := by
  rw [State.raiseNoAgent, raise_quiet (by decide)]
  rfl

/-- A bank that the tests of R144 leave waiting keeps its valve as it stood. -/
theorem testDrain_valve (waits : ((s.testDrain bk).bank bk).state = .drainWait) :
    ((s.testDrain bk).bank bk).drainValve = (s.bank bk).drainValve := by
  unfold State.testDrain at waits ⊢
  split at waits
  · rename_i other
    rw [if_pos other, State.enterDrainWait, bank_onBank]
  · rename_i other
    rw [if_neg other]
    split at waits
    · rw [bank_raiseNoAgent, State.enterDrainWait, bank_onBank]
    · rw [State.openDrain, bank_onBank] at waits
      cases waits

theorem redrain_eq {u v : State}
    (began : u = s.setBank bk { s.bank bk with paused := false, waitSince := none })
    (tested : v = u.testDrain bk) :
    s.redrain bk =
      if (v.bank bk).state = .drainWait ∧ ((s.bank bk).drainValve = .opening ∨ (s.bank bk).drainValve = .opened)
      then (v.issue .condenser .condenser (.bankDrainClose bk)).onBank bk fun x =>
        { x with drainValve := .closing, drainOrder := some v.orderNumber }
      else v := by
  have valve : (v.bank bk).state = .drainWait → (v.bank bk).drainValve = (s.bank bk).drainValve := by
    intro waits
    rw [tested] at waits ⊢
    rw [testDrain_valve waits, began, bank_setBank]
  have opened : ((v.bank bk).state == .drainWait && (v.bank bk).drainOpened) = true ↔
      (v.bank bk).state = .drainWait ∧
        ((s.bank bk).drainValve = .opening ∨ (s.bank bk).drainValve = .opened) := by
    rw [Bool.and_eq_true, beq_iff_eq]
    refine and_congr_right fun waits => ?_
    rw [Bank.drainOpened, valve waits, Bool.or_eq_true, beq_iff_eq, beq_iff_eq]
  simp only [← opened]
  rw [tested, began]
  rfl

theorem resetBank_warm (state : (s.bank bk).state = .warm) :
    s.resetBank bk =
      if s.condenser.started then
        (s.issue .condenser .condenser (.refrigerationStart bk)).setBank bk { s.bank bk with
          state := .cooling, coolDeadline := some (s.now + 1800000) }
      else s := by
  rw [State.resetBank, state]
  rfl

/-- A bank that no case of R156 names does nothing. -/
theorem resetBank_rests
    (rests : (s.bank bk).state = .cooling ∨ (s.bank bk).state = .condensing ∨ (s.bank bk).state = .faulted ∨
      (s.bank bk).state = .defrost ∧ (s.bank bk).paused = false ∨
      (s.bank bk).state = .drain ∧ (s.bank bk).drainEnded = true ∨
      (s.bank bk).state = .warm ∧ s.condenser.started = false) : s.resetBank bk = s := by
  unfold State.resetBank
  rcases rests with state | state | state | ⟨state, rests⟩ | ⟨state, rests⟩ | ⟨state, rests⟩
  all_goals rw [state]
  all_goals dsimp only
  all_goals rw [rests]
  all_goals rfl

/-- R156, a bank's case at a time. -/
theorem resetBank_cases (s : State) (bk : BankId) :
    (∀ d, (s.bank bk).state = .defrost → (s.bank bk).paused = true →
      (s.bank bk).defrostRemaining = some d → s.resetBank bk =
        (s.issue .condenser .condenser (.heaterOn bk)).setBank bk { s.bank bk with
          paused := false, defrostDeadline := some (s.now + d), defrostRemaining := none }) ∧
    ((s.bank bk).state = .drain → (s.bank bk).drainEnded = false → ∃ u v : State,
      u = s.setBank bk { s.bank bk with paused := false, waitSince := none } ∧
      v = u.testDrain bk ∧
      ((v.bank bk).state = .drainWait → ((s.bank bk).drainValve = .opening ∨
          (s.bank bk).drainValve = .opened) → s.resetBank bk =
        (v.issue .condenser .condenser (.bankDrainClose bk)).onBank bk fun x =>
          { x with drainValve := .closing, drainOrder := some v.orderNumber }) ∧
      ((v.bank bk).state ≠ .drainWait ∨ (s.bank bk).drainValve = .closed ∨
        (s.bank bk).drainValve = .closing → s.resetBank bk = v)) ∧
    ((s.bank bk).state = .drainWait → s.resetBank bk = s.retestDrain bk) ∧
    ((s.bank bk).state = .warm → s.condenser.started = true → s.resetBank bk =
      (s.issue .condenser .condenser (.refrigerationStart bk)).setBank bk { s.bank bk with
        state := .cooling, coolDeadline := some (s.now + 1800000) }) ∧
    ((s.bank bk).state = .cold → s.resetBank bk = s.tryCondense bk) := by
  refine ⟨fun d => resetBank_pausedDefrost, fun state on => ⟨_, _, rfl, rfl, fun waits opened => ?_, fun rests => ?_⟩,
    fun state => ?_, fun state started => ?_, fun state => ?_⟩
  · rw [resetBank_drain state on, redrain_eq rfl rfl, if_pos ⟨waits, opened⟩]
  · rw [resetBank_drain state on, redrain_eq rfl rfl, if_neg]
    rintro ⟨waits, opened⟩
    rcases rests with other | valve | valve
    · exact other waits
    · simp [valve] at opened
    · simp [valve] at opened
  · rw [State.resetBank, state]
  · rw [resetBank_warm state, started]
    rfl
  · rw [State.resetBank, state]

end

/-! ### The order of the banks (R144, R156) -/

theorem bank_dropDrainSlot (s : State) (bk : BankId) :
    (s.dropDrainSlot bk).bank bk = { s.bank bk with drainSlot := none } := by
  unfold State.dropDrainSlot
  split
  · exact bank_onBank ..
  · rename_i none
    rw [Bool.not_eq_true, Option.isSome_eq_false_iff, Option.isNone_iff_eq_none] at none
    rw [← none]

theorem bank_dropDrainSlot_other (s : State) (bk : BankId) :
    (s.dropDrainSlot bk).bank (otherBank bk) = s.bank (otherBank bk) := by
  unfold State.dropDrainSlot
  split
  · exact bank_onBank_other ..
  · rfl

theorem bank_dropDrainSlots (s : State) (bk : BankId) :
    ((s.dropDrainSlot .a).dropDrainSlot .b).bank bk = { s.bank bk with drainSlot := none } := by
  cases bk with
  | a => exact (bank_dropDrainSlot_other _ .b).trans (bank_dropDrainSlot s .a)
  | b =>
    rw [bank_dropDrainSlot]
    exact congrArg (fun x : Bank => { x with drainSlot := none }) (bank_dropDrainSlot_other s .a)

theorem resetCondenser_eq (s : State) :
    s.resetCondenser =
      (forAll s.resetOrder ((s.dropDrainSlot .a).dropDrainSlot .b) State.resetBank).swapTest := rfl

/-- Bank A acts first unless it waits and bank B does not, or bank B has waited longer (R144, R156). -/
theorem resetOrder_eq (s : State) :
    s.resetOrder =
      if (s.bank .a).state = .drainWait ∧ ((s.bank .b).state ≠ .drainWait ∨ s.waitOrder = [.b, .a])
      then [.b, .a] else [.a, .b] := by
  have order : s.waitOrder = [.a, .b] ∨ s.waitOrder = [.b, .a] := by
    unfold State.waitOrder
    (repeat' split) <;> simp
  unfold State.resetOrder
  by_cases a : (s.bank .a).state = .drainWait <;> by_cases b : (s.bank .b).state = .drainWait <;>
    rcases order with order | order <;> simp [bankIds, a, b, order]

theorem resetCondenser_aFirst {s : State} (order : s.resetOrder = [.a, .b]) :
    s.resetCondenser =
      ((((s.dropDrainSlot .a).dropDrainSlot .b).resetBank .a).resetBank .b).swapTest := by
  rw [resetCondenser_eq, order]
  rfl

theorem resetCondenser_bFirst {s : State} (order : s.resetOrder = [.b, .a]) :
    s.resetCondenser =
      ((((s.dropDrainSlot .a).dropDrainSlot .b).resetBank .b).resetBank .a).swapTest := by
  rw [resetCondenser_eq, order]
  rfl

theorem waitOrder_of_waits {s : State} {x y : Moment} (a : (s.bank .a).waitSince = some x)
    (b : (s.bank .b).waitSince = some y) : s.waitOrder = if y < x then [.b, .a] else [.a, .b] := by
  have a : s.condenser.bankA.waitSince = some x := a
  have b : s.condenser.bankB.waitSince = some y := b
  rw [State.waitOrder, a, b]

/-- R156's order of the two banks' actions, case by case. -/
theorem resetCondenser_cases (s u : State) (dropped : u = (s.dropDrainSlot .a).dropDrainSlot .b) :
    ((s.bank .a).state ≠ .drainWait → s.resetCondenser = ((u.resetBank .a).resetBank .b).swapTest) ∧
    ((s.bank .a).state = .drainWait → (s.bank .b).state ≠ .drainWait →
      s.resetCondenser = ((u.resetBank .b).resetBank .a).swapTest) ∧
    ∀ x y, (s.bank .a).state = .drainWait → (s.bank .b).state = .drainWait →
      (s.bank .a).waitSince = some x → (s.bank .b).waitSince = some y →
      (x ≤ y → s.resetCondenser = ((u.resetBank .a).resetBank .b).swapTest) ∧
      (y < x → s.resetCondenser = ((u.resetBank .b).resetBank .a).swapTest) := by
  subst dropped
  refine ⟨fun a => resetCondenser_aFirst ?_, fun a b => resetCondenser_bFirst ?_,
    fun x y a b sinceA sinceB => ⟨fun first => resetCondenser_aFirst ?_, fun first => resetCondenser_bFirst ?_⟩⟩
  · rw [resetOrder_eq, if_neg fun h => a h.1]
  · rw [resetOrder_eq, if_pos ⟨a, .inl b⟩]
  · rw [resetOrder_eq, waitOrder_of_waits sinceA sinceB, if_neg (Nat.not_lt.mpr first)]
    simp [b]
  · rw [resetOrder_eq, waitOrder_of_waits sinceA sinceB, if_pos first, if_pos ⟨a, .inr rfl⟩]

end Sys2Proof.Proofs

namespace Sys2Proof.Proofs

open Sys2Proof Sys2Proof.Machine Sys2Proof.Laws

/-! ## What every part of a reset keeps (O57) -/

/-- Line Control after its part of a reset (R180). -/
structure Stilled (c : LineControl) : Prop where
  line : c.line = .stopped
  haltPin : c.haltPin = false
  credits : c.credits = []
  chamberCredit : c.chamberCredit = false
  holders : c.holders = []
  chamberHolder : c.chamberHolder = false

theorem stilled_resetLine (s : State) :
    Stilled s.resetLine.control := ⟨rfl, rfl, rfl, rfl, rfl, rfl⟩

/-- A record's allocation entries. -/
def entriesOf (r : UnitRecord) : Tag × List Allocation := (r.tag, r.allocations)

/-- What the actions of a reset keep, of a state whose line is at rest. -/
structure Framed (s t : State) : Prop where
  still : Stilled t.control
  settings : t.control.settings = s.control.settings
  unwatched : s.control.watch = [] → t.control.watch = []
  masks : t.monitor.masks = s.monitor.masks
  table : t.classifier.table = s.classifier.table
  paths : t.arbiter.paths = s.arbiter.paths
  slots : t.slots = s.slots
  link : t.link = s.link
  now : t.now = s.now
  resetPin : t.resetPin = s.resetPin
  log : t.register.log = s.register.log
  closing : t.register.closing = s.register.closing
  logFull : t.register.logFull = s.register.logFull
  entries : t.register.units.map entriesOf = s.register.units.map entriesOf
  orders : s.loop.orders ⊆ t.loop.orders
  noCycle : s.classifier.cycle = none → t.classifier.cycle = none

theorem Framed.refl {s : State} (still : Stilled s.control) : Framed s s :=
  ⟨still, rfl, id, rfl, rfl, rfl, rfl, rfl, rfl, rfl, rfl, rfl, rfl, rfl, fun _ => id, id⟩

theorem Framed.trans {s t u : State} (h : Framed s t) (h' : Framed t u) : Framed s u where
  still := h'.still
  settings := h'.settings.trans h.settings
  unwatched := h'.unwatched ∘ h.unwatched
  masks := h'.masks.trans h.masks
  table := h'.table.trans h.table
  paths := h'.paths.trans h.paths
  slots := h'.slots.trans h.slots
  link := h'.link.trans h.link
  now := h'.now.trans h.now
  resetPin := h'.resetPin.trans h.resetPin
  log := h'.log.trans h.log
  closing := h'.closing.trans h.closing
  logFull := h'.logFull.trans h.logFull
  entries := h'.entries.trans h.entries
  orders := fun _ mem => h'.orders (h.orders mem)
  noCycle := h'.noCycle ∘ h.noCycle

section
variable {s₀ s : State}

/-- A change of fields that the frame does not read. -/
theorem Framed.of_same {t : State} (h : Framed s₀ s) (control : t.control = s.control := by rfl)
    (masks : t.monitor.masks = s.monitor.masks := by rfl)
    (table : t.classifier.table = s.classifier.table := by rfl)
    (paths : t.arbiter.paths = s.arbiter.paths := by rfl) (slots : t.slots = s.slots := by rfl)
    (link : t.link = s.link := by rfl) (now : t.now = s.now := by rfl)
    (resetPin : t.resetPin = s.resetPin := by rfl) (log : t.register.log = s.register.log := by rfl)
    (closing : t.register.closing = s.register.closing := by rfl)
    (logFull : t.register.logFull = s.register.logFull := by rfl)
    (entries : t.register.units.map entriesOf = s.register.units.map entriesOf := by rfl)
    (orders : s.loop.orders ⊆ t.loop.orders := by exact fun _ => id)
    (cycle : s.classifier.cycle = none → t.classifier.cycle = none := by exact id) : Framed s₀ t :=
  h.trans ⟨control ▸ h.still, by rw [control], by rw [control]; exact id, masks, table, paths, slots, link, now,
    resetPin, log, closing, logFull, entries, orders, cycle⟩

@[simp] theorem onStation_framed (i : StationId) (f : Station → Station) (h : Framed s₀ s) :
    Framed s₀ (s.onStation i f) := h.of_same

@[simp] theorem onTrain_framed (t : TrainId) (f : Train → Train) (h : Framed s₀ s) :
    Framed s₀ (s.onTrain t f) := h.of_same

@[simp] theorem onChamber_framed (f : Chamber → Chamber) (h : Framed s₀ s) :
    Framed s₀ (s.onChamber f) := h.of_same

@[simp] theorem onBank_framed (bk : BankId) (f : Bank → Bank) (h : Framed s₀ s) :
    Framed s₀ (s.onBank bk f) := by
  cases bk <;> exact h.of_same

@[simp] theorem setLastDrain_framed (bk : BankId) (h : Framed s₀ s) :
    Framed s₀ (s.setLastDrain bk) :=
  h.of_same

@[simp] theorem setQueue_framed (q : List StationId) (h : Framed s₀ s) : Framed s₀ (s.setQueue q) :=
  h.of_same

@[simp] theorem setRequests_framed (q : List Request) (h : Framed s₀ s) :
    Framed s₀ (s.setRequests q) :=
  h.of_same

@[simp] theorem issueFor_framed (b : Issuer) (n : Node) (k : OrderKind) (c : OrderCause)
    (h : Framed s₀ s) : Framed s₀ (s.issueFor b n k c) :=
  h.of_same (orders := List.subset_append_left _ _)

@[simp] theorem issue_framed (b : Issuer) (n : Node) (k : OrderKind) (h : Framed s₀ s) :
    Framed s₀ (s.issue b n k) := issueFor_framed b n k _ h

/-- An issued order is outstanding (R192). -/
theorem issued_mem (s : State) (b : Issuer) (n : Node) (k : OrderKind) :
    { number := s.orderNumber, node := n, kind := k, issuer := b, deadline := s.now + orderTimeoutOf k
      acknowledged := false, cause := .work } ∈ (s.issue b n k).loop.orders := by
  show _ ∈ s.loop.orders ++ [_]
  simp

@[simp] theorem enter_masks (m : Monitor) (kind : ConditionKind) (origin : Origin)
    (detail : Detail) :
    (m.enter kind origin detail).masks = m.masks := by
  unfold Monitor.enter
  (repeat' split) <;> rfl

theorem raise_framed {kind : ConditionKind} (quiet : kindClass kind ≠ .exigent) (origin : Origin)
    (detail : Detail) (h : Framed s₀ s) : Framed s₀ (s.raise kind origin detail) := by
  rw [raise_quiet quiet]
  exact h.of_same (masks := enter_masks ..)

theorem onUnit_framed (tag : Tag) (f : UnitRecord → UnitRecord)
    (keeps : ∀ r, entriesOf (f r) = entriesOf r)
    (h : Framed s₀ s) : Framed s₀ (s.onUnit tag f) := by
  refine h.of_same (entries := ?_)
  rw [onUnit_register, List.map_map]
  refine List.map_congr_left fun r _ => ?_
  rw [Function.comp_apply]
  split
  · exact keeps r
  · rfl

/-- With the line STOPPED, a watch hit takes an entry from the watch list and is raised, and no more
(R175). -/
theorem watchEntry_stopped (still : s.running = false) (rank : Nat) (tag : Option Tag)
    (p : PhaseName) :
    s.watchEntry rank tag p = s ∨ ∃ w top m, m.masks = s.monitor.masks ∧ (s.control.watch = [] → w = []) ∧
      s.watchEntry rank tag p =
        (s.setControl { s.control with watch := w, hitTop := top }).setMonitor m := by
  unfold State.watchEntry
  cases tag with
  | none => exact .inl rfl
  | some t =>
    dsimp only
    split
    · refine .inr ⟨s.control.watch.filter fun w => w != { tag := t, phase := p },
        some (laterHit s.control.hitTop { rank := rank, tag := t }),
        s.monitor.enter .watchHit .line (one (laterHit s.control.hitTop { rank := rank, tag := t }).tag),
        enter_masks .., fun none => by rw [none]; rfl, ?_⟩
      rw [raise_quiet (by decide)]
      exact if_neg (Bool.not_eq_true _ ▸ still)
    · exact .inl rfl

theorem Stilled.running (h : Stilled s.control) : s.running = false := by
  rw [State.running, h.line]
  rfl

@[simp] theorem watchEntry_framed (rank : Nat) (tag : Option Tag) (p : PhaseName)
    (h : Framed s₀ s) :
    Framed s₀ (s.watchEntry rank tag p) := by
  obtain e | ⟨w, top, m, masks, fewer, e⟩ := watchEntry_stopped h.still.running rank tag p
  · rwa [e]
  · rw [e]
    obtain ⟨line, haltPin, credits, chamberCredit, holders, chamberHolder⟩ := h.still
    exact h.trans ⟨⟨line, haltPin, credits, chamberCredit, holders, chamberHolder⟩, rfl, fewer, masks, rfl, rfl,
      rfl, rfl, rfl, rfl, rfl, rfl, rfl, rfl, fun _ => id, id⟩

@[simp] theorem forAll_framed {α : Type} (items : List α) (f : State → α → State)
    (each : ∀ s x, Framed s₀ s → Framed s₀ (f s x)) (h : Framed s₀ s) : Framed s₀ (forAll items s f) :=
  forAll_keeps (Framed s₀) f each items s h

/-! ### The stations, the Classifier and the trains -/

@[simp] theorem enterPhase_framed (i : StationId) (p : StationPhase) (h : Framed s₀ s) :
    Framed s₀ (s.enterPhase i p) := watchEntry_framed _ _ _ (onStation_framed _ _ h)

@[simp] theorem closeValves_framed (i : StationId) (h : Framed s₀ s) :
    Framed s₀ (s.closeValves i) := by
  dsimp only [State.closeValves, State.orderStation]
  exact onStation_framed _ _ (issue_framed _ _ _ (issue_framed _ _ _ (issue_framed _ _ _ h)))

@[simp] theorem writeFaultedPhase_framed (i : StationId) (f : StationFault) (h : Framed s₀ s) :
    Framed s₀ (s.writeFaultedPhase i f) := by
  unfold State.writeFaultedPhase
  split
  · exact onUnit_framed _ _ (fun _ => rfl) h
  · exact h

@[simp] theorem abandonCycle_framed (close : Option Nat) (h : Framed s₀ s) :
    Framed s₀ (s.abandonCycle close) := by
  unfold State.abandonCycle
  split
  · exact h
  · rename_i c cycle
    have some_cycle : s.classifier.cycle = none → ∀ p : Prop, p := fun none => by simp [cycle] at none
    split
    · exact h
    · split
      · exact h.of_same (cycle := fun none => some_cycle none _)
      · have ordered : Framed s₀ (s.orderSampleValve c.station false) := issue_framed _ _ _ h
        exact ordered.of_same (cycle := fun none => some_cycle none _)

@[simp] theorem abandonFor_framed (i : StationId) (h : Framed s₀ s) :
    Framed s₀ (s.abandonFor i) := by
  unfold State.abandonFor
  (repeat' split) <;> simp [h]

@[simp] theorem leaveLists_framed (i : StationId) (h : Framed s₀ s) :
    Framed s₀ (s.leaveLists i) := by
  simp [State.leaveLists, h]

theorem faultStation_framed (i : StationId) (f : StationFault) (h : Framed s₀ s) :
    Framed s₀ (s.faultStation i f false) :=
  onStation_framed _ _ (leaveLists_framed _ (abandonFor_framed _ (closeValves_framed _
    (enterPhase_framed _ _ (onStation_framed _ _ (writeFaultedPhase_framed _ _ h))))))

@[simp] theorem resetStation_framed (i : StationId) (h : Framed s₀ s) :
    Framed s₀ (s.resetStation i) := by
  unfold State.resetStation State.dropTrain
  dsimp only
  (repeat' split) <;> simp [h, faultStation_framed]

@[simp] theorem resetTrain_framed (t : TrainId) (h : Framed s₀ s) : Framed s₀ (s.resetTrain t) := by
  have stopped : Framed s₀ (s.stopTrain t) := issue_framed _ _ _ (issue_framed _ _ _ (issue_framed _ _ _ h))
  unfold State.resetTrain
  cases state : (s.train t).state with
  | outOfService => exact h
  | purging | drawing | paused | waitVessel | tailing => exact onTrain_framed _ _ stopped
  | idle | faulted => exact onTrain_framed _ _ h

/-! ### The chamber and the Condenser -/

/-- What a bank takes to its drain, its defrost or its condensing bears on none of the frame. -/
@[simp] theorem enterChamberPhase_framed (p : ChamberPhase) (h : Framed s₀ s) :
    Framed s₀ (s.enterChamberPhase p) := watchEntry_framed _ _ _ (onChamber_framed _ h)

end
end Sys2Proof.Proofs

namespace Sys2Proof.Proofs

open Sys2Proof Sys2Proof.Machine Sys2Proof.Laws

/-! ## A station's part of a reset (O57; R39, R67, R77) -/

/-- The three valves of a station ordered closed, by the numbers of their orders (R67). -/
def valvesClosed (a b c : Nat) (x : Station) : Station :=
  { x with
    evacValve := if x.evacValve = .closed then .closed else .closing
    evacOrder := if x.evacValve = .closed then x.evacOrder else some a
    unsecured := [{ valve := .evac, order := some a }, { valve := .sample, order := some b },
      { valve := .drain, order := some c }] }

/-- The close orders of a station's three valves are outstanding. -/
def CloseOrders (i : StationId) (deadline : Moment) (a b c : Nat) (t : State) : Prop :=
  ∀ x ∈ [(a, OrderKind.evacValve false), (b, .sampleValve false), (c, .drainValve false)],
    ∃ o ∈ t.loop.orders, o.node = .station i ∧ o.number = x.1 ∧ o.kind = x.2 ∧
      o.issuer = .stationController ∧ o.deadline = deadline

theorem CloseOrders.mono {i : StationId} {deadline : Moment} {a b c : Nat} {t u : State}
    (h : CloseOrders i deadline a b c t) (orders : t.loop.orders ⊆ u.loop.orders) :
    CloseOrders i deadline a b c u := by
  intro x hx
  obtain ⟨o, mem, rest⟩ := h x hx
  exact ⟨o, orders mem, rest⟩

/-- A cycle abandoned with a close of its station's sample valve (R39). -/
def abandoned (y : SampleCycle) (n : Nat) : SampleCycle :=
  { y with stage := .closing, abandoned := true, closeOrder := some n }

/-- A cycle after its station's fault action (R39). -/
def abandonedFor (i : StationId) (n : Nat) (y : SampleCycle) : SampleCycle :=
  if y.station = i ∧ y.stage ≠ .closing then abandoned y n else y

section
variable {s : State} {i : StationId}

/-- The three orders of `closeValves`, and what the station shows of them (R67). -/
theorem closeValves_orders (s : State) (i : StationId) :
    ∃ a b c, CloseOrders i (s.now + 3000) a b c (s.closeValves i) ∧
      (s.closeValves i).station i = valvesClosed a b c (s.station i) := by
  have evac := issued_mem s .stationController (.station i) (.evacValve false)
  generalize u_eq : s.issue .stationController (.station i) (.evacValve false) = u at evac
  have sample := issued_mem u .stationController (.station i) (.sampleValve false)
  generalize v_eq : u.issue .stationController (.station i) (.sampleValve false) = v at sample
  have drain := issued_mem v .stationController (.station i) (.drainValve false)
  have orders : (s.closeValves i).loop.orders =
      (v.issue .stationController (.station i) (.drainValve false)).loop.orders := by
    rw [← v_eq, ← u_eq]
    rfl
  have now : u.now = s.now ∧ v.now = s.now := by
    rw [← v_eq, ← u_eq]
    exact ⟨rfl, rfl⟩
  have kept (x y : State) (k : OrderKind) (o : Order) (e : x.issue .stationController (.station i) k = y)
      (mem : o ∈ x.loop.orders) : o ∈ y.loop.orders := by
    rw [← e]
    exact List.mem_append_left _ mem
  refine ⟨s.orderNumber, u.orderNumber, v.orderNumber, ?_, ?_⟩
  · simp only [CloseOrders, List.forall_mem_cons, orders]
    exact ⟨⟨_, kept _ _ _ _ rfl (kept _ _ _ _ v_eq evac), rfl, rfl, rfl, rfl, rfl⟩,
      ⟨_, kept _ _ _ _ rfl sample, rfl, rfl, rfl, rfl, congrArg (· + 3000) now.1⟩,
      ⟨_, drain, rfl, rfl, rfl, rfl, congrArg (· + 3000) now.2⟩, List.forall_mem_nil _⟩
  · subst u_eq v_eq
    rw [State.closeValves, station_onStation]
    simp only [valvesClosed, beq_iff_eq]
    rfl

/-- `closeValves` leaves all but the loop and the station alone. -/
theorem closeValves_keeps (s : State) (i : StationId) :
    (∀ j, j ≠ i → (s.closeValves i).station j = s.station j) ∧
      (s.closeValves i).classifier = s.classifier ∧ (s.closeValves i).arbiter = s.arbiter ∧
      (s.closeValves i).register = s.register := by
  refine ⟨fun j ne => ?_, rfl, rfl, rfl⟩
  rw [State.closeValves, station_onStation_ne _ _ _ _ (Ne.symm ne)]
  rfl

theorem setCycle_same {c : Option SampleCycle} (same : c = s.classifier.cycle) :
    s.setCycle c = s := by
  rw [same]
  rfl

/-- The station's own close serves the cycle that its fault abandons (R39). -/
theorem abandonFor_eq {b : Nat} (close : s.sampleClose i = some b) :
    s.abandonFor i = s.setCycle (s.classifier.cycle.map (abandonedFor i b)) := by
  unfold State.abandonFor State.abandonCycle
  cases cycle : s.classifier.cycle with
  | none => exact (setCycle_same cycle.symm).symm
  | some y =>
    dsimp only
    rw [close]
    simp only [Option.map_some, abandonedFor, beq_iff_eq]
    by_cases here : y.station = i
    · subst here
      by_cases closing : y.stage = .closing
      · simp only [closing, ne_eq, not_true_eq_false, and_false, if_true, if_false]
        exact (setCycle_same cycle.symm).symm
      · simp only [closing, ne_eq, not_false_eq_true, and_true, if_true, if_false]
        rfl
    · simp only [here, false_and, if_false]
      exact (setCycle_same cycle.symm).symm

/-- With the line STOPPED, the watch leaves the stations, the trains and the orders alone. -/
theorem watchEntry_keeps (still : s.running = false) (rank : Nat) (tag : Option Tag)
    (p : PhaseName) :
    (s.watchEntry rank tag p).stations = s.stations ∧ (s.watchEntry rank tag p).arbiter = s.arbiter ∧
      (s.watchEntry rank tag p).loop = s.loop := by
  obtain e | ⟨w, top, m, -, -, e⟩ := watchEntry_stopped still rank tag p
  · rw [e]
    exact ⟨rfl, rfl, rfl⟩
  · rw [e]
    exact ⟨rfl, rfl, rfl⟩

/-! ### The faulted phase of a record (R4, R67) -/

/-- The faulted phase that the record of a tag shows. -/
def recordFault (s : State) (tag : Tag) : Option (Option StationPhase) :=
  (s.findUnit tag).map (·.faultedPhase)

theorem recordFault_congr {t : State} (same : t.register = s.register) (tag : Tag) :
    recordFault t tag = recordFault s tag := by
  unfold recordFault State.findUnit
  rw [same]

theorem findUnit_onUnit (s : State) (tag other : Tag) (f : UnitRecord → UnitRecord)
    (keeps : ∀ r, (f r).tag = r.tag) :
    (s.onUnit tag f).findUnit other =
      (s.findUnit other).map fun r => if r.tag == tag then f r else r := by
  unfold State.findUnit
  rw [onUnit_register, List.find?_map]
  congr 2
  funext r
  simp only [Function.comp_apply]
  split
  · rw [keeps]
  · rfl

/-- A fault names its phase in the unit's record, and in no other. -/
theorem recordFault_writeFaultedPhase (s : State) (i : StationId) (f : StationFault) (tag : Tag) :
    recordFault (s.writeFaultedPhase i f) tag =
      if (s.station i).unit = some tag then
        (recordFault s tag).map fun before => (recordFaultPhase f).or before
      else recordFault s tag := by
  unfold State.writeFaultedPhase
  split
  · rename_i held p unit phase
    rw [unit, phase]
    have tagged : ∀ r, s.findUnit tag = some r → r.tag = tag := fun r found => by
      simpa using List.find?_some found
    rw [recordFault, findUnit_onUnit s held tag (fun r => { r with faultedPhase := some p }) fun _ => rfl, recordFault]
    cases found : s.findUnit tag with
    | none => simp
    | some r =>
      rw [← tagged r found]
      by_cases e : held = r.tag
      · simp [e]
      · simp [e, Ne.symm e]
  · rename_i nowhere
    split
    · rename_i unit
      have unnamed : recordFaultPhase f = none := by
        cases phase : recordFaultPhase f with
        | none => rfl
        | some p => exact absurd phase (nowhere tag p unit)
      rw [unnamed]
      simp
    · rfl

/-! ### The fault action of a reset (R67, R77) -/

/-- A station that has entered FAULTED by a reset, with its valves ordered closed. -/
def faultedAtReset (a b c : Nat) (x : Station) : Station :=
  { (valvesClosed a b c { x with
      faultedPhase := some (.phase x.workPhase), phase := .faulted, nextPhase := none }).clearWork with
    train := none }

/-- What the reset of one station does: its own state, the sample cycle that it abandons, and the faulted phase
of its unit's record; the other stations and the trains stand as before. -/
structure StationActed (i : StationId) (s t : State) : Prop where
  others : ∀ j, j ≠ i → t.station j = s.station j
  trains : t.arbiter.trains = s.arbiter.trains
  rests : (s.station i).phase ≠ .faulted → (s.station i).unit = none →
    t.station i = { s.station i with train := none } ∧ t.classifier.cycle = s.classifier.cycle
  faulted : (s.station i).phase = .faulted → ∃ a b c, CloseOrders i (s.now + 3000) a b c t ∧
    t.station i = { valvesClosed a b c (s.station i) with train := none } ∧
      t.classifier.cycle = s.classifier.cycle
  faults : (s.station i).phase ≠ .faulted → (s.station i).unit ≠ none →
    ∃ a b c, CloseOrders i (s.now + 3000) a b c t ∧ t.station i = faultedAtReset a b c (s.station i) ∧
      t.classifier.cycle = s.classifier.cycle.map (abandonedFor i b)
  records : ∀ tag, recordFault t tag =
    if (s.station i).phase ≠ .faulted ∧ (s.station i).unit = some tag then
      (recordFault s tag).map fun before => (recordFaultPhase (.phase (s.station i).workPhase)).or before
    else recordFault s tag

/-- The fault action up to the entry to FAULTED (steps 1 and 2 of R67). -/
def entersFaulted (s : State) (i : StationId) (f : StationFault) : State :=
  ((s.writeFaultedPhase i f).onStation i fun x => { x with faultedPhase := some f }).enterPhase i .faulted

theorem writeFaultedPhase_keeps (s : State) (i : StationId) (f : StationFault) :
    s.writeFaultedPhase i f = { s with register := (s.writeFaultedPhase i f).register } := by
  unfold State.writeFaultedPhase
  split <;> rfl

theorem entersFaulted_keeps (still : s.running = false) (f : StationFault) :
    (∀ j, j ≠ i → (entersFaulted s i f).station j = s.station j) ∧
      (entersFaulted s i f).station i =
        { s.station i with faultedPhase := some f, phase := .faulted, nextPhase := none } ∧
      (entersFaulted s i f).arbiter = s.arbiter ∧ (entersFaulted s i f).classifier = s.classifier ∧
      (entersFaulted s i f).now = s.now ∧
      (entersFaulted s i f).register = (s.writeFaultedPhase i f).register := by
  obtain ⟨g, g_eq⟩ : ∃ g, g = s.writeFaultedPhase i f := ⟨_, rfl⟩
  have same := writeFaultedPhase_keeps s i f
  rw [← g_eq] at same
  have station (j : StationId) : g.station j = s.station j := by rw [same]; rfl
  have rest : g.arbiter = s.arbiter ∧ g.classifier = s.classifier ∧ g.now = s.now ∧ g.running = s.running := by
    rw [same]
    exact ⟨rfl, rfl, rfl, rfl⟩
  obtain ⟨arbiter, classifier, now, running⟩ := rest
  unfold entersFaulted State.enterPhase
  rw [← g_eq, onStation_onStation]
  generalize unit_eq : ((g.onStation i fun x => { x with faultedPhase := some f }).station i).unit = unit
  obtain ⟨stations', arbiter', -⟩ := watchEntry_keeps (s := g.onStation i fun x =>
    { x with faultedPhase := some f, phase := .faulted, nextPhase := none }) (running.trans still) (stationRank i)
    unit (stationPhaseName .faulted)
  have at_ (j : StationId) : ((g.onStation i fun x => { x with
      faultedPhase := some f, phase := .faulted, nextPhase := none }).watchEntry (stationRank i) unit
        (stationPhaseName .faulted)).station j = (g.onStation i fun x => { x with
          faultedPhase := some f, phase := .faulted, nextPhase := none }).station j := by
    unfold State.station
    rw [stations']
  refine ⟨fun j ne => ?_, ?_, arbiter'.trans arbiter, ?_, ?_, ?_⟩
  · rw [at_, station_onStation_ne _ _ _ _ (Ne.symm ne), station]
  · rw [at_, station_onStation, station]
  · rw [watchEntry_classifier]
    exact classifier
  · rw [watchEntry_now]
    exact now
  · rw [watchEntry_register]
    rfl

theorem resetStation_rests (phase : (s.station i).phase ≠ .faulted)
    (unit : (s.station i).unit = none) :
    s.resetStation i = s.dropTrain i := by
  rw [State.resetStation]
  simp [phase, unit]

theorem resetStation_faulted (phase : (s.station i).phase = .faulted) :
    s.resetStation i = (s.closeValves i).dropTrain i := by
  rw [State.resetStation]
  simp [phase]

theorem resetStation_held (phase : (s.station i).phase ≠ .faulted)
    (unit : (s.station i).unit ≠ none) :
    s.resetStation i = (s.faultStation i (.phase (s.station i).workPhase) false).dropTrain i := by
  rw [State.resetStation]
  simp [phase, Option.isSome_iff_ne_none.mpr unit]

end
end Sys2Proof.Proofs

namespace Sys2Proof.Proofs

open Sys2Proof Sys2Proof.Machine Sys2Proof.Laws

/-! ## Stations with their valves closed -/

section
variable {s : State} {i : StationId}

theorem sampleClose_valvesClosed {a b c : Nat} {x : Station}
    (closed : s.station i = valvesClosed a b c x) :
    s.sampleClose i = some b := by
  rw [State.sampleClose, closed]
  rfl

theorem station_dropTrain (s : State) (i : StationId) :
    (s.dropTrain i).station i = { s.station i with train := none } := station_onStation ..

theorem station_dropTrain_ne {j : StationId} (ne : j ≠ i) :
    (s.dropTrain i).station j = s.station j :=
  station_onStation_ne _ _ _ _ (Ne.symm ne)

/-- The fault action of a reset, from its entry to FAULTED on (steps 3, 5 and 6 of R67). -/
theorem faultStation_eq (s : State) (i : StationId) (f : StationFault) :
    s.faultStation i f false =
      ((((entersFaulted s i f).closeValves i).abandonFor i).leaveLists i).onStation i Station.clearWork := rfl

/-- The reset of a station that holds a unit (R77). -/
theorem resetStation_held_acted (still : s.running = false) (phase : (s.station i).phase ≠ .faulted)
    (unit : (s.station i).unit ≠ none) : StationActed i s (s.resetStation i) := by
  obtain ⟨others, here, arbiter, classifier, now, register⟩ :=
    entersFaulted_keeps (i := i) still (.phase (s.station i).workPhase)
  rw [resetStation_held phase unit, faultStation_eq]
  generalize entersFaulted s i (.phase (s.station i).workPhase) = w at *
  obtain ⟨a, b, c, orders, closed⟩ := closeValves_orders w i
  obtain ⟨others', classifier', arbiter', register'⟩ := closeValves_keeps w i
  rw [abandonFor_eq (sampleClose_valvesClosed closed)]
  rw [now] at orders
  generalize w.closeValves i = v at *
  refine ⟨fun j ne => ?_, ?_, fun _ none => absurd none unit, fun faulted => absurd faulted phase,
    fun _ _ => ⟨a, b, c, orders, ?_, ?_⟩, fun tag => ?_⟩
  · rw [station_dropTrain_ne ne, station_onStation_ne _ _ _ _ (Ne.symm ne), ← others j ne, ← others' j ne]
    rfl
  · exact (congrArg Arbiter.trains (arbiter'.trans arbiter) :)
  · rw [station_dropTrain, station_onStation]
    show { v.station i |>.clearWork with train := none } = _
    rw [closed, here]
    rfl
  · show v.classifier.cycle.map _ = _
    rw [classifier', classifier]
  · have same : (recordFault (s.writeFaultedPhase i (.phase (s.station i).workPhase)) tag : _) =
        recordFault _ tag := (recordFault_congr (register'.trans register) tag).symm
    refine Eq.trans ?_ (same.symm.trans ?_)
    · rfl
    · rw [recordFault_writeFaultedPhase]
      simp [phase]

/-- The reset of a station acts on it as R77 says. -/
theorem resetStation_acted (still : s.running = false) (i : StationId) :
    StationActed i s (s.resetStation i) := by
  by_cases phase : (s.station i).phase = .faulted
  · obtain ⟨a, b, c, orders, closed⟩ := closeValves_orders s i
    obtain ⟨others, classifier, arbiter, register⟩ := closeValves_keeps s i
    rw [resetStation_faulted phase]
    refine ⟨fun j ne => ?_, congrArg Arbiter.trains arbiter, fun other => absurd phase other,
      fun _ => ⟨a, b, c, orders, ?_, congrArg Classifier.cycle classifier⟩, fun other => absurd phase other,
      fun tag => ?_⟩
    · rw [station_dropTrain_ne ne, others j ne]
    · rw [station_dropTrain, closed]
    · rw [if_neg fun h => h.1 phase]
      exact recordFault_congr register tag
  · by_cases unit : (s.station i).unit = none
    · rw [resetStation_rests phase unit]
      refine ⟨fun j => station_dropTrain_ne, rfl, fun _ _ => ⟨station_dropTrain s i, rfl⟩,
        fun faulted => absurd faulted phase, fun _ held => absurd unit held, fun tag => ?_⟩
      rw [unit, if_neg (by simp)]
      rfl
    · exact resetStation_held_acted still phase unit

end

/-! ## The stations' part of a reset -/

/-- One station after another acts on what it finds; what each leaves of its own, the others keep. -/
theorem forAll_each {α : Type} {f : State → α → State} {Inv : State → Prop}
    {Before After : α → State → Prop}
    (acts : ∀ s x, Inv s → Before x s → Inv (f s x) ∧ After x (f s x))
    (before : ∀ s x y, Inv s → Before x s → y ≠ x → Before y s → Before y (f s x))
    (after : ∀ s x y, Inv s → Before x s → y ≠ x → After y s → After y (f s x))
    (items : List α) (nodup : items.Nodup) (s : State) (inv : Inv s) (start : ∀ x ∈ items, Before x s) :
    Inv (forAll items s f) ∧ (∀ x ∈ items, After x (forAll items s f)) ∧
      ∀ x, x ∉ items → After x s → After x (forAll items s f) := by
  induction items generalizing s with
  | nil => exact ⟨inv, List.forall_mem_nil _, fun _ _ => id⟩
  | cons x xs ih =>
    obtain ⟨apart, nodup⟩ := List.nodup_cons.mp nodup
    obtain ⟨first, rest⟩ := List.forall_mem_cons.mp start
    obtain ⟨inv', done⟩ := acts s x inv first
    have ne : ∀ y ∈ xs, y ≠ x := fun y hy e => apart (e ▸ hy)
    obtain ⟨inv'', all, kept⟩ := ih nodup (f s x) inv' fun y hy =>
      before s x y inv first (ne y hy) (rest y hy)
    rw [forAll_cons]
    refine ⟨inv'', List.forall_mem_cons.mpr ⟨kept x apart done, all⟩, fun y hy h => kept y ?_ ?_⟩
    · exact fun mem => hy (List.mem_cons_of_mem _ mem)
    · exact after s x y inv first (fun e => hy (e ▸ List.mem_cons_self)) h

/-- A unit that one station only holds. -/
def Sole (s : State) (i : StationId) (tag : Tag) : Prop :=
  (s.station i).unit = some tag ∧ ∀ j, (s.station j).unit = some tag → j = i

/-- A station whose turn has not come stands as before the reset, and so do its unit's record and a sample
cycle of it. -/
structure Untouched (s : State) (i : StationId) (t : State) : Prop where
  station : t.station i = s.station i
  cycle : ∀ y, s.classifier.cycle = some y → y.station = i → t.classifier.cycle = s.classifier.cycle
  record : ∀ tag, Sole s i tag → recordFault t tag = recordFault s tag

/-- A station whose turn has come (R77). -/
structure StationDone (s : State) (i : StationId) (t : State) : Prop where
  rests : (s.station i).phase ≠ .faulted → (s.station i).unit = none →
    t.station i = { s.station i with train := none }
  faulted : (s.station i).phase = .faulted → ∃ a b c, CloseOrders i (s.now + 3000) a b c t ∧
    t.station i = { valvesClosed a b c (s.station i) with train := none }
  faults : (s.station i).phase ≠ .faulted → (s.station i).unit ≠ none →
    ∃ a b c, CloseOrders i (s.now + 3000) a b c t ∧ t.station i = faultedAtReset a b c (s.station i) ∧
      ∀ y, s.classifier.cycle = some y → y.station = i → y.stage ≠ .closing →
        t.classifier.cycle = some (abandoned y b)
  record : ∀ tag, Sole s i tag → recordFault t tag =
    if (s.station i).phase ≠ .faulted then
      (recordFault s tag).map fun before => (recordFaultPhase (.phase (s.station i).workPhase)).or before
    else recordFault s tag

/-- The sample cycle stands as before the reset, or it is abandoned with a close of its station's valve. -/
def CycleKnown (s t : State) : Prop :=
  t.classifier.cycle = s.classifier.cycle ∨
    ∃ y n, s.classifier.cycle = some y ∧ y.stage ≠ .closing ∧ t.classifier.cycle = some (abandoned y n) ∧
      ∃ o ∈ t.loop.orders, o.node = .station y.station ∧ o.number = n ∧ o.kind = .sampleValve false

/-- What holds between two stations' turns. -/
structure StationsResetting (s t : State) : Prop where
  framed : Framed s t
  trains : t.arbiter.trains = s.arbiter.trains
  cycle : CycleKnown s t

section
variable {s t : State} {i j : StationId}

theorem abandonedFor_abandoned (i : StationId) (b n : Nat) (y : SampleCycle) :
    abandonedFor i b (abandoned y n) = abandoned y n := if_neg fun h => h.2 rfl

/-- What one station's turn makes of the sample cycle. -/
theorem StationActed.cycle_cases (h : StationActed i s t) :
    t.classifier.cycle = s.classifier.cycle ∨ ∃ b, t.classifier.cycle = s.classifier.cycle.map (abandonedFor i b) ∧
      ∃ o ∈ t.loop.orders, o.node = .station i ∧ o.number = b ∧ o.kind = .sampleValve false := by
  by_cases phase : (s.station i).phase = .faulted
  · obtain ⟨a, b, c, -, -, cycle⟩ := h.faulted phase
    exact .inl cycle
  · by_cases unit : (s.station i).unit = none
    · exact .inl (h.rests phase unit).2
    · obtain ⟨a, b, c, orders, -, cycle⟩ := h.faults phase unit
      obtain ⟨o, mem, node, number, kind, -⟩ := orders (b, .sampleValve false) (by simp)
      exact .inr ⟨b, cycle, o, mem, node, number, kind⟩

/-- A cycle of another station, or one that is CLOSING, runs on. -/
theorem StationActed.cycle_other {y : SampleCycle} (h : StationActed i s t)
    (cycle : s.classifier.cycle = some y) (apart : y.station ≠ i ∨ y.stage = .closing) :
    t.classifier.cycle = some y := by
  rcases h.cycle_cases with same | ⟨b, same, -⟩
  · rw [same, cycle]
  · rw [same, cycle, Option.map_some, abandonedFor, if_neg]
    rintro ⟨here, on⟩
    exact apart.elim (· here) on

theorem CycleKnown.step {u : State} (known : CycleKnown s t) (h : StationActed i t u)
    (orders : t.loop.orders ⊆ u.loop.orders) : CycleKnown s u := by
  rcases known with same | ⟨y, n, cycle, on, gone, o, mem, order⟩
  · rcases h.cycle_cases with same' | ⟨b, cycle', o, mem, order⟩
    · exact .inl (same'.trans same)
    · rw [same] at cycle'
      cases cycle : s.classifier.cycle with
      | none =>
        rw [cycle] at cycle'
        exact .inl (cycle'.trans cycle.symm)
      | some y =>
        rw [cycle, Option.map_some, abandonedFor] at cycle'
        split at cycle'
        · rename_i closes
          obtain ⟨here, on⟩ := closes
          exact .inr ⟨y, b, cycle, on, cycle', o, mem, here ▸ order⟩
        · exact .inl (cycle'.trans cycle.symm)
  · exact .inr ⟨y, n, cycle, on, h.cycle_other gone (.inr rfl), o, orders mem, order⟩

/-- A station's turn leaves the record of another's unit alone. -/
theorem StationActed.record_other {u : State} {tag : Tag} (h : StationActed j t u)
    (stood : t.station j = s.station j) (sole : Sole s i tag) (ne : i ≠ j) :
    recordFault u tag = recordFault t tag := by
  rw [h.records, if_neg]
  rw [stood]
  exact fun held => ne (sole.2 j held.2).symm

theorem untouched_step {u : State} (h : StationActed j t u) (turn : Untouched s j t) (ne : i ≠ j)
    (waits : Untouched s i t) : Untouched s i u where
  station := (h.others i ne).trans waits.station
  cycle y cycle here := by
    rw [h.cycle_other ((waits.cycle y cycle here).trans cycle) (.inl (here ▸ ne)), cycle]
  record tag sole := (h.record_other turn.station sole ne).trans (waits.record tag sole)

theorem stationDone_step {u : State} (h : StationActed j t u) (turn : Untouched s j t) (ne : i ≠ j)
    (orders : t.loop.orders ⊆ u.loop.orders) (done : StationDone s i t) : StationDone s i u where
  rests phase unit := (h.others i ne).trans (done.rests phase unit)
  faulted phase := by
    obtain ⟨a, b, c, close, station⟩ := done.faulted phase
    exact ⟨a, b, c, close.mono orders, (h.others i ne).trans station⟩
  faults phase unit := by
    obtain ⟨a, b, c, close, station, cycle⟩ := done.faults phase unit
    exact ⟨a, b, c, close.mono orders, (h.others i ne).trans station, fun y held here on =>
      h.cycle_other (cycle y held here on) (.inr rfl)⟩
  record tag sole := (h.record_other turn.station sole ne).trans (done.record tag sole)

theorem stationDone_acted {u : State} (h : StationActed i t u) (turn : Untouched s i t)
    (now : t.now = s.now) :
    StationDone s i u where
  rests phase unit := by
    rw [← turn.station] at phase unit ⊢
    exact (h.rests phase unit).1
  faulted phase := by
    rw [← turn.station] at phase
    obtain ⟨a, b, c, close, station, -⟩ := h.faulted phase
    exact ⟨a, b, c, now ▸ close, turn.station ▸ station⟩
  faults phase unit := by
    rw [← turn.station] at phase unit
    obtain ⟨a, b, c, close, station, cycle⟩ := h.faults phase unit
    refine ⟨a, b, c, now ▸ close, turn.station ▸ station, fun y held here on => ?_⟩
    rw [cycle, turn.cycle y held here, held, Option.map_some, abandonedFor, if_pos ⟨here, on⟩]
  record tag sole := by
    rw [h.records, turn.station, turn.record tag sole, sole.1]
    simp

/-- After the stations' turns (R77). -/
theorem resetStations (still : Stilled s.control) :
    StationsResetting s (forAll stationIds s State.resetStation) ∧
      ∀ i, StationDone s i (forAll stationIds s State.resetStation) := by
  have acted (u : State) (i : StationId) (inv : StationsResetting s u) : StationActed i u (u.resetStation i) :=
    resetStation_acted inv.framed.still.running i
  have framed (u : State) (i : StationId) (inv : StationsResetting s u) : Framed u (u.resetStation i) :=
    resetStation_framed i (.refl inv.framed.still)
  have start : ∀ i ∈ stationIds, Untouched s i s := fun i _ => ⟨rfl, fun _ _ _ => rfl, fun _ _ => rfl⟩
  have acts (u : State) (i : StationId) (inv : StationsResetting s u) (turn : Untouched s i u) :
      StationsResetting s (u.resetStation i) ∧ StationDone s i (u.resetStation i) :=
    ⟨⟨inv.framed.trans (framed u i inv), (acted u i inv).trains.trans inv.trains,
      inv.cycle.step (acted u i inv) (framed u i inv).orders⟩,
      stationDone_acted (acted u i inv) turn inv.framed.now⟩
  obtain ⟨inv, done, -⟩ := forAll_each acts
    (fun u i j inv turn ne waits => untouched_step (acted u i inv) turn ne waits)
    (fun u i j inv turn ne done => stationDone_step (acted u i inv) turn ne (framed u i inv).orders done)
    stationIds (by decide) s ⟨.refl still, rfl, .inl rfl⟩ start
  exact ⟨inv, fun i => done i (mem_stationIds i)⟩

end
end Sys2Proof.Proofs

namespace Sys2Proof.Proofs

open Sys2Proof Sys2Proof.Machine Sys2Proof.Laws

/-! ## The sample cycle at a reset (R39, R41) -/

/-- Where the sample cycle stands after a reset: abandoned with a close of its station's valve, or CLOSING as
before. -/
structure CycleDone (s t : State) : Prop where
  abandoned : ∀ y, s.classifier.cycle = some y → y.stage ≠ .closing → ∃ n,
    t.classifier.cycle = some { y with stage := .closing, abandoned := true, closeOrder := some n } ∧
      ∃ o ∈ t.loop.orders, o.node = .station y.station ∧ o.number = n ∧ o.kind = .sampleValve false
  closing : (∀ y, s.classifier.cycle = some y → y.stage = .closing) →
    t.classifier.cycle = s.classifier.cycle

section
variable {s t u : State} {i : StationId}

theorem abandonCycle_of_closing {y : SampleCycle} (close : Option Nat)
    (cycle : s.classifier.cycle = some y)
    (closing : y.stage = .closing) : s.abandonCycle close = s := by
  rw [State.abandonCycle, cycle]
  simp [closing]

theorem abandonCycle_of_none (close : Option Nat) (cycle : s.classifier.cycle = none) :
    s.abandonCycle close = s := by
  rw [State.abandonCycle, cycle]

/-- The Classifier orders the close itself (R39). -/
theorem abandonCycle_of_on {y : SampleCycle} (cycle : s.classifier.cycle = some y)
    (on : y.stage ≠ .closing) :
    s.abandonCycle none =
      (s.issue .classifier (.station y.station) (.sampleValve false)).setCycle
        (some (abandoned y s.orderNumber)) := by
  rw [State.abandonCycle, cycle]
  simp only [beq_iff_eq, on, if_false]
  rfl

theorem cycleDone_abandonCycle (known : CycleKnown s t) : CycleDone s (t.abandonCycle none) := by
  rcases known with same | ⟨y, n, cycle, on, gone, o, mem, order⟩
  · cases cycle : s.classifier.cycle with
    | none =>
      rw [abandonCycle_of_none none (same.trans cycle)]
      exact ⟨fun y held => by simp [cycle] at held, fun _ => same⟩
    | some y =>
      by_cases closing : y.stage = .closing
      · rw [abandonCycle_of_closing none (same.trans cycle) closing]
        refine ⟨fun z held on => ?_, fun _ => same⟩
        cases cycle.symm.trans held
        exact absurd closing on
      · rw [abandonCycle_of_on (same.trans cycle) closing]
        refine ⟨fun z held on => ?_, fun all => absurd (all y cycle) closing⟩
        cases cycle.symm.trans held
        exact ⟨_, rfl, _, issued_mem t .classifier (.station y.station) (.sampleValve false), rfl, rfl, rfl⟩
  · rw [abandonCycle_of_closing none gone rfl]
    refine ⟨fun z held _ => ?_, fun all => absurd (all y cycle) on⟩
    cases cycle.symm.trans held
    exact ⟨n, gone, o, mem, order⟩

/-- `abandonCycle` changes the cycle and issues an order, and no more. -/
theorem abandonCycle_keeps (s : State) (close : Option Nat) :
    (s.abandonCycle close).stations = s.stations ∧ (s.abandonCycle close).arbiter = s.arbiter ∧
      (s.abandonCycle close).register = s.register := by
  unfold State.abandonCycle
  (repeat' split) <;> exact ⟨rfl, rfl, rfl⟩

/-- What a station's reset has left stays, while stations and records stand, orders stay outstanding and an
abandoned cycle stays as it is. -/
theorem StationDone.kept (done : StationDone s i t) (station : u.station i = t.station i)
    (orders : t.loop.orders ⊆ u.loop.orders) (record : ∀ tag, recordFault u tag = recordFault t tag)
    (cycle : ∀ y b, t.classifier.cycle = some (abandoned y b) → u.classifier.cycle = t.classifier.cycle) :
    StationDone s i u where
  rests phase unit := station.trans (done.rests phase unit)
  faulted phase := by
    obtain ⟨a, b, c, close, stands⟩ := done.faulted phase
    exact ⟨a, b, c, close.mono orders, station.trans stands⟩
  faults phase unit := by
    obtain ⟨a, b, c, close, stands, gone⟩ := done.faults phase unit
    refine ⟨a, b, c, close.mono orders, station.trans stands, fun y held here on => ?_⟩
    rw [cycle y b (gone y held here on), gone y held here on]
  record tag sole := (record tag).trans (done.record tag sole)

theorem CycleDone.kept (done : CycleDone s t) (cycle : u.classifier.cycle = t.classifier.cycle)
    (orders : t.loop.orders ⊆ u.loop.orders) : CycleDone s u where
  abandoned y held on := by
    obtain ⟨n, gone, o, mem, order⟩ := done.abandoned y held on
    exact ⟨n, cycle.trans gone, o, orders mem, order⟩
  closing all := cycle.trans (done.closing all)

end

/-! ## The trains' part of a reset (R95) -/

/-- A train after its reset. -/
def trainAtReset (x : Train) : Train := { x.released with lastClass := none, state := .idle }

/-- The stop and close orders of a train that was at work. -/
def StopOrders (k : TrainId) (now : Moment) (t : State) : Prop :=
  ∀ kind ∈ [OrderKind.compressorStop, .purgeValve false, .outletClose],
    ∃ o ∈ t.loop.orders, o.node = .train k ∧ o.kind = kind ∧ o.issuer = .pathArbiter ∧
      o.deadline = now + orderTimeoutOf kind

/-- A train's turn at a reset (R95). -/
structure TrainDone (s : State) (k : TrainId) (t : State) : Prop where
  outOfService : (s.train k).state = .outOfService → t.train k = s.train k
  idle : (s.train k).state ≠ .outOfService → t.train k = trainAtReset (s.train k)
  stops : (s.train k).state ∈ [TrainState.purging, .drawing, .paused, .waitVessel, .tailing] →
    StopOrders k s.now t

/-- What holds between two trains' turns. -/
structure TrainsResetting (s t : State) : Prop where
  framed : Framed s t
  stations : t.stations = s.stations
  classifier : t.classifier = s.classifier
  register : t.register = s.register

section
variable {s t u : State} {k : TrainId}

theorem stopTrain_orders (s : State) (k : TrainId) : StopOrders k s.now (s.stopTrain k) := by
  have stop := issued_mem s .pathArbiter (.train k) .compressorStop
  have purge := issued_mem (s.orderTrain k .compressorStop) .pathArbiter (.train k) (.purgeValve false)
  have outlet := issued_mem ((s.orderTrain k .compressorStop).orderTrain k (.purgeValve false)) .pathArbiter
    (.train k) .outletClose
  have kept (x : State) (kind : OrderKind) (o : Order) (mem : o ∈ x.loop.orders) :
      o ∈ (x.orderTrain k kind).loop.orders := List.mem_append_left _ mem
  simp only [StopOrders, List.forall_mem_cons]
  exact ⟨⟨_, kept _ _ _ (kept _ _ _ stop), rfl, rfl, rfl, rfl⟩, ⟨_, kept _ _ _ purge, rfl, rfl, rfl, rfl⟩,
    ⟨_, outlet, rfl, rfl, rfl, rfl⟩, List.forall_mem_nil _⟩

theorem StopOrders.mono {now : Moment} (h : StopOrders k now t)
    (orders : t.loop.orders ⊆ u.loop.orders) :
    StopOrders k now u := by
  intro kind hk
  obtain ⟨o, mem, rest⟩ := h kind hk
  exact ⟨o, orders mem, rest⟩

theorem resetTrain_cases (s : State) (k : TrainId) :
    ((s.train k).state = .outOfService ∧ s.resetTrain k = s) ∨
      ((s.train k).state ∈ [TrainState.purging, .drawing, .paused, .waitVessel, .tailing] ∧
        s.resetTrain k = (s.stopTrain k).onTrain k trainAtReset) ∨
      ((s.train k).state ∈ [TrainState.idle, .faulted] ∧ s.resetTrain k = s.onTrain k trainAtReset) := by
  unfold State.resetTrain
  cases (s.train k).state with
  | outOfService => exact .inl ⟨rfl, rfl⟩
  | purging | drawing | paused | waitVessel | tailing => exact .inr (.inl ⟨by simp, rfl⟩)
  | idle | faulted => exact .inr (.inr ⟨by simp, rfl⟩)

theorem resetTrain_keeps (s : State) (k : TrainId) :
    (s.resetTrain k).stations = s.stations ∧ (s.resetTrain k).classifier = s.classifier ∧
      (s.resetTrain k).register = s.register ∧ ∀ l, l ≠ k → (s.resetTrain k).train l = s.train l := by
  rcases resetTrain_cases s k with ⟨-, e⟩ | ⟨-, e⟩ | ⟨-, e⟩
  · rw [e]
    exact ⟨rfl, rfl, rfl, fun _ _ => rfl⟩
  · rw [e]
    exact ⟨rfl, rfl, rfl, fun l ne => train_onTrain_ne (s.stopTrain k) k l trainAtReset (Ne.symm ne)⟩
  · rw [e]
    exact ⟨rfl, rfl, rfl, fun l ne => train_onTrain_ne s k l trainAtReset (Ne.symm ne)⟩

theorem trainDone_resetTrain (stood : t.train k = s.train k) (now : t.now = s.now) :
    TrainDone s k (t.resetTrain k) := by
  rcases resetTrain_cases t k with ⟨state, e⟩ | ⟨state, e⟩ | ⟨state, e⟩
  all_goals rw [e]
  all_goals rw [stood] at state
  · exact ⟨fun _ => stood, fun other => absurd state other, fun work => by simp [state] at work⟩
  · refine ⟨fun oos => by simp [oos] at state, fun _ => ?_, fun _ => ?_⟩
    · rw [train_onTrain]
      exact congrArg trainAtReset stood
    · rw [← now]
      exact stopTrain_orders t k
  · refine ⟨fun oos => by simp [oos] at state, fun _ => ?_, fun work => ?_⟩
    · rw [train_onTrain]
      exact congrArg trainAtReset stood
    · rcases List.mem_pair.mp state with idle | faulted
      · simp [idle] at work
      · simp [faulted] at work

/-- After the trains' turns (R95). -/
theorem resetTrains (still : Stilled s.control) :
    TrainsResetting s (forAll trainIds s State.resetTrain) ∧
      ∀ k, TrainDone s k (forAll trainIds s State.resetTrain) := by
  have acts (u : State) (k : TrainId) (inv : TrainsResetting s u) (turn : u.train k = s.train k) :
      TrainsResetting s (u.resetTrain k) ∧ TrainDone s k (u.resetTrain k) := by
    obtain ⟨stations, classifier, register, -⟩ := resetTrain_keeps u k
    exact ⟨⟨resetTrain_framed k inv.framed, stations.trans inv.stations, classifier.trans inv.classifier,
      register.trans inv.register⟩, trainDone_resetTrain turn inv.framed.now⟩
  have after (u : State) (k l : TrainId) (inv : TrainsResetting s u) (_ : u.train k = s.train k) (ne : l ≠ k)
      (done : TrainDone s l u) : TrainDone s l (u.resetTrain k) := by
    obtain ⟨-, -, -, others⟩ := resetTrain_keeps u k
    exact ⟨fun oos => (others l ne).trans (done.outOfService oos), fun other => (others l ne).trans (done.idle other),
      fun work => (done.stops work).mono (resetTrain_framed k (.refl inv.framed.still)).orders⟩
  obtain ⟨inv, done, -⟩ := forAll_each acts
    (fun u k l _ _ ne waits => ((resetTrain_keeps u k).2.2.2 l ne).trans waits) after trainIds (by decide) s
    ⟨.refl still, rfl, rfl, rfl⟩ fun _ _ => rfl
  exact ⟨inv, fun k => done k (mem_trainIds k)⟩

end
end Sys2Proof.Proofs

namespace Sys2Proof.Proofs

open Sys2Proof Sys2Proof.Machine Sys2Proof.Laws

/-! ## The blocks after a reset's first part (R26, R41, R77, R95) -/

/-- What `State.resetBlocks` leaves. -/
structure BlocksReset (s t : State) : Prop where
  still : Stilled t.control
  settings : t.control.settings = s.control.settings
  unwatched : s.control.watch = [] → t.control.watch = []
  masks : t.monitor.masks = s.monitor.masks
  table : t.classifier.table = s.classifier.table
  paths : t.arbiter.paths = s.arbiter.paths
  slots : t.slots = s.slots
  link : t.link = s.link
  resetPin : t.resetPin = s.resetPin
  log : t.register.log = s.register.log
  closing : t.register.closing = s.register.closing
  entries : t.register.units.map entriesOf =
    s.register.units.map fun r => (r.tag, r.allocations.map fun e => { e with isOpen := false })
  stations : ∀ i, StationDone s i t
  trains : ∀ k, TrainDone s k t
  cycle : CycleDone s t

section
variable {s t : State}

theorem recordFault_closeAllEntries (s : State) (tag : Tag) :
    recordFault s.closeAllEntries tag = recordFault s tag := by
  unfold recordFault State.findUnit State.closeAllEntries
  dsimp only
  rw [List.find?_map, Option.map_map]
  rfl

/-- The trains stand as they stood when their turns began. -/
theorem TrainDone.base {u : State} {k : TrainId} (h : TrainDone u k t)
    (train : u.train k = s.train k)
    (now : u.now = s.now) : TrainDone s k t where
  outOfService oos := (h.outOfService (train ▸ oos)).trans train
  idle other := (h.idle (train ▸ other)).trans (congrArg trainAtReset train)
  stops work := now ▸ h.stops (train ▸ work)

theorem resetBlocks_done (s : State) : BlocksReset s s.resetBlocks := by
  obtain ⟨⟨framed, trains, known⟩, stations⟩ := resetStations (stilled_resetLine s)
  show BlocksReset s (forAll trainIds ((forAll stationIds s.resetLine State.resetStation).abandonCycle none)
    State.resetTrain).closeAllEntries
  generalize forAll stationIds s.resetLine State.resetStation = a at *
  have cycle := cycleDone_abandonCycle known
  have framed' := abandonCycle_framed none framed
  have orders' := (abandonCycle_framed none (.refl framed.still)).orders
  have closing' (y : SampleCycle) (b : Nat) (gone : a.classifier.cycle = some (abandoned y b)) :
      (a.abandonCycle none).classifier.cycle = a.classifier.cycle := by
    rw [abandonCycle_of_closing none gone rfl]
  obtain ⟨stations', arbiter', register'⟩ := abandonCycle_keeps a none
  generalize a.abandonCycle none = b at *
  obtain ⟨⟨framed'', stations'', classifier'', register''⟩, trained⟩ := resetTrains framed'.still
  generalize forAll trainIds b State.resetTrain = c at *
  have all : Framed s.resetLine c := framed'.trans framed''
  have station (i : StationId) : c.closeAllEntries.station i = a.station i := by
    show c.station i = a.station i
    unfold State.station
    rw [stations'', stations']
  have record (tag : Tag) : recordFault c.closeAllEntries tag = recordFault a tag := by
    rw [recordFault_closeAllEntries, recordFault_congr register'', recordFault_congr register']
  have cycle'' : c.closeAllEntries.classifier.cycle = b.classifier.cycle := congrArg Classifier.cycle classifier''
  have train (k : TrainId) : b.train k = s.train k := by
    unfold State.train
    rw [arbiter', trains]
    rfl
  have done (i : StationId) : StationDone s.resetLine i c.closeAllEntries :=
    (stations i).kept (station i) (fun _ mem => framed''.orders (orders' mem)) record fun y b gone =>
      cycle''.trans (closing' y b gone)
  have cycled : CycleDone s.resetLine c.closeAllEntries := cycle.kept cycle'' framed''.orders
  refine ⟨all.still, all.settings, all.unwatched, all.masks, all.table, all.paths, all.slots, all.link, all.resetPin,
    all.log, all.closing, ?_, fun i => ⟨(done i).rests, (done i).faulted, (done i).faults, (done i).record⟩,
    fun k => ?_, ⟨cycled.abandoned, cycled.closing⟩⟩
  · have closed := congrArg (List.map fun x : Tag × List Allocation => (x.1, x.2.map Allocation.close)) all.entries
    rw [List.map_map, List.map_map] at closed
    refine Eq.trans ?_ closed
    show (c.register.units.map UnitRecord.closeEntry).map entriesOf = _
    rw [List.map_map]
    rfl
  · have k_done := (trained k).base (s := s) (train k) framed'.now
    exact ⟨k_done.outOfService, k_done.idle, k_done.stops⟩

end

/-! ## What the later actions carry on -/

/-- What the actions after `State.resetBlocks` leave of it. -/
structure Carried (u t : State) : Prop where
  still : Stilled u.control → Stilled t.control
  settings : t.control.settings = u.control.settings
  masks : t.monitor.masks = u.monitor.masks
  table : t.classifier.table = u.classifier.table
  cycle : t.classifier.cycle = u.classifier.cycle
  paths : t.arbiter.paths = u.arbiter.paths
  trains : t.arbiter.trains = u.arbiter.trains
  orders : u.loop.orders ⊆ t.loop.orders
  stations : ∀ i, ∃ unit, t.station i = { u.station i with unit := unit } ∧
    ((u.station i).unit = none → unit = none)

theorem Carried.trans {u v t : State} (h : Carried u v) (h' : Carried v t) : Carried u t where
  still := h'.still ∘ h.still
  settings := h'.settings.trans h.settings
  masks := h'.masks.trans h.masks
  table := h'.table.trans h.table
  cycle := h'.cycle.trans h.cycle
  paths := h'.paths.trans h.paths
  trains := h'.trains.trans h.trains
  orders := fun _ mem => h'.orders (h.orders mem)
  stations i := by
    obtain ⟨unit, station, none⟩ := h.stations i
    obtain ⟨unit', station', none'⟩ := h'.stations i
    rw [station] at station' none'
    exact ⟨unit', station', none' ∘ none⟩

theorem carried_of_same {u t : State} (control : t.control = u.control)
    (masks : t.monitor.masks = u.monitor.masks)
    (table : t.classifier.table = u.classifier.table) (cycle : t.classifier.cycle = u.classifier.cycle)
    (paths : t.arbiter.paths = u.arbiter.paths) (trains : t.arbiter.trains = u.arbiter.trains)
    (orders : t.loop = u.loop) (stations : t.stations = u.stations) : Carried u t where
  still still := control ▸ still
  settings := by rw [control]
  masks := masks
  table := table
  cycle := cycle
  paths := paths
  trains := trains
  orders := by rw [orders]; exact fun _ => id
  stations i := by
    refine ⟨(u.station i).unit, ?_, id⟩
    unfold State.station
    rw [stations]

/-! ### The clauses of O57 -/

/-- A station after a reset (R77). -/
def StationLeft (x y : Station) : Prop :=
  y.train = none ∧
    (x.phase = .faulted ∨ x.unit ≠ none → y.phase = .faulted) ∧
    (x.phase = .faulted → y.faultedPhase = x.faultedPhase) ∧
    (x.phase ≠ .faulted → x.unit ≠ none → y.faultedPhase = some (.phase x.workPhase)) ∧
    (x.phase ≠ .faulted → x.unit = none → y = { x with train := none }) ∧
    (y.phase = .empty ∨ y.phase = .faulted ∨ (y.phase = .done ∧ y.unclamping = true))

/-- A train after a reset (R95). -/
def TrainLeft (x y : Train) : Prop :=
  y.station = none ∧ y.slot = none ∧ (x.state = .outOfService → y = x) ∧
    (x.state ≠ .outOfService → y.state = .idle ∧ y.lastClass = none)

/-- The valves of a station after a reset, and the orders to them (R67, R77). -/
def ValvesOrdered (s : State) (i : StationId) (t : State) : Prop :=
  ∃ a b c,
    (t.station i).unsecured = [{ valve := .evac, order := some a },
      { valve := .sample, order := some b }, { valve := .drain, order := some c }] ∧
    ((t.station i).evacValve = if (s.station i).evacValve = .closed then .closed else .closing) ∧
    ((t.station i).evacOrder =
      if (s.station i).evacValve = .closed then (s.station i).evacOrder else some a) ∧
    CloseOrders i (s.now + 3000) a b c t ∧
    ∀ y, s.classifier.cycle = some y → y.station = i → y.stage ≠ .closing →
      (s.station i).phase ≠ .faulted → t.classifier.cycle = some (abandoned y b)

section
variable {s u t : State}

theorem stationLeft (done : BlocksReset s u) (carried : Carried u t) (i : StationId)
    (empty : (s.station i).unit = none → (s.station i).phase = .empty ∨ (s.station i).phase = .faulted ∨
      ((s.station i).phase = .done ∧ (s.station i).unclamping = true)) :
    StationLeft (s.station i) (t.station i) := by
  obtain ⟨unit', station, none'⟩ := carried.stations i
  obtain ⟨rests, faulted, faults, -⟩ := done.stations i
  rw [station]
  by_cases phase : (s.station i).phase = .faulted
  · obtain ⟨a, b, c, -, at_⟩ := faulted phase
    rw [at_]
    exact ⟨rfl, fun _ => phase, fun _ => rfl, fun other => absurd phase other, fun other => absurd phase other,
      .inr (.inl phase)⟩
  · by_cases unit : (s.station i).unit = none
    · have at_ := rests phase unit
      have same : { u.station i with unit := unit' } = { s.station i with train := none } := by
        rw [none' (by rw [at_]; exact unit), at_, ← unit]
      rw [same]
      exact ⟨rfl, fun held => absurd (held.resolve_left phase) (not_not_intro unit), fun other => absurd other phase,
        fun _ held => absurd unit held, fun _ _ => rfl, empty unit⟩
    · obtain ⟨a, b, c, -, at_, -⟩ := faults phase unit
      rw [at_]
      exact ⟨rfl, fun _ => rfl, fun other => absurd other phase, fun _ _ => rfl, fun _ none => absurd none unit,
        .inr (.inl rfl)⟩

theorem trainLeft (done : BlocksReset s u) (carried : Carried u t) (k : TrainId)
    (free : (s.train k).state = .outOfService → (s.train k).station = none ∧ (s.train k).slot = none) :
    TrainLeft (s.train k) (t.train k) := by
  have same : t.train k = u.train k := by
    unfold State.train
    rw [carried.trains]
  obtain ⟨outOfService, idle, -⟩ := done.trains k
  rw [same]
  by_cases oos : (s.train k).state = .outOfService
  · rw [outOfService oos]
    obtain ⟨station, slot⟩ := free oos
    exact ⟨station, slot, fun _ => rfl, fun other => absurd oos other⟩
  · rw [idle oos]
    exact ⟨rfl, rfl, fun other => absurd other oos, fun _ => ⟨rfl, rfl⟩⟩

theorem valvesOrdered (done : BlocksReset s u) (carried : Carried u t) (i : StationId)
    (held : (s.station i).phase = .faulted ∨ (s.station i).unit ≠ none) : ValvesOrdered s i t := by
  obtain ⟨unit', station, -⟩ := carried.stations i
  obtain ⟨-, faulted, faults, -⟩ := done.stations i
  unfold ValvesOrdered
  rw [station]
  by_cases phase : (s.station i).phase = .faulted
  · obtain ⟨a, b, c, close, at_⟩ := faulted phase
    rw [at_]
    exact ⟨a, b, c, rfl, rfl, rfl, close.mono carried.orders, fun _ _ _ _ other => absurd phase other⟩
  · obtain ⟨a, b, c, close, at_, gone⟩ := faults phase (held.resolve_left phase)
    rw [at_]
    exact ⟨a, b, c, rfl, rfl, rfl, close.mono carried.orders, fun y cycle here on _ =>
      carried.cycle.trans (gone y cycle here on)⟩

theorem CycleDone.carried (done : CycleDone s u) (carried : Carried u t) : CycleDone s t :=
  done.kept carried.cycle carried.orders

end
end Sys2Proof.Proofs

namespace Sys2Proof.Proofs

open Sys2Proof Sys2Proof.Machine Sys2Proof.Laws

/-! ## The chamber's and the Condenser's part of a reset, and the end of its event -/

/-- The chamber stands where a reset puts it: no condensing bank moves it on (R134). -/
def Resting (s : State) : Prop := s.chamber.phase = .idle ∨ s.chamber.phase = .faulted

/-- A record's faulted phase. -/
def faultOf (r : UnitRecord) : Tag × Option StationPhase := (r.tag, r.faultedPhase)

/-- What the chamber's and the Condenser's actions keep, and the end of an event with the line STOPPED. -/
structure Calm (s t : State) : Prop where
  framed : Framed s t
  stations : t.stations = s.stations
  arbiter : t.arbiter = s.arbiter
  classifier : t.classifier = s.classifier
  faults : t.register.units.map faultOf = s.register.units.map faultOf
  feed : t.chamber.feed = s.chamber.feed
  unit : t.chamber.unit = s.chamber.unit
  resting : Resting s → Resting t
  windows : ∀ bk, (s.bank bk).window = [] → (t.bank bk).window = []

theorem Calm.refl {s : State} (still : Stilled s.control) : Calm s s :=
  ⟨.refl still, rfl, rfl, rfl, rfl, rfl, rfl, id, fun _ => id⟩

theorem Calm.trans {s t u : State} (h : Calm s t) (h' : Calm t u) : Calm s u where
  framed := h.framed.trans h'.framed
  stations := h'.stations.trans h.stations
  arbiter := h'.arbiter.trans h.arbiter
  classifier := h'.classifier.trans h.classifier
  faults := h'.faults.trans h.faults
  feed := h'.feed.trans h.feed
  unit := h'.unit.trans h.unit
  resting := h'.resting ∘ h.resting
  windows bk := h'.windows bk ∘ h.windows bk

theorem Calm.carried {s t : State} (h : Calm s t) : Carried s t where
  still _ := h.framed.still
  settings := h.framed.settings
  masks := h.framed.masks
  table := h.framed.table
  cycle := by rw [h.classifier]
  paths := h.framed.paths
  trains := by rw [h.arbiter]
  orders := h.framed.orders
  stations i := by
    refine ⟨(s.station i).unit, ?_, id⟩
    unfold State.station
    rw [h.stations]

theorem Calm.recordFault {s t : State} (h : Calm s t) (tag : Tag) :
    recordFault t tag = recordFault s tag := by
  have read (u : State) : Proofs.recordFault u tag =
      ((u.register.units.map faultOf).find? fun x => x.1 == tag).map (·.2) := by
    unfold Proofs.recordFault State.findUnit
    rw [List.find?_map, Option.map_map]
    rfl
  rw [read, read, h.faults]

section
variable {s₀ s : State}

theorem Calm.of_same {t : State} (h : Calm s₀ s) (framed : Framed s t)
    (stations : t.stations = s.stations := by rfl) (arbiter : t.arbiter = s.arbiter := by rfl)
    (classifier : t.classifier = s.classifier := by rfl)
    (faults : t.register.units.map faultOf = s.register.units.map faultOf := by rfl)
    (chamber : t.chamber = s.chamber := by rfl)
    (windows : ∀ bk, (s.bank bk).window = [] → (t.bank bk).window = [] := by exact fun _ => id) : Calm s₀ t :=
  h.trans ⟨framed, stations, arbiter, classifier, faults, by rw [chamber], by rw [chamber],
    fun rests => by unfold Resting; rwa [chamber], windows⟩

theorem Calm.self (h : Calm s₀ s) : Framed s s := .refl h.framed.still

@[simp] theorem issue_calm (b : Issuer) (n : Node) (k : OrderKind) (h : Calm s₀ s) :
    Calm s₀ (s.issue b n k) := h.of_same (issue_framed b n k h.self)

@[simp] theorem setLastDrain_calm (bk : BankId) (h : Calm s₀ s) : Calm s₀ (s.setLastDrain bk) :=
  h.of_same (setLastDrain_framed bk h.self)

theorem onBank_calm (bk : BankId) (f : Bank → Bank)
    (window : (s.bank bk).window = [] → (f (s.bank bk)).window = [])
    (h : Calm s₀ s) : Calm s₀ (s.onBank bk f) := by
  refine h.of_same (onBank_framed bk f h.self) (by simp) (by simp) (by simp) (by simp) (by simp) fun other empty => ?_
  have cases : other = bk ∨ other = otherBank bk := by cases other <;> cases bk <;> decide
  rcases cases with rfl | rfl
  · rw [bank_onBank]
    exact window empty
  · rw [bank_onBank_other]
    exact empty

theorem onChamber_calm (f : Chamber → Chamber) (feed : (f s.chamber).feed = s.chamber.feed)
    (unit : (f s.chamber).unit = s.chamber.unit)
    (phase : Resting s → (f s.chamber).phase = .idle ∨ (f s.chamber).phase = .faulted) (h : Calm s₀ s) :
    Calm s₀ (s.onChamber f) :=
  h.trans ⟨onChamber_framed f h.self, rfl, rfl, rfl, rfl, feed, unit, phase, fun _ => id⟩

theorem raise_calm {kind : ConditionKind} (quiet : kindClass kind ≠ .exigent) (origin : Origin)
    (detail : Detail) (h : Calm s₀ s) : Calm s₀ (s.raise kind origin detail) := by
  have framed := raise_framed quiet origin detail h.self
  rw [raise_quiet quiet] at framed ⊢
  exact h.of_same framed

@[simp] theorem watchEntry_calm (rank : Nat) (tag : Option Tag) (p : PhaseName) (h : Calm s₀ s) :
    Calm s₀ (s.watchEntry rank tag p) := by
  have framed := watchEntry_framed rank tag p h.self
  obtain e | ⟨w, top, m, -, -, e⟩ := watchEntry_stopped h.framed.still.running rank tag p
  · rwa [e]
  · rw [e] at framed ⊢
    exact h.of_same framed

theorem onUnit_calm (tag : Tag) (f : UnitRecord → UnitRecord)
    (keeps : ∀ r, entriesOf (f r) = entriesOf r)
    (faults : ∀ r, faultOf (f r) = faultOf r) (h : Calm s₀ s) : Calm s₀ (s.onUnit tag f) := by
  refine h.of_same (onUnit_framed tag f keeps h.self) (faults := ?_)
  rw [onUnit_register, List.map_map]
  refine List.map_congr_left fun r _ => ?_
  rw [Function.comp_apply]
  split
  · exact faults r
  · rfl

@[simp] theorem forAll_calm {α : Type} (items : List α) (f : State → α → State)
    (each : ∀ s x, Calm s₀ s → Calm s₀ (f s x)) (h : Calm s₀ s) : Calm s₀ (forAll items s f) :=
  forAll_keeps (Calm s₀) f each items s h

/-! ### The chamber (R130, R134) -/

theorem enterFaulted_calm (h : Calm s₀ s) : Calm s₀ (s.enterChamberPhase .faulted) :=
  watchEntry_calm _ _ _ (onChamber_calm _ rfl rfl (fun _ => .inr rfl) h)

theorem writeLastFoam_calm (tag : Tag) (g : Grams) (h : Calm s₀ s) :
    Calm s₀ (s.writeLastFoam tag g) := by
  unfold State.writeLastFoam
  split
  · exact h
  · rename_i w _
    refine onBank_calm _ _ (fun empty => ?_) (onUnit_calm tag _ (fun _ => rfl) (fun _ => rfl) h)
    have empty : (s.bank w.bank).window = [] := empty
    show (s.bank w.bank).window.map _ = []
    rw [empty]
    rfl

theorem recordFoam_calm (h : Calm s₀ s) : Calm s₀ s.recordFoam := by
  unfold State.recordFoam
  split
  · exact h
  · split
    · exact h
    · split
      · exact h
      · split
        · exact writeLastFoam_calm _ _ h
        · exact h

theorem faultChamberIn_calm (p : ChamberPhase) (h : Calm s₀ s) : Calm s₀ (s.faultChamberIn p) := by
  unfold State.faultChamberIn
  dsimp only
  generalize (if s.chamber.phase == .idle && s.chamber.nextPhase.isNone then none else some p) = f
  have faulted : Calm s₀ ((s.onChamber fun c => { c with faultedPhase := f }).enterChamberPhase
      .faulted).recordFoam :=
    recordFoam_calm (enterFaulted_calm (onChamber_calm _ rfl rfl id h))
  refine onChamber_calm _ rfl rfl id ?_
  split
  · exact faulted
  · exact issue_calm _ _ _ faulted

theorem resetChamber_calm (h : Calm s₀ s) : Calm s₀ s.resetChamber := by
  cases unit : s.chamber.unit with
  | none =>
    have cleared : Calm s₀ { s with chamber := chamberAtReset s.chamber } :=
      onChamber_calm (fun c => chamberAtReset c) rfl unit.symm (fun _ => .inl rfl) h
    rw [resetChamber_empty unit]
    split
    · exact issue_calm _ _ _ cleared
    · exact cleared
  | some tag =>
    rw [resetChamber_held (by simp [unit])]
    split
    · exact issue_calm _ _ _ h
    · exact faultChamberIn_calm _ h

theorem chamber_writeLastFoam (s : State) (tag : Tag) (g : Grams) :
    (s.writeLastFoam tag g).chamber = s.chamber := by
  unfold State.writeLastFoam
  split <;> simp

theorem chamber_recordFoam (s : State) : s.recordFoam.chamber = s.chamber := by
  unfold State.recordFoam
  (repeat' split) <;> simp [chamber_writeLastFoam]

theorem resting_faultChamberIn (p : ChamberPhase) : Resting (s.faultChamberIn p) := by
  refine .inr ?_
  unfold State.faultChamberIn
  dsimp only
  generalize (if s.chamber.phase == .idle && s.chamber.nextPhase.isNone then none else some p) = f
  have phase : ((s.onChamber fun c => { c with faultedPhase := f }).enterChamberPhase
      .faulted).recordFoam.chamber.phase = .faulted := by
    rw [chamber_recordFoam, State.enterChamberPhase, watchEntry_chamber]
    rfl
  rw [onChamber_chamber]
  split
  · exact phase
  · exact phase

/-- A reset leaves the chamber IDLE or FAULTED (R134). -/
theorem resting_resetChamber (s : State) : Resting s.resetChamber := by
  cases unit : s.chamber.unit with
  | none =>
    rw [resetChamber_empty unit]
    split
    · exact .inl rfl
    · exact .inl rfl
  | some tag =>
    rw [resetChamber_held (by simp [unit])]
    split
    · rename_i phase
      exact .inr phase
    · exact resting_faultChamberIn _

/-! ### The Condenser (R138, R139, R142, R144, R156) -/

/-- With the line STOPPED the chamber has no permission. -/
theorem testChamber_stopped (still : Stilled s.control) : s.testChamber = s := by
  have none : s.chamberMay = false := by
    rw [State.chamberMay, still.line]
    rfl
  rw [State.testChamber, none]
  rfl

theorem bankCondenses_calm (rests : Resting s) (h : Calm s₀ s) : Calm s₀ s.bankCondenses := by
  have moved : (s.chamber.phase == .suspended) = false := by
    rcases rests with phase | phase <;> rw [phase] <;> rfl
  rw [State.bankCondenses, moved, testChamber_stopped h.framed.still]
  exact h

theorem enterCondensing_calm (bk : BankId) (rests : Resting s₀) (h : Calm s₀ s) :
    Calm s₀ (s.enterCondensing bk) := by
  have condenses : Calm s₀ ((s.orderBank (.inletValve bk true)).onBank bk fun x =>
      { x with
        state := .condensing, load := 0, condensingTime := 0, swapPending := false, hardRaised := false
        window := [] }) :=
    onBank_calm _ _ (fun _ => rfl) (issue_calm _ _ _ h)
  exact bankCondenses_calm (condenses.resting rests) condenses

theorem tryCondense_calm (bk : BankId) (rests : Resting s₀) (h : Calm s₀ s) :
    Calm s₀ (s.tryCondense bk) := by
  unfold State.tryCondense
  split
  · exact enterCondensing_calm bk rests h
  · exact h

theorem Stilled.halted (h : Stilled s.control) : s.halted = false := by
  rw [State.halted, h.line]
  rfl

theorem enterDefrost_calm (bk : BankId) (h : Calm s₀ s) : Calm s₀ (s.enterDefrost bk) := by
  have notHalted (f : Bank → Bank) : (s.onBank bk f).halted = false := by
    rw [State.halted, onBank_control]
    exact h.framed.still.halted
  unfold State.enterDefrost
  dsimp only
  rw [notHalted]
  exact issue_calm _ _ _ (onBank_calm _ _ (by exact id) h)

theorem swapTest_calm (rests : Resting s₀) (h : Calm s₀ s) : Calm s₀ s.swapTest := by
  unfold State.swapTest
  split
  · split
    · exact enterCondensing_calm _ rests (enterDefrost_calm _ (issue_calm _ _ _ (issue_calm _ _ _ h)))
    · exact h
  · exact h

theorem enterDrainWait_calm (bk : BankId) (h : Calm s₀ s) : Calm s₀ (s.enterDrainWait bk) :=
  onBank_calm _ _ (by exact id) h

theorem testDrain_calm (bk : BankId) (h : Calm s₀ s) : Calm s₀ (s.testDrain bk) := by
  unfold State.testDrain
  split
  · exact enterDrainWait_calm bk h
  · split
    · exact raise_calm (by decide) _ _ (enterDrainWait_calm bk h)
    · exact onBank_calm _ _ (by exact id) (issue_calm _ _ _ h)

theorem retestDrain_calm (bk : BankId) (h : Calm s₀ s) : Calm s₀ (s.retestDrain bk) := by
  unfold State.retestDrain
  split
  · exact testDrain_calm bk h
  · exact h

theorem closeDrain_calm (bk : BankId) (h : Calm s₀ s) : Calm s₀ (s.closeDrain bk) :=
  onBank_calm _ _ (by exact id) (issue_calm _ _ _ h)

theorem redrain_calm (bk : BankId) (h : Calm s₀ s) : Calm s₀ (s.redrain bk) := by
  have tested := testDrain_calm bk (onBank_calm bk (fun x => { x with paused := false, waitSince := none })
    (by exact id) h)
  unfold State.redrain
  dsimp only
  split
  · exact closeDrain_calm bk tested
  · exact tested

theorem resetBank_calm (bk : BankId) (rests : Resting s₀) (h : Calm s₀ s) :
    Calm s₀ (s.resetBank bk) := by
  unfold State.resetBank
  cases (s.bank bk).state with
  | defrost =>
    dsimp only
    split
    · exact onBank_calm _ _ (by exact id) (issue_calm _ _ _ h)
    · exact h
  | drain =>
    dsimp only
    split
    · exact h
    · exact redrain_calm bk h
  | drainWait => exact retestDrain_calm bk h
  | warm =>
    dsimp only
    split
    · exact onBank_calm _ _ (by exact id) (issue_calm _ _ _ h)
    · exact h
  | cold => exact tryCondense_calm bk rests h
  | cooling | condensing | faulted => exact h

theorem dropDrainSlot_calm (bk : BankId) (h : Calm s₀ s) : Calm s₀ (s.dropDrainSlot bk) := by
  unfold State.dropDrainSlot
  split
  · exact setLastDrain_calm bk (onBank_calm _ _ (by exact id) h)
  · exact h

theorem resetCondenser_calm (rests : Resting s₀) (h : Calm s₀ s) : Calm s₀ s.resetCondenser :=
  swapTest_calm rests (forAll_calm _ _ (fun _ bk h => resetBank_calm bk rests h)
    (forAll_calm _ _ (fun _ bk h => dropDrainSlot_calm bk h) h))

/-! ### The end of the event (R142, R172, R173) -/

/-- A stilled line holds no credit and is in no step. -/
theorem settleBlocks_calm (rests : Resting s₀) (h : Calm s₀ s) : Calm s₀ s.settleBlocks := by
  have swapped := swapTest_calm rests h
  rw [State.settleBlocks]
  generalize s.swapTest = t at swapped
  obtain ⟨line, -, credits, chamberCredit, -, -⟩ := swapped.framed.still
  have kept : t.withdrawCredits = t :=
    withdrawCredits_of_kept ⟨by simp [credits], fun held => by simp [chamberCredit] at held⟩
  have notOver : ¬ t.stepOver := fun ⟨step, _⟩ => by simp [line] at step
  rw [kept, testStepEnd_of_notOver notOver]
  exact swapped

theorem finish_calm (h : Calm s₀ s) : Calm s₀ s.finish := by
  obtain ⟨line, haltPin, credits, chamberCredit, holders, chamberHolder⟩ := h.framed.still
  have framed : Framed s s.finish :=
    ⟨⟨line, haltPin, credits, chamberCredit, holders, chamberHolder⟩, rfl, id, rfl, rfl, rfl, rfl, rfl, rfl, rfl,
      rfl, rfl, rfl, rfl, fun _ => id, id⟩
  exact h.of_same framed

theorem afterEvent_calm (rests : Resting s₀) (ready : s.link.state = .ready) (h : Calm s₀ s) :
    Calm s₀ s.afterEvent := by
  have settled : s.settleBlocks.link.state = .ready := by rw [settleBlocks_link, ready]
  rw [State.afterEvent, State.endHold, endHeld_of_ready settled, endHeld_of_ready settled]
  exact finish_calm (settleBlocks_calm rests h)

end
end Sys2Proof.Proofs

namespace Sys2Proof.Proofs

open Sys2Proof Sys2Proof.Machine Sys2Proof.Laws

/-! ## What a reset leaves (O57) -/

/-- The line, the settings and the interface, the stations and the trains after a reset (R77, R95, R180,
R188). -/
def LeftStopped (s t : State) : Prop :=
  (t.control.line = .stopped ∧ t.control.haltPin = false ∧ t.control.credits = [] ∧
    t.control.chamberCredit = false ∧ t.control.holders = [] ∧ t.control.chamberHolder = false ∧
    t.control.settings = s.control.settings ∧ t.monitor.masks = s.monitor.masks ∧
    t.classifier.table = s.classifier.table ∧ t.arbiter.paths = s.arbiter.paths ∧
    t.link = { s.link with state := .ready, buffer := none }) ∧
  (∀ i, StationLeft (s.station i) (t.station i)) ∧ ∀ k, TrainLeft (s.train k) (t.train k)

/-- The orders of a reset (R39, R41, R67, R95). -/
def Ordered (s t : State) : Prop :=
  (∀ i, (s.station i).phase = .faulted ∨ (s.station i).unit ≠ none → ValvesOrdered s i t) ∧
  (∀ y, s.classifier.cycle = some y → y.stage ≠ .closing → ∃ n,
    t.classifier.cycle = some { y with stage := .closing, abandoned := true, closeOrder := some n } ∧
      ∃ o ∈ t.loop.orders, o.node = .station y.station ∧ o.number = n ∧ o.kind = .sampleValve false) ∧
  ((∀ y, s.classifier.cycle = some y → y.stage = .closing) → t.classifier.cycle = s.classifier.cycle) ∧
  ∀ k, (s.train k).state ∈ [TrainState.purging, .drawing, .paused, .waitVessel, .tailing] →
    StopOrders k s.now t

/-- The tables that a line reset keeps (R26, R77). -/
def KeptTables (s t : State) : Prop :=
  t.register.log = s.register.log ∧ t.register.closing = s.register.closing ∧ t.slots = s.slots ∧
    (t.register.units.map fun r => (r.tag, r.allocations)) = s.register.units.map (fun r =>
      (r.tag, r.allocations.map fun e => { e with isOpen := false })) ∧
    ∀ i tag r r', (s.station i).unit = some tag → (∀ j, (s.station j).unit = some tag → j = i) →
      s.findUnit tag = some r → t.findUnit tag = some r' →
      ((s.station i).phase = .faulted ∨ (s.station i).workPhase = .done → r'.faultedPhase = r.faultedPhase) ∧
      ((s.station i).phase ≠ .faulted → (s.station i).workPhase ≠ .done → (s.station i).workPhase ≠ .empty →
        (s.station i).workPhase ≠ .faulted → r'.faultedPhase = some (s.station i).workPhase)

/-- The tables that a clear reset empties (R27, R41, R78, R96, R116, R117, R135, R157). -/
def EmptiedTables (t : State) : Prop :=
  t.register = { units := [], closing := [], log := [], logFull := false } ∧
    t.classifier.queue = [] ∧ t.arbiter.requests = [] ∧ t.chamber.feed = [] ∧
    t.chamber.unit = none ∧ t.control.watch = [] ∧ (∀ i, (t.station i).unit = none) ∧
    (∀ bk, (t.bank bk).window = []) ∧ ∀ k, (t.slot k).vessel = none

/-- A line that waited in the buffer is taken in the same event (R187). -/
def GoesOn (s : State) (i : Instr) (v : State) : Prop :=
  (∀ l f, s.link.buffer = some l → readLine l = .framing f →
    exec i s = .next (v.send [framingLine f]).afterEvent) ∧
  ∀ l c, s.link.buffer = some l → readLine l = .command c → exec i s = exec (rowFor c) v

/-- The two premises of O57 about a state: a station without a unit is EMPTY, FAULTED or waits for its UNCLAMP,
and a train OUT_OF_SERVICE holds no station and feeds no slot. -/
structure Placed (s : State) : Prop where
  stations : ∀ i, (s.station i).unit = none → (s.station i).phase = .empty ∨ (s.station i).phase = .faulted ∨
    ((s.station i).phase = .done ∧ (s.station i).unclamping = true)
  trains : ∀ k, (s.train k).state = .outOfService → (s.train k).station = none ∧ (s.train k).slot = none

section
variable {s b u v t : State}

theorem leftStopped (placed : Placed s) (done : BlocksReset s b) (carried : Carried b t)
    (link : t.link = { s.link with state := .ready, buffer := none }) : LeftStopped s t := by
  obtain ⟨line, haltPin, credits, chamberCredit, holders, chamberHolder⟩ := carried.still done.still
  exact ⟨⟨line, haltPin, credits, chamberCredit, holders, chamberHolder, carried.settings.trans done.settings,
    carried.masks.trans done.masks, carried.table.trans done.table, carried.paths.trans done.paths, link⟩,
    fun i => stationLeft done carried i (placed.stations i), fun k => trainLeft done carried k (placed.trains k)⟩

theorem ordered (done : BlocksReset s b) (carried : Carried b t) : Ordered s t := by
  obtain ⟨gone, closing⟩ := done.cycle.carried carried
  exact ⟨fun i => valvesOrdered done carried i, gone, closing, fun k work =>
    ((done.trains k).stops work).mono carried.orders⟩

/-- The record of a station's unit names the phase that the reset faulted it in, if it is one of work (R1,
R4). -/
theorem recordFaultPhase_phase (p : StationPhase) :
    recordFaultPhase (.phase p) = if p = .empty ∨ p = .done ∨ p = .faulted then none else some p := by
  cases p <;> rfl

theorem keptTables (done : BlocksReset s b) (log : t.register.log = b.register.log)
    (closing : t.register.closing = b.register.closing) (slots : t.slots = b.slots)
    (entries : t.register.units.map entriesOf = b.register.units.map entriesOf)
    (faults : ∀ tag, recordFault t tag = recordFault b tag) : KeptTables s t := by
  refine ⟨log.trans done.log, closing.trans done.closing, slots.trans done.slots, entries.trans done.entries,
    fun i tag r r' unit sole found found' => ?_⟩
  have record := (faults tag).trans ((done.stations i).record tag ⟨unit, sole⟩)
  rw [recordFault, recordFault, found, found', recordFaultPhase_phase] at record
  refine ⟨fun kept => ?_, fun phase notDone notEmpty notFaulted => ?_⟩
  · by_cases phase : (s.station i).phase = .faulted
    · simpa [phase] using record
    · simpa [phase, kept.resolve_left phase] using record
  · simpa [phase, notDone, notEmpty, notFaulted] using record

theorem EmptiedTables.calm (h : EmptiedTables s) (calm : Calm s t) : EmptiedTables t := by
  obtain ⟨register, queue, requests, feed, unit, watch, stations, windows, slots⟩ := h
  refine ⟨?_, by rw [calm.classifier, queue], by rw [calm.arbiter, requests], by rw [calm.feed, feed],
    by rw [calm.unit, unit], calm.framed.unwatched watch, fun i => ?_, fun bk => calm.windows bk (windows bk),
    fun k => ?_⟩
  · have units : t.register.units = [] := by
      have kept := calm.faults
      rwa [register, List.map_nil, List.map_eq_nil_iff] at kept
    have closing := calm.framed.closing
    have log := calm.framed.log
    have logFull := calm.framed.logFull
    rw [register] at closing log logFull
    exact congr (congr (congr (congrArg UnitRegister.mk units) closing) log) logFull
  · have same : t.station i = s.station i := by
      unfold State.station
      rw [calm.stations]
    rw [same, stations]
  · have same : t.slot k = s.slot k := by
      unfold State.slot
      rw [calm.framed.slots]
    rw [same, slots]

/-! ### The interface goes on (R180, R187) -/

theorem readied_carried (u : State) : Carried u (readied u) :=
  carried_of_same rfl rfl rfl rfl rfl rfl rfl rfl

/-- The event of a reset, once its actions are done. -/
theorem exec_reset {i : Instr} {kind : ResetKind} {act : State → State}
    (row : exec i s = .next (event (fun s => s.takeReset kind act) s)) (runs : s.resetPin = false)
    (resetting : s.link.state = .resetting kind) :
    exec i s = .next (act s).settleBlocks.takeBuffered.afterEvent := by
  rw [row, event, runs, State.takeReset, resetting]
  simp

theorem reset_goesOn {i : Instr} (executed : exec i s = .next u.takeBuffered.afterEvent)
    (link : u.link = s.link)
    (runs : u.resetPin = false) :
    (s.link.buffer = none → exec i s = .next (readied u).afterEvent) ∧ GoesOn s i (readied u) := by
  rw [← link]
  refine ⟨fun empty => ?_, fun l f waits read => ?_, fun l c waits read => ?_⟩
  · rw [executed, takeBuffered_of_empty empty]
  · rw [executed, takeBuffered_of_line (link ▸ waits), takeLine_of_framing read]
  · rw [executed, takeBuffered_of_line (link ▸ waits), takeLine_of_command read,
      exec_rowFor c (readied u) ⟨runs, rfl⟩]

end

/-! ### The line reset -/

section
variable {s : State}

/-- The chamber and the Condenser act, and the event settles, on what the blocks left. -/
theorem lineReset_calm (s : State) :
    Calm s.resetBlocks s.resetBlocks.resetChamber.resetCondenser.settleBlocks ∧
      Resting s.resetBlocks.resetChamber.resetCondenser.settleBlocks := by
  have chamber := resetChamber_calm (.refl (resetBlocks_done s).still)
  have rests := resting_resetChamber s.resetBlocks
  have after := settleBlocks_calm rests (resetCondenser_calm rests (.refl chamber.framed.still))
  exact ⟨chamber.trans after, after.resting rests⟩

theorem lineReset_leaves (placed : Placed s) (runs : s.resetPin = false)
    (resetting : s.link.state = .resetting .line) :
    ∃ u v t : State,
      u = s.resetBlocks.resetChamber.resetCondenser.settleBlocks ∧
      v = { u with link := { u.link with state := .ready, buffer := none } } ∧
      t = v.afterEvent ∧ LeftStopped s v ∧ Ordered s v ∧ KeptTables s v ∧
      LeftStopped s t ∧ Ordered s t ∧ KeptTables s t ∧
      (s.link.buffer = none → exec .lineReset s = .next t) ∧ GoesOn s .lineReset v := by
  obtain ⟨calm, rests⟩ := lineReset_calm s
  have done := resetBlocks_done s
  have executed : exec .lineReset s = .next (s.lineResetAction).settleBlocks.takeBuffered.afterEvent :=
    exec_reset rfl runs resetting
  unfold State.lineResetAction at executed
  generalize s.resetBlocks.resetChamber.resetCondenser.settleBlocks = u at *
  have link : u.link = s.link := calm.framed.link.trans done.link
  have pin : u.resetPin = false := (calm.framed.resetPin.trans done.resetPin).trans runs
  have readied' : Carried s.resetBlocks (readied u) := calm.carried.trans (readied_carried u)
  have after : Calm (readied u) (readied u).afterEvent :=
    afterEvent_calm rests rfl (.refl (readied'.still done.still))
  have after' := readied'.trans after.carried
  have readyLink : (readied u).link = { s.link with state := .ready, buffer := none } := by rw [readied, link]
  obtain ⟨empty, goes⟩ := reset_goesOn executed link pin
  have entries := calm.framed.entries
  refine ⟨u, readied u, _, rfl, rfl, rfl, leftStopped placed done readied' readyLink, ordered done readied',
    keptTables done calm.framed.log calm.framed.closing calm.framed.slots entries calm.recordFault,
    leftStopped placed done after' (after.framed.link.trans readyLink), ordered done after',
    keptTables done (after.framed.log.trans calm.framed.log) (after.framed.closing.trans calm.framed.closing)
      (after.framed.slots.trans calm.framed.slots) (after.framed.entries.trans entries)
      fun tag => (after.recordFault tag).trans (calm.recordFault tag),
    empty, goes⟩

end
end Sys2Proof.Proofs

namespace Sys2Proof.Proofs

open Sys2Proof Sys2Proof.Machine Sys2Proof.Laws

/-! ### The clear reset -/

section
variable {s : State}

/-- The pending list and the watch list are emptied first (R168). -/
def listsEmptied (s : State) : State :=
  { s with
    monitor := { s.monitor with entries := [], overflow := false }
    control := { s.control with watch := [] } }

theorem clearResetAction_eq (s : State) :
    s.clearResetAction =
      ((listsEmptied s).resetBlocks.emptyTables.resetChamber.emptyWindows).resetCondenser.dropUnits := rfl

/-- The blocks of a clear reset end as those of a line reset, with nothing on the watch list. -/
theorem clearBlocks_done (s : State) : BlocksReset s (listsEmptied s).resetBlocks := by
  obtain ⟨still, settings, unwatched, masks, table, paths, slots, link, resetPin, log, closing, entries, stations,
    trains, cycle⟩ := resetBlocks_done (listsEmptied s)
  exact ⟨still, settings, fun _ => unwatched rfl, masks, table, paths, slots, link, resetPin, log, closing, entries,
    fun i => ⟨(stations i).rests, (stations i).faulted, (stations i).faults, (stations i).record⟩,
    fun k => ⟨(trains k).outOfService, (trains k).idle, (trains k).stops⟩, ⟨cycle.abandoned, cycle.closing⟩⟩

theorem forAll_setSlot (items : List SlotId) (s : State) (f : State → SlotId → Slot) :
    forAll items s (fun s k => s.setSlot k (f s k)) =
      { s with slots := (forAll items s fun s k => s.setSlot k (f s k)).slots } := by
  induction items generalizing s with
  | nil => rfl
  | cons k ks ih =>
    rw [forAll_cons, ih]
    rfl

theorem forAll_onStation (items : List StationId) (s : State) (f : Station → Station) :
    forAll items s (fun s i => s.onStation i f) =
      { s with stations := (forAll items s fun s i => s.onStation i f).stations } := by
  induction items generalizing s with
  | nil => rfl
  | cons k ks ih =>
    rw [forAll_cons, ih]
    rfl

theorem emptyTables_eq (u : State) :
    u.emptyTables = { u with
      register := { units := [], closing := [], log := [], logFull := false }
      classifier := { u.classifier with queue := [] }, arbiter := { u.arbiter with requests := [] }
      slots := u.emptyTables.slots, chamber := { u.chamber with feed := [] } } := by
  unfold State.emptyTables
  dsimp only
  rw [forAll_setSlot]
  rfl

theorem slot_clearedAll (s : State) (k : SlotId) :
    (forAll slotIds s fun s k => s.setSlot k (s.slot k).cleared).slot k = (s.slot k).cleared := by
  obtain ⟨-, cleared, -⟩ := forAll_each (f := fun s k => s.setSlot k (s.slot k).cleared) (Inv := fun _ => True)
    (Before := fun k t => t.slot k = s.slot k) (After := fun k t => t.slot k = (s.slot k).cleared)
    (fun t k _ stood => ⟨trivial, by rw [slot_setSlot, stood]⟩)
    (fun t k j _ _ ne stood => (slot_setSlot_ne _ _ _ _ (Ne.symm ne)).trans stood)
    (fun t k j _ _ ne done => (slot_setSlot_ne _ _ _ _ (Ne.symm ne)).trans done) slotIds (by decide) s
    trivial fun _ _ => rfl
  exact cleared k (mem_slotIds k)

/-- Every slot is cleared (R116). -/
theorem slot_emptyTables (u : State) (k : SlotId) :
    u.emptyTables.slot k = { u.slot k with vessel := none } := by
  have cleared := slot_clearedAll { u with
    register := { units := [], closing := [], log := [], logFull := false } } k
  unfold State.emptyTables
  dsimp only
  generalize forAll slotIds _ (fun s k => s.setSlot k (s.slot k).cleared) = c at cleared ⊢
  exact cleared

theorem dropUnits_eq (x : State) :
    x.dropUnits = { x with stations := x.dropUnits.stations, chamber := { x.chamber with unit := none } } := by
  unfold State.dropUnits
  rw [forAll_onStation]
  rfl

theorem station_dropUnits (x : State) (i : StationId) :
    x.dropUnits.station i = { x.station i with unit := none } := by
  obtain ⟨-, dropped, -⟩ := forAll_each (f := fun s i => s.onStation i fun x => { x with unit := none })
    (Inv := fun _ => True) (Before := fun i s => s.station i = x.station i)
    (After := fun i s => s.station i = { x.station i with unit := none })
    (fun s i _ stood => ⟨trivial, by rw [station_onStation, stood]⟩)
    (fun s i j _ _ ne stood => (station_onStation_ne _ _ _ _ (Ne.symm ne)).trans stood)
    (fun s i j _ _ ne done => (station_onStation_ne _ _ _ _ (Ne.symm ne)).trans done) stationIds (by decide) x
    trivial fun _ _ => rfl
  exact dropped i (mem_stationIds i)

/-- What `State.emptyTables` makes of the fields that the clauses of O57 read. -/
theorem emptyTables_keeps (u : State) :
    u.emptyTables.register = { units := [], closing := [], log := [], logFull := false } ∧
      u.emptyTables.classifier = { u.classifier with queue := [] } ∧
      u.emptyTables.arbiter = { u.arbiter with requests := [] } ∧ u.emptyTables.chamber.feed = [] ∧
      u.emptyTables.control = u.control ∧ u.emptyTables.monitor = u.monitor ∧
      u.emptyTables.stations = u.stations ∧ u.emptyTables.loop = u.loop ∧ u.emptyTables.link = u.link ∧
      u.emptyTables.resetPin = u.resetPin := by
  have e_eq := emptyTables_eq u
  generalize u.emptyTables = e at e_eq ⊢
  refine ⟨?_, ?_, ?_, ?_, ?_, ?_, ?_, ?_, ?_, ?_⟩
  all_goals rw [e_eq]

/-- What `State.dropUnits` makes of them. -/
theorem dropUnits_keeps (x : State) :
    x.dropUnits.register = x.register ∧ x.dropUnits.classifier = x.classifier ∧
      x.dropUnits.arbiter = x.arbiter ∧ x.dropUnits.slots = x.slots ∧
      x.dropUnits.chamber = { x.chamber with unit := none } ∧ x.dropUnits.condenser = x.condenser ∧
      x.dropUnits.control = x.control ∧ x.dropUnits.monitor = x.monitor ∧ x.dropUnits.loop = x.loop ∧
      x.dropUnits.link = x.link ∧ x.dropUnits.resetPin = x.resetPin := by
  have y_eq := dropUnits_eq x
  generalize x.dropUnits = y at y_eq ⊢
  refine ⟨?_, ?_, ?_, ?_, ?_, ?_, ?_, ?_, ?_, ?_, ?_⟩
  all_goals rw [y_eq]

theorem emptyTables_carried (u : State) : Carried u u.emptyTables := by
  obtain ⟨-, classifier, arbiter, -, control, monitor, stations, loop, -, -⟩ := emptyTables_keeps u
  exact carried_of_same control (by rw [monitor]) (by rw [classifier]) (by rw [classifier]) (by rw [arbiter])
    (by rw [arbiter]) loop stations

theorem dropUnits_carried (x : State) : Carried x x.dropUnits := by
  obtain ⟨-, classifier, arbiter, -, -, -, control, monitor, loop, -, -⟩ := dropUnits_keeps x
  exact ⟨by rw [control]; exact id, by rw [control], by rw [monitor], by rw [classifier], by rw [classifier],
    by rw [arbiter], by rw [arbiter], by rw [loop]; exact fun _ => id,
    fun i => ⟨none, station_dropUnits x i, fun _ => rfl⟩⟩

theorem emptyWindows_calm {s₀ : State} (h : Calm s₀ s) : Calm s₀ s.emptyWindows :=
  forAll_calm _ _ (fun _ bk h => onBank_calm bk _ (fun _ => rfl) h) h

theorem window_emptyWindows (w : State) (bk : BankId) : (w.emptyWindows.bank bk).window = [] := by
  show (((w.onBank .a fun x => { x with window := [] }).onBank .b fun x => { x with window := [] }).bank bk).window =
    []
  cases bk with
  | a =>
    have other := bank_onBank_other (w.onBank .a fun x => { x with window := [] }) .b fun x => { x with window := [] }
    rw [show otherBank .b = .a from rfl, bank_onBank] at other
    rw [other]
  | b => rw [bank_onBank]

/-- The chamber and the Condenser act on what the emptied tables left. -/
theorem clearReset_calm (s : State) :
    Calm (listsEmptied s).resetBlocks.emptyTables
        ((listsEmptied s).resetBlocks.emptyTables.resetChamber.emptyWindows).resetCondenser ∧
      Resting ((listsEmptied s).resetBlocks.emptyTables.resetChamber.emptyWindows).resetCondenser ∧
      ∀ bk, (((listsEmptied s).resetBlocks.emptyTables.resetChamber.emptyWindows).resetCondenser.bank bk).window =
        [] := by
  have still := (emptyTables_carried (listsEmptied s).resetBlocks).still (clearBlocks_done s).still
  generalize (listsEmptied s).resetBlocks.emptyTables = e at still
  have chamber := resetChamber_calm (.refl still)
  have windows := emptyWindows_calm (.refl chamber.framed.still)
  have rests := windows.resting (resting_resetChamber e)
  have after := resetCondenser_calm rests (.refl windows.framed.still)
  exact ⟨(chamber.trans windows).trans after, after.resting rests,
    fun bk => after.windows bk (window_emptyWindows e.resetChamber bk)⟩

/-- The tables of a clear reset, once the units have left the stations and the chamber. -/
theorem clearReset_empties {e x : State}
    (register : e.register = { units := [], closing := [], log := [], logFull := false })
    (queue : e.classifier.queue = []) (requests : e.arbiter.requests = []) (feed : e.chamber.feed = [])
    (watch : e.control.watch = []) (slots : ∀ k, (e.slot k).vessel = none) (calm : Calm e x)
    (windows : ∀ bk, (x.bank bk).window = []) : EmptiedTables x.dropUnits := by
  obtain ⟨register', classifier', arbiter', slots', chamber', condenser', control', -⟩ := dropUnits_keeps x
  have emptyRegister : x.register = { units := [], closing := [], log := [], logFull := false } := by
    have units : x.register.units = [] := by
      have kept := calm.faults
      rwa [register, List.map_nil, List.map_eq_nil_iff] at kept
    have closing := calm.framed.closing
    have log := calm.framed.log
    have logFull := calm.framed.logFull
    rw [register] at closing log logFull
    exact congr (congr (congr (congrArg UnitRegister.mk units) closing) log) logFull
  have bank (bk : BankId) : x.dropUnits.bank bk = x.bank bk := by
    unfold State.bank
    rw [condenser']
  have slot (k : SlotId) : x.dropUnits.slot k = e.slot k := by
    unfold State.slot
    rw [slots', calm.framed.slots]
  exact ⟨register'.trans emptyRegister, by rw [classifier', calm.classifier, queue],
    by rw [arbiter', calm.arbiter, requests], by rw [chamber']; exact calm.feed.trans feed, by rw [chamber'],
    by rw [control']; exact calm.framed.unwatched watch, fun i => by rw [station_dropUnits],
    fun bk => by rw [bank, windows], fun k => by rw [slot, slots]⟩

theorem emptiedTables_readied (h : EmptiedTables s) : EmptiedTables (readied s) := by
  obtain ⟨register, queue, requests, feed, unit, watch, stations, windows, slots⟩ := h
  exact ⟨register, queue, requests, feed, unit, watch, stations, windows, slots⟩

theorem clearReset_leaves (placed : Placed s) (runs : s.resetPin = false)
    (resetting : s.link.state = .resetting .clear) :
    ∃ u e w x y v t : State,
      u = ({ s with
        monitor := { s.monitor with entries := [], overflow := false }
        control := { s.control with watch := [] } } : State).resetBlocks ∧
      e = { u with
        register := { units := [], closing := [], log := [], logFull := false }
        classifier := { u.classifier with queue := [] }, arbiter := { u.arbiter with requests := [] }
        slots := e.slots, chamber := { u.chamber with feed := [] } } ∧
      (∀ k, e.slot k = { u.slot k with vessel := none }) ∧
      w = (e.resetChamber.onBank .a fun b => { b with window := [] }).onBank .b (fun b =>
        { b with window := [] }) ∧
      x = w.resetCondenser ∧
      y = { x with stations := y.stations, chamber := { x.chamber with unit := none } } ∧
      (∀ i, y.station i = { x.station i with unit := none }) ∧
      v = { y.settleBlocks with
        link := { y.settleBlocks.link with state := .ready, buffer := none } } ∧
      t = v.afterEvent ∧ LeftStopped s v ∧ Ordered s v ∧ EmptiedTables v ∧
      LeftStopped s t ∧ Ordered s t ∧ EmptiedTables t ∧
      (s.link.buffer = none → exec .clearReset s = .next t) ∧ GoesOn s .clearReset v := by
  have done := clearBlocks_done s
  obtain ⟨calm, rests, windows⟩ := clearReset_calm s
  have executed : exec .clearReset s = .next (s.clearResetAction).settleBlocks.takeBuffered.afterEvent :=
    exec_reset rfl runs resetting
  rw [clearResetAction_eq] at executed
  obtain ⟨e_register, e_classifier, e_arbiter, e_feed, e_control, -, -, -, e_link, e_pin⟩ :=
    emptyTables_keeps (listsEmptied s).resetBlocks
  have e_eq := emptyTables_eq (listsEmptied s).resetBlocks
  have e_slots := slot_emptyTables (listsEmptied s).resetBlocks
  have e_carried := emptyTables_carried (listsEmptied s).resetBlocks
  have watch : (listsEmptied s).resetBlocks.control.watch = [] := (resetBlocks_done (listsEmptied s)).unwatched rfl
  generalize u_eq : (listsEmptied s).resetBlocks = u at *
  generalize u.emptyTables = e at *
  generalize w_eq : e.resetChamber.emptyWindows = w at *
  generalize x_eq : w.resetCondenser = x at *
  have emptied : EmptiedTables x.dropUnits :=
    clearReset_empties e_register (by rw [e_classifier]) (by rw [e_arbiter]) e_feed (by rw [e_control, watch])
      (fun k => by rw [e_slots]) calm windows
  obtain ⟨-, -, -, -, chamber', -, -, -, -, link', pin'⟩ := dropUnits_keeps x
  have y_eq := dropUnits_eq x
  have y_stations := station_dropUnits x
  have y_carried := (e_carried.trans calm.carried).trans (dropUnits_carried x)
  have y_rests : Resting x.dropUnits := by
    unfold Resting
    rw [chamber']
    exact rests
  generalize x.dropUnits = y at *
  have settled : Calm y y.settleBlocks := settleBlocks_calm y_rests (.refl (y_carried.still done.still))
  have z_rests := settled.resting y_rests
  generalize z_eq : y.settleBlocks = z at *
  have link : z.link = s.link :=
    settled.framed.link.trans (link'.trans (calm.framed.link.trans (e_link.trans done.link)))
  have pin : z.resetPin = false :=
    settled.framed.resetPin.trans (pin'.trans (calm.framed.resetPin.trans (e_pin.trans (done.resetPin.trans runs))))
  have carried : Carried u (readied z) := (y_carried.trans settled.carried).trans (readied_carried z)
  have after : Calm (readied z) (readied z).afterEvent :=
    afterEvent_calm z_rests rfl (.refl (carried.still done.still))
  have after' := carried.trans after.carried
  have readyLink : (readied z).link = { s.link with state := .ready, buffer := none } := by rw [readied, link]
  have emptied' : EmptiedTables (readied z) := emptiedTables_readied (emptied.calm settled)
  obtain ⟨empty, goes⟩ := reset_goesOn executed link pin
  exact ⟨u, e, w, x, y, readied z, _, u_eq.symm, e_eq, e_slots, w_eq.symm, x_eq.symm, y_eq, y_stations,
    by rw [z_eq]; rfl, rfl, leftStopped placed done carried readyLink, ordered done carried, emptied',
    leftStopped placed done after' (after.framed.link.trans readyLink), ordered done after', emptied'.calm after,
    empty, goes⟩

end

/-- Settles O57: the blocks, the chamber and the Condenser act in turn, and what the clauses say of the blocks is
carried on by every later action; the parts about the chamber and the banks are their actions' own cases. -/
theorem resetsLeaveTheLineStopped : Obligations.ResetsLeaveTheLineStopped := by
  refine ⟨fun s leftStopped ordered keptTables emptiedTables goesOn work runs named stations trains left orders kept
      emptied goes => ?_, fun s => ⟨fun held faulted => ?_, fun held other => ?_, fun empty => ?_⟩, fun s bk => ?_,
    fun s u dropped => ⟨?_, resetCondenser_cases s u dropped⟩⟩
  · obtain rfl : work = fun i => (s.station i).workPhase := funext named
    obtain rfl : leftStopped = LeftStopped s := funext fun t => propext (left t)
    obtain rfl : ordered = Ordered s := funext fun t => propext (orders t)
    obtain rfl : keptTables = KeptTables s := funext fun t => propext (kept t)
    obtain rfl : emptiedTables = EmptiedTables := funext fun t => propext (emptied t)
    obtain rfl : goesOn = GoesOn s := funext fun i => funext fun v => propext (goes i v)
    exact ⟨lineReset_leaves ⟨stations, trains⟩ runs, clearReset_leaves ⟨stations, trains⟩ runs⟩
  · rw [resetChamber_held held, if_pos faulted]
  · rw [resetChamber_held held, if_neg other]
  · refine ⟨_, rfl, fun nitrogen => ?_, fun none => ?_⟩
    · rw [resetChamber_empty empty, if_pos nitrogen]
      rfl
    · rw [resetChamber_empty empty, if_neg (by simp [none])]
      rfl
  · obtain ⟨defrost, drain, drainWait, warm, cold⟩ := resetBank_cases s bk
    exact ⟨defrost, drain, drainWait, warm, cold, resetBank_rests⟩
  · intro bk
    rw [dropped, bank_dropDrainSlots]

end Sys2Proof.Proofs


/-!
PROOFS. Family 02, gas classification: the signature test (O26), the scan, the effective class and the
properties derived from a record (O27).
-/

namespace Sys2Proof.Proofs

open Sys2Proof Sys2Proof.Machine Sys2Proof.Laws

/-! ## The signature test (O26) -/

@[simp] theorem mem_bandIds (b : Band) : b ∈ bandIds := by revert b; decide

theorem bandInside_iff (w : Option BandWindow) (reading : Nat) :
    bandInside w reading = true ↔ ∀ x, w = some x → x.low ≤ reading ∧ reading ≤ x.high := by
  cases w <;> simp [bandInside]

theorem windowTest_iff (e : Signature) (readings : Vector Nat 6) :
    e.windowTest readings = true ↔
      ∀ i w, e.windows.get i = some w → w.low ≤ readings.get i ∧ readings.get i ≤ w.high := by
  simp only [Signature.windowTest, List.all_eq_true, mem_bandIds, forall_const, bandInside_iff]

/-- Settles O26: the window test over the enabled bands, reversed by the invert mark. -/
theorem signatureMatchesAsTested : Obligations.SignatureMatchesAsTested := by
  intro e readings
  rw [← windowTest_iff, Signature.matchesSample]
  cases e.windowTest readings <;> cases e.invert <;> decide

/-! ## The scan, the effective class and the derived properties (O27) -/

/-- The indices in ascending order, cut at one of them. -/
theorem signatureIds_split (i : SignatureId) :
    signatureIds = signatureIds.take i.val ++ i :: signatureIds.drop (i.val + 1) := by
  revert i; decide

theorem lt_of_mem_take_signatureIds (i : SignatureId) : ∀ j ∈ signatureIds.take i.val, j < i := by
  revert i; decide

section
variable {c : Classifier} {readings : Vector Nat 6}

theorem entryMatches_iff (e : Option Signature) :
    entryMatches e readings = true ↔ ∃ x, e = some x ∧ x.matchesSample readings = true := by
  cases e <;> simp [entryMatches]

/-- The first entry in index order that matches is the one that the scan finds (R31). -/
theorem scan_of_first {i : SignatureId} {e : Signature} (entry : c.table.get i = some e)
    (isMatch : e.matchesSample readings = true)
    (first : ∀ j e', j < i → c.table.get j = some e' → e'.matchesSample readings = false) :
    c.scan readings = some i := by
  refine find?_split (signatureIds_split i) ((entryMatches_iff _).mpr ⟨e, entry, isMatch⟩)
    fun j before hit => ?_
  obtain ⟨x, at_j, matches_j⟩ := (entryMatches_iff _).mp hit
  rw [first j x (lt_of_mem_take_signatureIds i j before) at_j] at matches_j
  cases matches_j

theorem scan_of_noMatch
    (noMatch : ∀ i e, c.table.get i = some e → e.matchesSample readings = false) :
    c.scan readings = none := by
  refine List.find?_eq_none.mpr fun i _ hit => ?_
  obtain ⟨x, at_i, matches_i⟩ := (entryMatches_iff _).mp hit
  rw [noMatch i x at_i] at matches_i
  cases matches_i

theorem measured_some {i : SignatureId} {e : Signature} (entry : c.table.get i = some e) :
    c.measured (some i) = gasRefrigerant e.cls := by
  simp only [Classifier.measured, Option.bind_some, entry]

theorem measured_none : c.measured none = .unknown := rfl

end

/-- The effective class of R42, by whether a class was measured and declared. -/
theorem effectiveClass_unknown (d : Option RefrigerantClass) :
    effectiveClass d .unknown = (.unknown, false) := rfl

theorem effectiveClass_undeclared {m : RefrigerantClass} (known : m ≠ .unknown) :
    effectiveClass none m = (m, false) := by
  simp [effectiveClass, known]

theorem effectiveClass_declared {d m : RefrigerantClass} (known : m ≠ .unknown) :
    effectiveClass (some d) m = if d = m then (m, false) else (.unknown, true) := by
  simp [effectiveClass, known]

theorem flammableRisk_iff (r : UnitRecord) :
    r.flammableRisk = true ↔ r.effective = some .hc ∨ r.effective = some .unknown := by
  simp [UnitRecord.flammableRisk]

theorem inertRequired_iff (r : UnitRecord) :
    r.inertRequired = true ↔ r.declaredFoam = some .hc ∨ r.declaredFoam = some .unknown ∨
      r.declaredFoam = none ∨ r.flammableRisk = true := by
  simp [UnitRecord.inertRequired, or_assoc]

theorem vesselNeeded_of_effective {r : UnitRecord} {c : RefrigerantClass}
    (effective : r.effective = some c) : r.vesselNeeded = vesselClassOf c := by
  rw [UnitRecord.vesselNeeded, effective]
  rfl

/-- Settles O27: the scan's hit, R42's table of effective classes, and R43's properties. -/
theorem scanAndEffectiveClassAreAsGiven : Obligations.ScanAndEffectiveClassAreAsGiven := by
  refine ⟨fun c readings => ⟨fun i e entry isMatch first => ?_, fun noMatch => ?_⟩,
    effectiveClass_unknown, fun m known => effectiveClass_undeclared known,
    fun m known => (effectiveClass_declared known).trans (if_pos rfl),
    fun d m known differ => (effectiveClass_declared known).trans (if_neg differ), fun r => ?_⟩
  · have hit := scan_of_first entry isMatch first
    exact ⟨hit, hit ▸ measured_some entry⟩
  · have none := scan_of_noMatch noMatch
    exact ⟨none, none ▸ measured_none⟩
  · exact ⟨flammableRisk_iff r, inertRequired_iff r, vesselNeeded_of_effective,
      vesselNeeded_of_effective, vesselNeeded_of_effective, vesselNeeded_of_effective,
      vesselNeeded_of_effective, vesselNeeded_of_effective⟩

end Sys2Proof.Proofs

/-!
PROOFS. Family 02: the lines of the queries (O17), and the commands that change one table (O18).
-/

namespace Sys2Proof.Proofs

open Sys2Proof Sys2Proof.Machine Sys2Proof.Laws

/-! ## Replies (R185, R196) -/

theorem ascii_append (a b : String) : ascii (a ++ b) = ascii a ++ ascii b := by
  simp only [ascii, String.toList_append, List.map_append]

/-- An OK line, by its first two words as one text. -/
theorem okLine_eq (w : CommandWord) (fields : Text) :
    okLine w fields = sealLine (ascii ("OK " ++ commandText w) ++ fields) := by
  rw [okLine, okBody, ascii_append]

/-! ## The other queries (O17) -/

section
variable {s : State}

theorem vesselFields_eq (k : SlotId) :
    s.vesselFields k =
      field "slot" (numText (k.val + 1)) ++
      (field "state" (ascii (match (s.slot k).vessel with
         | none => "VACANT"
         | some v => vesselStateWord v.state)) ++
       ((match (s.slot k).vessel with
          | none => []
          | some v =>
            field "id" (numText v.id) ++ field "class" (ascii (vesselClassWord v.cls)) ++
              field "tare" (numText v.tare) ++ field "initial" (numText v.initial) ++
              field "fill" (numText v.fill) ++ field "booked" (numText v.booked)) ++
        ((match (s.slot k).platform with
          | none => []
          | some p => field "present" (yesNo p.present) ++ field "net" (numText p.net)) ++
         listField "feeders"
          ((trainIds.filter fun t => (s.train t).slot == some k).map (fun t => numText (t.val + 1)) ++
            (bankIds.filter fun bk => (s.bank bk).drainSlot == some k).map fun bk =>
              ascii (bankWord bk))))) := by
  unfold State.vesselFields slotStateWord Vessel.fields
  simp only [List.append_assoc]
  cases (s.slot k).vessel <;> cases (s.slot k).platform <;>
    simp only [Option.map_none, Option.map_some, optField, List.append_assoc, List.nil_append] <;> rfl

theorem testFlag_eq :
    s.testFlag = decide (s.control.watch ≠ [] ∨ s.control.line = .step) := by
  rw [State.testFlag]
  cases s.control.watch <;> simp [Bool.beq_eq_decide_eq]

theorem creditTexts_eq :
    s.creditTexts = (stationIds.filter fun i => decide (i ∈ s.control.credits)).map
        (fun i => numText (i.val + 1)) ++ if s.control.chamberCredit then [ascii "C"] else [] := by
  have held : s.control.credits.contains = fun i => decide (i ∈ s.control.credits) :=
    funext fun i => List.contains_eq_mem i _
  rw [State.creditTexts, held]
  rfl

end

/-- Settles O17: each reply's line, field by field. -/
theorem otherQueriesAreAnswered : Obligations.OtherQueriesAreAnswered := by
  refine ⟨fun s slot k takes at_ => ?_, fun s takes => ⟨?_, fun name => ?_, ?_⟩⟩
  · have executed := exec_rowFor (.queryVessel slot) s takes
    rw [perform, doQueryVessel, at_] at executed
    dsimp only at executed
    rw [vesselFields_eq, okLine_eq] at executed
    obtain rfl := slotOf_some at_
    simp only [List.append_assoc] at executed ⊢
    exact executed
  · have executed := exec_rowFor .status s takes
    rw [perform, doStatus, State.statusFields, okLine_eq, testFlag_eq, creditTexts_eq] at executed
    simp only [List.append_assoc] at executed ⊢
    exact executed
  · have executed := exec_rowFor (.getLimit name) s takes
    rw [perform, doGetLimit, okLine_eq] at executed
    simp only [List.append_assoc] at executed ⊢
    exact executed
  · have executed := exec_rowFor .signatureDigest s takes
    rw [perform, doSignatureDigest, okLine_eq, Classifier.validCount, ← List.countP_eq_length_filter,
      Classifier.tableText] at executed
    simp only [List.append_assoc] at executed ⊢
    exact executed

/-! ## Commands that change one table (O18) -/

section
variable {s : State}

theorem anySampling_false (none : ∀ i, (s.station i).phase ≠ .sampling) : s.anySampling = false := by
  simp [State.anySampling, none]

theorem doSetPaths_accepted {station : Nat} {i : StationId} {trains : List Nat} {ts : List TrainId}
    (stopped : s.control.line = .stopped) (at_ : stationOf station = some i)
    (path : pathOf trains = some ts) (some : ts ≠ []) (few : ts.length ≤ 4) (nodup : ts.Nodup) :
    doSetPaths station trains s =
      ({ s with arbiter := { s.arbiter with paths := s.arbiter.paths.set i.val ts i.isLt } } :
        State).send [okLine .setPaths (field "station" (numText station) ++
          listField "trains" (trains.map numText))] := by
  rw [doSetPaths, at_, path]
  dsimp only
  rw [if_neg (by simp [noRepeats_eq_decide, some, few, nodup]), if_neg (by simp [stopped]),
    stationOf_some at_, pathOf_some path, List.map_map]
  rfl

theorem doSetWatch_accepted {tag : Nat} {phase : PhaseName} (tagged : tag ≠ 0)
    (notEmpty : phase ≠ .empty) (notIdle : phase ≠ .idle)
    (new : ({ tag := tag, phase := phase } : WatchEntry) ∉ s.control.watch)
    (room : s.control.watch.length < 4) :
    doSetWatch tag phase s =
      (s.setControl { s.control with
        watch := s.control.watch ++ [{ tag := tag, phase := phase }] }).send
          [okLine .setWatch (field "tag" (numText tag) ++
            field "phase" (ascii (phaseNameWord phase)) ++
            field "count" (numText (s.control.watch.length + 1)))] := by
  have watched : isWatchPhase phase = true := by
    cases phase
    case empty => exact absurd rfl notEmpty
    case idle => exact absurd rfl notIdle
    all_goals rfl
  rw [doSetWatch, if_neg (by simp [tagged, watched]), if_neg (by simpa using new),
    if_neg (by simpa [Config.watchSize] using room)]
  simp only [setControl_control, List.length_append, List.length_singleton]

theorem removed_length (ws : List WatchEntry) (w : WatchEntry) :
    ws.length - (ws.erase w).length = if w ∈ ws then 1 else 0 := by
  split
  · rename_i mem
    have := List.length_pos_of_mem mem
    rw [List.length_erase_of_mem mem]
    omega
  · rename_i absent
    rw [List.erase_of_not_mem absent, Nat.sub_self]

/-- TRAIN-SERVICE out (R93). -/
theorem doTrainService_out {train : Nat} {t : TrainId} (at_ : trainOf train = some t)
    (state : (s.train t).state = .idle ∨ (s.train t).state = .faulted) :
    doTrainService train false s =
      (s.setTrain t { s.train t with state := .outOfService }).send
        [okLine .trainService (field "train" (numText train) ++ field "state" (ascii "out"))] := by
  rw [doTrainService, at_]
  dsimp only
  rw [if_neg (by rcases state with e | e <;> simp [e]), if_neg (by simp), trainOf_some at_]
  rfl

/-- TRAIN-SERVICE in (R93). -/
theorem doTrainService_in {train : Nat} {t : TrainId} (at_ : trainOf train = some t)
    (state : (s.train t).state = .outOfService ∨ (s.train t).state = .faulted)
    (heard : (s.node (.train t)).silent = false) :
    doTrainService train true s =
      (s.setTrain t { s.train t with state := .idle, lastClass := none }).grantScan.send
        [okLine .trainService (field "train" (numText train) ++ field "state" (ascii "in"))] := by
  rw [doTrainService, at_]
  dsimp only
  rw [if_neg (by rcases state with e | e <;> simp [e]),
    if_neg (by simpa [State.isSilent] using heard), trainOf_some at_]
  rfl

end

/-- Settles O18: each command's reply, and the one table that it changes. -/
theorem tableCommandsChangeTheirTable : Obligations.TableCommandsChangeTheirTable := by
  refine ⟨fun s takes => ⟨fun station i trains ts stopped at_ path some few nodup => ?_, fun m => ?_,
    fun tag phase tagged notEmpty notIdle new room => ?_, fun tag phase nodup => ?_, ?_,
    fun stopped none => ?_, fun rows stopped none low high => ?_, fun kind => ?_⟩,
    fun s train t takes at_ => ⟨fun state => ?_, fun state heard => ?_⟩⟩
  · exact (exec_rowFor (.setPaths station trains) s takes).trans
      (by rw [perform, doSetPaths_accepted stopped at_ path some few nodup])
  · exact exec_rowFor (.setMasks m) s takes
  · exact (exec_rowFor (.setWatch tag phase) s takes).trans
      (by rw [perform, doSetWatch_accepted tagged notEmpty notIdle new room]; rfl)
  · have executed := exec_rowFor (.clearWatch (.entry tag phase)) s takes
    rw [perform, doClearWatch, clearedWatch, ← nodup.erase_eq_filter, removed_length] at executed
    exact executed
  · exact exec_rowFor (.clearWatch .all) s takes
  · have executed := exec_rowFor .clearSignatures s takes
    rw [perform, doClearSignatures, stopped, anySampling_false none] at executed
    exact executed
  · have executed := exec_rowFor (.loadSignatures rows) s takes
    rw [perform, doLoadSignatures, if_neg (by simp [low, high]), stopped, anySampling_false none]
      at executed
    exact executed
  · exact exec_rowFor (.reset kind) s takes
  · exact (exec_rowFor (.trainService train false) s takes).trans
      (by rw [perform, doTrainService_out at_ state])
  · exact (exec_rowFor (.trainService train true) s takes).trans
      (by rw [perform, doTrainService_in at_ state heard])

end Sys2Proof.Proofs

/-!
PROOFS. Family 02: the numbers of orders, their time-outs and reports, and what a failed order does at a station
(O60).
-/

namespace Sys2Proof.Proofs

open Sys2Proof Sys2Proof.Machine Sys2Proof.Laws

/-! ## Events with the RESET pin released -/

/-- With the RESET pin released an event has its effect, and then what every event ends with. -/
theorem event_eq {s : State} (runs : s.resetPin = false) (f : State → State) :
    event f s = (f s).afterEvent := by
  rw [event, runs]
  rfl

/-! ## The number of an order (R192) -/

/-- The number that stands `e` places after `n` in the round of the order numbers. -/
def numberPast (n e : Nat) : Nat := (n + e - 1) % 255 + 1

theorem numberPast_zero {n : Nat} (low : 1 ≤ n) (high : n ≤ 255) : numberPast n 0 = n := by
  unfold numberPast
  omega

theorem numberPast_numberAfter {n : Nat} (low : 1 ≤ n) (high : n ≤ 255) (e : Nat) :
    numberPast (numberAfter n) e = numberPast n (e + 1) := by
  unfold numberPast numberAfter Config.lastOrderNumber
  split <;> omega

theorem numberPast_injOn {n d e : Nat} (low : 1 ≤ n) (hd : d < 255) (he : e < 255)
    (same : numberPast n d = numberPast n e) : d = e := by
  unfold numberPast at same
  omega

/-- What the search for a free number finds: the first free one of those it looks at, or that all of them are
held. -/
theorem firstFreeNumber_spec (held : List Nat) (tries n : Nat) (low : 1 ≤ n) (high : n ≤ 255) :
    (∃ d < tries, firstFreeNumber held tries n = some (numberPast n d) ∧ numberPast n d ∉ held ∧
      ∀ e < d, numberPast n e ∈ held) ∨ ∀ e < tries, numberPast n e ∈ held := by
  induction tries generalizing n with
  | zero => exact .inr nofun
  | succ tries ih =>
    have zero := numberPast_zero low high
    rw [firstFreeNumber, List.contains_eq_mem]
    by_cases taken : n ∈ held
    · have next := numberAfter_bounds n high
      simp only [taken, decide_true, if_true]
      obtain ⟨d, within, found, free, before⟩ | all := ih _ next.1 next.2
      · rw [numberPast_numberAfter low high] at found free
        refine .inl ⟨d + 1, by omega, found, free, fun e lt => ?_⟩
        cases e with
        | zero => rwa [zero]
        | succ e => exact numberPast_numberAfter low high e ▸ before e (by omega)
      · refine .inr fun e lt => ?_
        cases e with
        | zero => rwa [zero]
        | succ e => exact numberPast_numberAfter low high e ▸ all e (by omega)
    · refine .inl ⟨0, by omega, ?_, zero.symm ▸ taken, nofun⟩
      simp [taken, zero]

/-- Fewer than 255 numbers do not hold all that the search looks at. -/
theorem exists_free_number {held : List Nat} {n : Nat} (low : 1 ≤ n) (few : held.length < 255) :
    ¬ ∀ e < 255, numberPast n e ∈ held := by
  intro all
  have nodup : ((List.range 255).map (numberPast n)).Nodup :=
    List.nodup_range.map_on fun d hd e he same =>
      numberPast_injOn low (List.mem_range.mp hd) (List.mem_range.mp he) same
  have within : (List.range 255).map (numberPast n) ⊆ held := fun x hx => by
    obtain ⟨e, he, rfl⟩ := List.mem_map.mp hx
    exact all e (List.mem_range.mp he)
  have := (nodup.subperm within).length_le
  rw [List.length_map, List.length_range] at this
  omega

section
variable {s : State}

theorem orderNumber_of_found {k : Nat}
    (found : firstFreeNumber (s.loop.orders.map (·.number)) 255 s.loop.nextNumber = some k) :
    s.orderNumber = k := by
  rw [State.orderNumber, Config.lastOrderNumber, found]

theorem orderNumber_firstFree (sound : s.loop.numbersSound) (few : s.loop.orders.length < 255) :
    s.orderNumber ∉ s.loop.orders.map (·.number) ∧
      ∃ d, s.orderNumber = numberPast s.loop.nextNumber d ∧
        ∀ e < d, numberPast s.loop.nextNumber e ∈ s.loop.orders.map (·.number) := by
  obtain ⟨⟨low, high⟩, -⟩ := sound
  obtain ⟨d, -, found, free, before⟩ | all :=
    firstFreeNumber_spec (s.loop.orders.map (·.number)) 255 _ low high
  · rw [orderNumber_of_found found]
    exact ⟨free, d, rfl, before⟩
  · exact absurd all (exists_free_number low (by simpa using few))

theorem orderNumber_next (free : s.loop.nextNumber ∉ s.loop.orders.map (·.number)) :
    s.orderNumber = s.loop.nextNumber := by
  refine orderNumber_of_found ?_
  rw [firstFreeNumber, List.contains_eq_mem, decide_eq_false free]
  rfl

theorem issue_eq (sound : s.loop.numbersSound) (who : Issuer) (n : Node) (k : OrderKind) :
    s.issue who n k = { s with
      freeCount := s.freeCount + 1
      loop := { s.loop with
        nextNumber := if s.orderNumber = 255 then 1 else s.orderNumber + 1
        orders := s.loop.orders ++ [{ number := s.orderNumber, node := n, kind := k, issuer := who
                                      deadline := s.now + orderTimeoutOf k, acknowledged := false }] } } := by
  have high : s.orderNumber ≤ 255 := (orderNumber_bounds s sound).2
  have next : numberAfter s.orderNumber = if s.orderNumber = 255 then 1 else s.orderNumber + 1 := by
    unfold numberAfter Config.lastOrderNumber
    split <;> split <;> omega
  rw [← next]
  rfl

/-! ## The orders of a node and a number (R193, R194) -/

/-- The orders of a list that have another node or another number (log 51). -/
def otherOrders (n : Node) (number : Nat) (orders : List Order) : List Order :=
  orders.filter fun p => decide (¬ (p.node = n ∧ p.number = number))

theorem sameOrder_eq (p : Order) (n : Node) (number : Nat) :
    (p.node == n && p.number == number) = decide (p.node = n ∧ p.number = number) := by
  simp [Bool.beq_eq_decide_eq]

theorem removeOrder_eq (o : Order) :
    s.removeOrder o = s.setOrders (otherOrders o.node o.number s.loop.orders) := by
  simp only [State.removeOrder, otherOrders, sameOrder_eq, decide_not]

theorem otherOrders_split {n : Node} {number : Nat} {xs ys : List Order} {o : Order}
    (node : o.node = n) (held : o.number = number)
    (before : ∀ p ∈ xs, ¬ (p.node = n ∧ p.number = number)) :
    otherOrders n number (xs ++ o :: ys) = xs ++ otherOrders n number ys := by
  unfold otherOrders
  rw [List.filter_append, List.filter_cons_of_neg (by simp [node, held]),
    List.filter_eq_self.mpr fun p hp => decide_eq_true (before p hp)]

theorem findOrder_split {n : Node} {number : Nat} {xs ys : List Order} {o : Order}
    (split : s.loop.orders = xs ++ o :: ys) (node : o.node = n) (held : o.number = number)
    (before : ∀ p ∈ xs, ¬ (p.node = n ∧ p.number = number)) : s.findOrder n number = some o :=
  find?_split split (by simp [node, held]) fun p hp e => before p hp (by simpa using e)

theorem acknowledge_split {xs ys : List Order} {o : Order} (split : s.loop.orders = xs ++ o :: ys)
    (before : ∀ p ∈ xs, ¬ (p.node = o.node ∧ p.number = o.number)) :
    s.acknowledge o = s.setOrders (xs ++ { o with acknowledged := true } :: ys.map fun p =>
      if p.node = o.node ∧ p.number = o.number then { p with acknowledged := true } else p) := by
  have kept : xs.map (fun p => if p.node = o.node ∧ p.number = o.number then
      { p with acknowledged := true } else p) = xs :=
    (List.map_congr_left fun p hp => if_neg (before p hp)).trans (List.map_id _)
  simp only [State.acknowledge, split, sameOrder_eq, decide_eq_true_eq, List.map_append, List.map_cons,
    kept, and_self, if_true]

/-! ## The end of an order (R193, R194) -/

theorem endFailed_eq (kind : ConditionKind) (o : Order) :
    s.endFailed kind o = ((s.setOrders (otherOrders o.node o.number s.loop.orders)).raise kind
      (.node o.node) { first := o.number, second := none }).orderFails o := by
  rw [State.endFailed, removeOrder_eq]
  rfl

section
variable {n : Node} {done : State → Order → State} {r : OrderReport} {o : Order}

theorem takeReport_none (none : s.findOrder n r.number = none) : s.takeReport n done r = s := by
  rw [State.takeReport, none]

theorem takeReport_running (found : s.findOrder n r.number = some o) (status : r.status = .running) :
    s.takeReport n done r = s.acknowledge o := by
  rw [State.takeReport, found]
  dsimp only
  rw [status]

theorem takeReport_done (found : s.findOrder n r.number = some o) (status : r.status = .done) :
    s.takeReport n done r = done (s.removeOrder o) o := by
  rw [State.takeReport, found]
  dsimp only
  rw [status]

theorem takeReport_failed (found : s.findOrder n r.number = some o) (status : r.status = .failed) :
    s.takeReport n done r = s.endFailed .orderFailed o := by
  rw [State.takeReport, found]
  dsimp only
  rw [status]

end

/-- R193: what one order report does, by its status. -/
theorem takeReport_cases (n : Node) (done : State → Order → State) (r : OrderReport) :
    (s.findOrder n r.number = none → s.takeReport n done r = s) ∧
    ∀ xs o ys, s.loop.orders = xs ++ o :: ys → o.node = n → o.number = r.number →
      (∀ p ∈ xs, ¬ (p.node = n ∧ p.number = r.number)) → ∃ left : List Order,
        left = xs ++ ys.filter (fun p => decide (¬ (p.node = n ∧ p.number = r.number))) ∧
        (r.status = .running → s.takeReport n done r =
          s.setOrders (xs ++ { o with acknowledged := true } :: ys.map fun p =>
            if p.node = n ∧ p.number = r.number then { p with acknowledged := true } else p)) ∧
        (r.status = .done → s.takeReport n done r = done (s.setOrders left) o) ∧
        (r.status = .failed → s.takeReport n done r =
          ((s.setOrders left).raise .orderFailed (.node n)
            { first := r.number, second := none }).orderFails o) := by
  refine ⟨takeReport_none, fun xs o ys split node held before => ?_⟩
  have found := findOrder_split split node held before
  have others := otherOrders_split (ys := ys) node held before
  rw [← split] at others
  refine ⟨_, rfl, fun status => ?_, fun status => ?_, fun status => ?_⟩
  · rw [takeReport_running found status]
    subst node
    rw [← held] at before ⊢
    exact acknowledge_split split before
  · rw [takeReport_done found status, removeOrder_eq, node, held, others]
    rfl
  · rw [takeReport_failed found status, endFailed_eq, node, held, others]
    rfl

/-! ## A failed order at a station (R52 to R71) -/

section
variable {i : StationId} {o : Order}

theorem orderFails_station (node : o.node = .station i) :
    s.orderFails o = s.stationNodeFailed i o := by
  rw [State.orderFails, node]

theorem closeFailed_eq (x : Station) (number : Nat) :
    x.closeFailed number = { x with
      unsecured := x.unsecured.map fun w =>
        if w.order = some number then { w with order := none } else w } := by
  simp only [Station.closeFailed, beq_iff_eq]

theorem awaited_iff :
    s.awaited i o = true ↔ (s.station i).workOrder = some o.number ∨
      (s.station i).evacOrder = some o.number ∨ (s.station i).drainOrder = some o.number ∨
      (s.control.line = .halted ∧ (o.kind = .evacValve false ∨ o.kind = .drainValve false ∨
        o.kind = .sampleValve false)) := by
  have close : o.kind.isClose = true ↔
      o.kind = .evacValve false ∨ o.kind = .drainValve false ∨ o.kind = .sampleValve false := by
    cases o.kind <;> simp [OrderKind.isClose]
  simp only [State.awaited, Bool.or_eq_true, Bool.and_eq_true, beq_iff_eq, State.halted, close, or_assoc]

/-- The station with the failed close left for an answer to show (R69). -/
def closeMissed (s : State) (i : StationId) (o : Order) : State :=
  s.onStation i fun x => x.closeFailed o.number

theorem closeMissed_eq : closeMissed s i o = s.setStation i { s.station i with
    unsecured := (s.station i).unsecured.map fun w =>
      if w.order = some o.number then { w with order := none } else w } := by
  rw [closeMissed, State.onStation, closeFailed_eq]

@[simp] theorem station_closeMissed :
    (closeMissed s i o).station i = (s.station i).closeFailed o.number := station_onStation ..

theorem stationOrderFailed_unclamp (kind : o.kind = .unclamp) :
    s.stationOrderFailed i o = if (s.station i).workOrder = some o.number then
      (closeMissed s i o).unclampFailed i else closeMissed s i o := by
  unfold State.stationOrderFailed
  rw [if_pos (beq_iff_eq.mpr kind)]
  simp only [station_onStation, beq_iff_eq]
  rfl

theorem stationOrderFailed_work (kind : o.kind ≠ .unclamp) :
    s.stationOrderFailed i o =
      if (s.station i).phase = .empty ∨ (s.station i).phase = .faulted then closeMissed s i o
      else if s.awaited i o then
        (closeMissed s i o).faultStation i (.phase (s.station i).workPhase) true
      else closeMissed s i o := by
  have awaits : (closeMissed s i o).awaited i o = s.awaited i o := by
    rw [State.awaited, station_closeMissed]
    rfl
  unfold State.stationOrderFailed
  rw [if_neg (by simpa using kind)]
  change (if _ then _ else if (closeMissed s i o).awaited i o then _ else _) = _
  rw [awaits]
  simp only [station_onStation, Bool.or_eq_true, beq_iff_eq, State.failStation]
  rfl

theorem unclampFailed_eq :
    s.unclampFailed i =
      if (s.station i).phase = .faulted then
        s.onStation i fun x => { x with unclamping := false, workOrder := none, faultedPhase := some .unclamp }
      else (s.onStation i fun x => { x with unclamping := false, workOrder := none }).faultStation i
        .unclamp true := by
  unfold State.unclampFailed
  simp only [station_onStation, beq_iff_eq, onStation_onStation]

/-- Only a sample valve's failure reaches the Classifier. -/
theorem stationNodeFailed_other (issuer : o.issuer = .stationController)
    (kind : ∀ opens, o.kind ≠ .sampleValve opens) :
    s.stationNodeFailed i o = s.stationOrderFailed i o := by
  unfold State.stationNodeFailed
  rw [if_pos (beq_iff_eq.mpr issuer)]
  dsimp only
  split
  · rename_i opens e
    exact absurd e (kind opens)
  · rfl

theorem stationNodeFailed_sample {opens : Bool} (issuer : o.issuer = .stationController)
    (kind : o.kind = .sampleValve opens) :
    s.stationNodeFailed i o = (s.stationOrderFailed i o).sampleValveFailed i o.number := by
  rw [State.stationNodeFailed, if_pos (beq_iff_eq.mpr issuer), kind]

theorem sampleValveFailed_elsewhere {number : Nat}
    (apart : ∀ c, s.classifier.cycle = some c → c.station ≠ i) : s.sampleValveFailed i number = s := by
  unfold State.sampleValveFailed
  split
  · rfl
  · rename_i c cycle
    rw [if_pos (bne_iff_ne.mpr (apart c cycle))]

theorem sampleValveFailed_here {c : SampleCycle} {number : Nat} (cycle : s.classifier.cycle = some c)
    (here : c.station = i) :
    s.sampleValveFailed i number =
      if c.openOrder = some number then s.sampleOpenFailed c
      else if c.closeOrder = some number then
        s.setCycle (some { c with closeOrder := none, blocked := true })
      else s := by
  unfold State.sampleValveFailed
  rw [cycle]
  dsimp only
  rw [if_neg (by simp [here])]
  simp only [beq_iff_eq, State.onCycle, cycle, Option.map_some]

/-- A failed order of the Station Controller: what its station and the Classifier make of it. -/
theorem stationOrderFailed_cases (s : State) (i : StationId) (o : Order) (node : o.node = .station i)
    (issuer : o.issuer = .stationController) :
    ∃ u v : State,
      u = s.setStation i { s.station i with
        unsecured := (s.station i).unsecured.map fun w =>
          if w.order = some o.number then { w with order := none } else w } ∧
      (o.kind = .unclamp → (s.station i).workOrder ≠ some o.number → v = u) ∧
      (o.kind = .unclamp → (s.station i).workOrder = some o.number → (s.station i).phase ≠ .faulted →
        v = (u.onStation i fun x =>
          { x with unclamping := false, workOrder := none }).faultStation i .unclamp true) ∧
      (o.kind = .unclamp → (s.station i).workOrder = some o.number → (s.station i).phase = .faulted →
        v = u.onStation i fun x =>
          { x with unclamping := false, workOrder := none, faultedPhase := some .unclamp }) ∧
      (o.kind ≠ .unclamp →
        ((s.station i).phase = .empty ∨ (s.station i).phase = .faulted → v = u) ∧
        ((s.station i).phase ≠ .empty → (s.station i).phase ≠ .faulted → ∀ awaited : Prop,
          (awaited ↔ (s.station i).workOrder = some o.number ∨
            (s.station i).evacOrder = some o.number ∨ (s.station i).drainOrder = some o.number ∨
            (s.control.line = .halted ∧ (o.kind = .evacValve false ∨ o.kind = .drainValve false ∨
              o.kind = .sampleValve false))) →
          (awaited → v = u.faultStation i
            (.phase ((s.station i).nextPhase.getD (s.station i).phase)) true) ∧
          (¬ awaited → v = u))) ∧
      ((∀ opens, o.kind ≠ .sampleValve opens) → s.orderFails o = v) ∧
      ((∀ c, v.classifier.cycle = some c → c.station ≠ i) → s.orderFails o = v) ∧
      ∀ c opens, o.kind = .sampleValve opens → v.classifier.cycle = some c → c.station = i →
        c.openOrder ≠ some o.number →
        (c.closeOrder = some o.number → s.orderFails o = { v with classifier := { v.classifier with
          cycle := some { c with closeOrder := none, blocked := true } } }) ∧
        (c.closeOrder ≠ some o.number → s.orderFails o = v) := by
  rw [orderFails_station node]
  refine ⟨closeMissed s i o, s.stationOrderFailed i o, closeMissed_eq, fun kind stale => ?_,
    fun kind waits working => ?_, fun kind waits faulted => ?_,
    fun kind => ⟨fun gone => ?_, fun present working awaited iff => ⟨fun waits => ?_, fun stale => ?_⟩⟩,
    fun kind => stationNodeFailed_other issuer kind, fun apart => ?_,
    fun c opens kind cycle here closes => ?_⟩
  · rw [stationOrderFailed_unclamp kind, if_neg stale]
  · rw [stationOrderFailed_unclamp kind, if_pos waits, unclampFailed_eq, station_closeMissed]
    exact if_neg working
  · rw [stationOrderFailed_unclamp kind, if_pos waits, unclampFailed_eq, station_closeMissed]
    exact if_pos faulted
  · rw [stationOrderFailed_work kind, if_pos gone]
  · rw [stationOrderFailed_work kind, if_neg (not_or.mpr ⟨present, working⟩),
      if_pos (awaited_iff.mpr (iff.mp waits))]
    rfl
  · rw [stationOrderFailed_work kind, if_neg (not_or.mpr ⟨present, working⟩),
      if_neg fun waits => stale (iff.mpr (awaited_iff.mp waits))]
  · by_cases sample : ∃ opens, o.kind = .sampleValve opens
    · obtain ⟨opens, kind⟩ := sample
      rw [stationNodeFailed_sample issuer kind, sampleValveFailed_elsewhere apart]
    · exact stationNodeFailed_other issuer fun opens kind => sample ⟨opens, kind⟩
  · rw [stationNodeFailed_sample issuer kind, sampleValveFailed_here cycle here, if_neg closes]
    exact ⟨fun close => if_pos close, fun other => if_neg other⟩

end

end

/-! ## The time-out (R194) and the statement (O60) -/

theorem timeOutOrder_none {s : State} {number : Nat} (none : ∀ o ∈ s.loop.orders, o.number ≠ number) :
    timeOutOrder number s = s := by
  rw [timeOutOrder, List.find?_eq_none.mpr fun o mem => by simpa using none o mem]

theorem timeOutOrder_split {s : State} {number : Nat} {xs ys : List Order} {o : Order}
    (split : s.loop.orders = xs ++ o :: ys) (held : o.number = number)
    (before : ∀ p ∈ xs, p.number ≠ number) :
    timeOutOrder number s = (((s.advanceTo o.deadline).setOrders
      (xs ++ ys.filter fun p => decide (¬ (p.node = o.node ∧ p.number = number)))).raise
        .orderTimeout (.node o.node) { first := number, second := none }).orderFails o := by
  have found : (s.loop.orders.find? fun o => o.number == number) = some o :=
    find?_split split (by simp [held]) fun p hp e => before p hp (by simpa using e)
  have loop : (s.advanceTo o.deadline).loop = s.loop := advance_loop ..
  rw [timeOutOrder, found]
  dsimp only
  rw [endFailed_eq, loop, split, held,
    otherOrders_split rfl held fun p hp same => before p hp same.2]
  rfl

theorem orderFails_pierce {s : State} {i : StationId} {o : Order} (node : o.node = .station i)
    (issuer : o.issuer = .stationController) (kind : o.kind = .pierce)
    (phase : (s.station i).phase = .pierce) (next : (s.station i).nextPhase = none)
    (work : (s.station i).workOrder = some o.number) :
    s.orderFails o = (closeMissed s i o).faultStation i (.phase .pierce) true := by
  have workPhase : (s.station i).workPhase = .pierce := by
    rw [Station.workPhase, next, Option.getD_none, phase]
  rw [orderFails_station node, stationNodeFailed_other issuer (by simp [kind]),
    stationOrderFailed_work (by simp [kind]), if_neg (by simp [phase]),
    if_pos (awaited_iff.mpr (.inl work)), workPhase]

/-- A time-out leaves every station as it stands, but for its evacuation clock. -/
theorem station_timedOut (s : State) (deadline : Moment) (orders : List Order) (origin : Origin)
    (detail : Detail) (i : StationId) :
    ((((s.advanceTo deadline).setOrders orders).raise .orderTimeout origin detail).station i) =
      { s.station i with clock := ((s.advanceTo deadline).station i).clock } := by
  have stands : (s.advanceTo deadline).station i =
      { s.station i with clock := ((s.advanceTo deadline).station i).clock } := station_advance ..
  rw [raise_quiet (by decide)]
  generalize s.advanceTo deadline = u at stands ⊢
  exact stands

/-- Settles O60: the number of an issued order, its time-out, its reports, and what its failure does at a
station. -/
theorem ordersAreNumberedAndEnd : Obligations.OrdersAreNumberedAndEnd := by
  refine ⟨⟨fun s who n k sound => ⟨s.orderNumber, issue_eq sound who n k, orderNumber_bounds s sound,
      fun few => ?_, fun free => orderNumber_next ?_⟩, fun k => by cases k <;> rfl,
      fun s number runs => ?_⟩, stationOrderFailed_cases, fun s => takeReport_cases⟩
  · obtain ⟨free, d, past, before⟩ := orderNumber_firstFree sound few
    exact ⟨fun o mem same => free (List.mem_map.mpr ⟨o, mem, same⟩), d, past,
      fun e lt => List.mem_map.mp (before e lt)⟩
  · rintro held
    obtain ⟨o, mem, same⟩ := List.mem_map.mp held
    exact free o mem same
  · change (_ → Host.Outcome.next (event (timeOutOrder number) s) = _) ∧ _
    rw [event_eq runs]
    refine ⟨fun none => by rw [timeOutOrder_none none], fun xs o ys split held before => ?_⟩
    refine ⟨_, rfl, ?_, fun t node => by rw [State.orderFails, node],
      fun i node issuer kind phase next work => ?_⟩
    · change Host.Outcome.next (event (timeOutOrder number) s) = _
      rw [event_eq runs, timeOutOrder_split split held before]
    · have stands := station_timedOut s o.deadline
        (xs ++ ys.filter fun p => decide (¬ (p.node = o.node ∧ p.number = number)))
        (.node o.node) { first := number, second := none } i
      rw [orderFails_pierce node issuer kind (by rw [stands, phase]) (by rw [stands, next])
        (by rw [stands, work, held]), closeMissed_eq, held]

end Sys2Proof.Proofs

/-!
PROOFS. Family 02: the orders that an operation adds to those outstanding, and the halt (O53).
-/

namespace Sys2Proof.Proofs

open Sys2Proof Sys2Proof.Machine Sys2Proof.Laws

/-! ## The orders that an operation issues -/

/-- The orders of the later state that stand behind those of the earlier. -/
def newOrders (s t : State) : List Order := t.loop.orders.drop s.loop.orders.length

/-- All that happens to the field loop is that orders are issued, each at a node and of a kind that `P` allows. -/
structure Issues (P : Node → OrderKind → Prop) (s t : State) : Prop where
  loop : t.loop = { s.loop with
    orders := s.loop.orders ++ newOrders s t, nextNumber := t.loop.nextNumber }
  each : ∀ o ∈ newOrders s t, o.acknowledged = false ∧ P o.node o.kind

section
variable {P : Node → OrderKind → Prop} {s t u : State}

theorem newOrders_of_append {new : List Order} (orders : t.loop.orders = s.loop.orders ++ new) :
    newOrders s t = new := by
  rw [newOrders, orders, List.drop_left]

theorem Issues.orders (h : Issues P s t) : t.loop.orders = s.loop.orders ++ newOrders s t :=
  congrArg FieldLoop.orders h.loop

theorem Issues.node (h : Issues P s t) (n : Node) : t.node n = s.node n := by
  unfold State.node
  rw [h.loop]

theorem Issues.of_loop {new : List Order} (loop : t.loop = { s.loop with
      orders := s.loop.orders ++ new, nextNumber := t.loop.nextNumber })
    (each : ∀ o ∈ new, o.acknowledged = false ∧ P o.node o.kind) : Issues P s t := by
  have eq : newOrders s t = new := newOrders_of_append (congrArg FieldLoop.orders loop)
  exact ⟨eq.symm ▸ loop, eq.symm ▸ each⟩

theorem Issues.of_same (loop : t.loop = s.loop) : Issues P s t :=
  .of_loop (new := []) (by rw [loop, List.append_nil]) nofun

theorem newOrders_trans (h : Issues P s t) (h' : Issues P t u) :
    newOrders s u = newOrders s t ++ newOrders t u :=
  newOrders_of_append (by rw [h'.orders, h.orders, List.append_assoc])

theorem Issues.trans (h : Issues P s t) (h' : Issues P t u) : Issues P s u := by
  refine .of_loop (new := newOrders s t ++ newOrders t u) ?_ fun o mem => ?_
  · rw [h'.loop, h.loop, List.append_assoc]
  · exact (List.mem_append.mp mem).elim (h.each o) (h'.each o)

/-- What was issued earlier stands among the orders issued since. -/
theorem newOrders_earlier (h : Issues P s t) (h' : Issues P t u) : newOrders s t ⊆ newOrders s u :=
  newOrders_trans h h' ▸ List.subset_append_left _ _

theorem newOrders_later (h : Issues P s t) (h' : Issues P t u) : newOrders t u ⊆ newOrders s u :=
  newOrders_trans h h' ▸ List.subset_append_right _ _

theorem newOrders_issueFor (s : State) (b : Issuer) (n : Node) (k : OrderKind) (c : OrderCause) :
    newOrders s (s.issueFor b n k c) =
      [{ number := s.orderNumber, node := n, kind := k, issuer := b
         deadline := s.now + orderTimeoutOf k, acknowledged := false, cause := c }] :=
  newOrders_of_append rfl

theorem issueFor_issues {n : Node} {k : OrderKind} (allowed : P n k) (b : Issuer) (c : OrderCause) :
    Issues P s (s.issueFor b n k c) :=
  .of_loop rfl (List.forall_mem_singleton.mpr ⟨rfl, allowed⟩)

/-- The three orders of an action that issues them one after another. -/
theorem issueFor_three {n : Node} {k₁ k₂ k₃ : OrderKind} (allowed : ∀ k ∈ [k₁, k₂, k₃], P n k)
    (b : Issuer) (c : OrderCause) :
    Issues P s (((s.issueFor b n k₁ c).issueFor b n k₂ c).issueFor b n k₃ c) ∧
      ∀ k ∈ [k₁, k₂, k₃], ∃ o ∈ newOrders s (((s.issueFor b n k₁ c).issueFor b n k₂ c).issueFor b n k₃ c),
        o.node = n ∧ o.kind = k := by
  have first : Issues P s (s.issueFor b n k₁ c) := issueFor_issues (allowed _ (by simp)) b c
  have second : Issues P (s.issueFor b n k₁ c) ((s.issueFor b n k₁ c).issueFor b n k₂ c) :=
    issueFor_issues (allowed _ (by simp)) b c
  have third : Issues P ((s.issueFor b n k₁ c).issueFor b n k₂ c)
      (((s.issueFor b n k₁ c).issueFor b n k₂ c).issueFor b n k₃ c) :=
    issueFor_issues (allowed _ (by simp)) b c
  refine ⟨(first.trans second).trans third, ?_⟩
  rw [newOrders_trans (first.trans second) third, newOrders_trans first second]
  simp [newOrders_issueFor]

end

/-! ## The closing of a station's valves (R67, R76) -/

/-- An order of the Station Controller that closes a valve. -/
def closeOrder (i : StationId) (now : Moment) (number : Nat) (kind : OrderKind) : Order where
  number := number
  node := .station i
  kind := kind
  issuer := .stationController
  deadline := now + orderTimeoutOf kind
  acknowledged := false

/-- The close orders of a station's three valves. -/
def closeOrders (i : StationId) (now : Moment) (a b c : Nat) : List Order :=
  [closeOrder i now a (.evacValve false), closeOrder i now b (.sampleValve false),
    closeOrder i now c (.drainValve false)]

theorem closeOrders_subset {i : StationId} {now : Moment} {a b c : Nat} {new : List Order} :
    closeOrders i now a b c ⊆ new ↔ closeOrder i now a (.evacValve false) ∈ new ∧
      closeOrder i now b (.sampleValve false) ∈ new ∧ closeOrder i now c (.drainValve false) ∈ new := by
  simp [closeOrders]

/-- `closeValves` issues the three closes and marks the station, and does nothing else. -/
theorem closeValves_eq (s : State) (i : StationId) : ∃ a b c,
    newOrders s (s.closeValves i) = closeOrders i s.now a b c ∧
      (s.closeValves i).loop = { s.loop with
        orders := s.loop.orders ++ closeOrders i s.now a b c
        nextNumber := (s.closeValves i).loop.nextNumber } ∧
      s.closeValves i = { s with
        stations := s.stations.set i.val (valvesClosed a b c (s.station i)) i.isLt
        loop := (s.closeValves i).loop
        freeCount := (s.closeValves i).freeCount } := by
  generalize hu : s.issue .stationController (.station i) (.evacValve false) = u
  generalize hv : u.issue .stationController (.station i) (.sampleValve false) = v
  have loop : (s.closeValves i).loop = { s.loop with
      orders := s.loop.orders ++ closeOrders i s.now s.orderNumber u.orderNumber v.orderNumber
      nextNumber := (s.closeValves i).loop.nextNumber } := by
    rw [closeOrders, ← List.singleton_append, ← List.append_assoc,
      ← List.singleton_append (x := closeOrder i s.now u.orderNumber _), ← List.append_assoc, ← hv, ← hu]
    rfl
  refine ⟨_, _, _, newOrders_of_append (congrArg FieldLoop.orders loop), loop, ?_⟩
  subst hv hu
  simp only [State.closeValves, valvesClosed, beq_iff_eq]
  rfl

section
variable {P : Node → OrderKind → Prop} {s : State} {i : StationId}

theorem closeValves_issues
    (allowed : ∀ k ∈ [OrderKind.evacValve false, .sampleValve false, .drainValve false], P (.station i) k) :
    Issues P s (s.closeValves i) := by
  obtain ⟨a, b, c, -, loop, -⟩ := closeValves_eq s i
  refine .of_loop loop ?_
  simpa [closeOrders, closeOrder] using allowed

end

/-! ## The halt actions (R174), stage by stage -/

section
variable {P : Node → OrderKind → Prop} {s t u : State}

/-- A halted station (R76): an EMPTY one stands as it was, another has its valves closed by orders of a list. -/
def StationHalted (s : State) (new : List Order) (i : StationId) (x : Station) : Prop :=
  ((s.station i).phase = .empty → x = s.station i) ∧
  ((s.station i).phase ≠ .empty → ∃ a b c, x = valvesClosed a b c (s.station i) ∧
    closeOrders i s.now a b c ⊆ new)

theorem StationHalted.mono {new new' : List Order} {i : StationId} {x : Station}
    (h : StationHalted s new i x) (more : new ⊆ new') : StationHalted s new' i x := by
  refine ⟨h.1, fun present => ?_⟩
  obtain ⟨a, b, c, closed, mem⟩ := h.2 present
  exact ⟨a, b, c, closed, fun o ho => more (mem ho)⟩

theorem StationHalted.phase {new : List Order} {i : StationId} {x : Station}
    (h : StationHalted s new i x) : x.phase = (s.station i).phase := by
  by_cases empty : (s.station i).phase = .empty
  · rw [h.1 empty]
  · obtain ⟨a, b, c, closed, -⟩ := h.2 empty
    rw [closed]
    rfl

theorem haltStation_empty {i : StationId} (empty : (s.station i).phase = .empty) :
    s.haltStation i = s := by
  rw [State.haltStation, if_pos (beq_iff_eq.mpr empty)]

theorem haltStation_present {i : StationId} (present : (s.station i).phase ≠ .empty) :
    s.haltStation i = s.closeValves i := by
  rw [State.haltStation, if_neg (by simpa using present)]

/-- What the halt of the stations keeps. -/
structure StationsFrozen (P : Node → OrderKind → Prop) (s t : State) : Prop where
  issues : Issues P s t
  frame : t = { s with stations := t.stations, loop := t.loop, freeCount := t.freeCount }

theorem StationsFrozen.closeValves {i : StationId} (h : StationsFrozen P s t)
    (allowed : ∀ k ∈ [OrderKind.evacValve false, .sampleValve false, .drainValve false], P (.station i) k) :
    StationsFrozen P s (t.closeValves i) where
  issues := h.issues.trans (closeValves_issues allowed)
  frame := by
    obtain ⟨a, b, c, -, -, eq⟩ := closeValves_eq t i
    rw [eq, h.frame]

theorem haltStations (allowed : ∀ i, (s.station i).phase ≠ .empty →
      ∀ k ∈ [OrderKind.evacValve false, .sampleValve false, .drainValve false], P (.station i) k) :
    StationsFrozen P s (forAll stationIds s State.haltStation) ∧
      ∀ i, StationHalted s (newOrders s (forAll stationIds s State.haltStation)) i
        ((forAll stationIds s State.haltStation).station i) := by
  have acts (t : State) (i : StationId) (frozen : StationsFrozen P s t)
      (before : t.station i = s.station i) :
      StationsFrozen P s (t.haltStation i) ∧
        StationHalted s (newOrders s (t.haltStation i)) i ((t.haltStation i).station i) := by
    by_cases empty : (s.station i).phase = .empty
    · rw [haltStation_empty (before ▸ empty)]
      exact ⟨frozen, fun _ => before, fun present => absurd empty present⟩
    · rw [haltStation_present (before ▸ empty)]
      obtain ⟨a, b, c, new, -, eq⟩ := closeValves_eq t i
      have now : t.now = s.now := by rw [frozen.frame]
      have issues : Issues P t (t.closeValves i) := closeValves_issues (allowed i empty)
      refine ⟨frozen.closeValves (allowed i empty), fun e => absurd e empty, fun _ => ⟨a, b, c, ?_, ?_⟩⟩
      · rw [← before, eq]
        exact get_set_self _ _ _
      · rw [← now, ← new]
        exact newOrders_later frozen.issues issues
  have others (t : State) (i j : StationId) (ne : j ≠ i) :
      (t.haltStation i).station j = t.station j := by
    by_cases empty : (t.station i).phase = .empty
    · rw [haltStation_empty empty]
    · rw [haltStation_present empty]
      exact (closeValves_keeps t i).1 j ne
  have grows (t : State) (i : StationId) (frozen : StationsFrozen P s t)
      (before : t.station i = s.station i) : newOrders s t ⊆ newOrders s (t.haltStation i) := by
    by_cases empty : (t.station i).phase = .empty
    · rw [haltStation_empty empty]
      exact List.Subset.refl _
    · rw [haltStation_present empty]
      exact newOrders_earlier frozen.issues (closeValves_issues (allowed i (before ▸ empty)))
  obtain ⟨frozen, all, -⟩ := forAll_each (f := State.haltStation) (Inv := StationsFrozen P s)
    (Before := fun i t => t.station i = s.station i)
    (After := fun i t => StationHalted s (newOrders s t) i (t.station i)) acts
    (fun t i j _ _ ne stands => (others t i j ne).trans stands)
    (fun t i j frozen before ne done => (others t i j ne).symm ▸ done.mono (grows t i frozen before))
    stationIds (by decide) s ⟨.of_same rfl, rfl⟩ fun _ _ => rfl
  exact ⟨frozen, fun i => all i (mem_stationIds i)⟩

/-! ### The Classifier (R39, R40) -/

/-- What the Classifier's halt action keeps, and what becomes of the cycle. -/
structure CycleHalted (P : Node → OrderKind → Prop) (s t : State) : Prop where
  issues : Issues P s t
  frame : t = { s with
    classifier := { s.classifier with cycle := t.classifier.cycle }
    loop := t.loop, freeCount := t.freeCount }

theorem CycleHalted.refl (P : Node → OrderKind → Prop) (s : State) : CycleHalted P s s := ⟨.of_same rfl, rfl⟩

/-- A cycle that is not CLOSING is abandoned: with the close that its station has ordered, where there is one,
else with one that the Classifier orders. -/
theorem haltClassifier_on {c : SampleCycle} {b : Nat} (cycle : s.classifier.cycle = some c)
    (on : c.stage ≠ .closing)
    (close : (s.station c.station).phase ≠ .empty → s.sampleClose c.station = some b)
    (allowed : P (.station c.station) (.sampleValve false)) :
    CycleHalted P s s.haltClassifier ∧
      ((s.station c.station).phase ≠ .empty → s.haltClassifier.classifier.cycle = some (abandoned c b)) ∧
      ((s.station c.station).phase = .empty → ∃ n,
        s.haltClassifier.classifier.cycle = some (abandoned c n) ∧
        ∃ o ∈ newOrders s s.haltClassifier,
          o.node = .station c.station ∧ o.number = n ∧ o.kind = .sampleValve false) := by
  by_cases empty : (s.station c.station).phase = .empty
  · have eq : s.haltClassifier = (s.issue .classifier (.station c.station) (.sampleValve false)).setCycle
        (some (abandoned c s.orderNumber)) := by
      rw [State.haltClassifier, cycle]
      dsimp only
      rw [if_pos (beq_iff_eq.mpr empty), abandonCycle_of_on cycle on]
    have issues : Issues P s s.haltClassifier :=
      eq ▸ (issueFor_issues (s := s) allowed .classifier .work).trans (.of_same rfl)
    refine ⟨⟨issues, by rw [eq]; rfl⟩, fun present => absurd empty present, fun _ => ⟨_, by rw [eq]; rfl, ?_⟩⟩
    have new := newOrders_issueFor s .classifier (.station c.station) (.sampleValve false) .work
    rw [eq]
    exact ⟨_, new.symm ▸ List.mem_singleton_self _, rfl, rfl, rfl⟩
  · have eq : s.haltClassifier = s.setCycle (some (abandoned c b)) := by
      rw [State.haltClassifier, cycle]
      dsimp only
      rw [if_neg (by simpa using empty), close empty, State.abandonCycle, cycle]
      dsimp only
      rw [if_neg (by simpa using on)]
      rfl
    rw [eq]
    exact ⟨⟨.of_same rfl, rfl⟩, fun _ => rfl, fun e => absurd e empty⟩

theorem haltClassifier_off (off : ∀ c, s.classifier.cycle = some c → c.stage = .closing) :
    s.haltClassifier = s := by
  unfold State.haltClassifier
  split
  · rfl
  · rename_i c cycle
    exact abandonCycle_of_closing _ cycle (off c cycle)

/-! ### The trains (R94) -/

/-- What the halt of the trains keeps. -/
structure LoopFrozen (P : Node → OrderKind → Prop) (s t : State) : Prop where
  issues : Issues P s t
  frame : t = { s with loop := t.loop, freeCount := t.freeCount }

theorem haltTrain_silent {k : TrainId} (silent : (s.node (.train k)).silent = true) :
    s.haltTrain k = s := by
  rw [State.haltTrain, State.isSilent, silent]
  rfl

theorem haltTrain_heard {k : TrainId} (heard : (s.node (.train k)).silent = false) :
    s.haltTrain k = ((s.issueFor .pathArbiter (.train k) .compressorStop .halt).issueFor .pathArbiter (.train k)
      (.purgeValve false) .halt).issueFor .pathArbiter (.train k) .outletClose .halt := by
  rw [State.haltTrain, State.isSilent, heard]
  rfl

theorem haltTrains (allowed : ∀ k, (s.node (.train k)).silent = false →
      ∀ kind ∈ [OrderKind.compressorStop, .purgeValve false, .outletClose], P (.train k) kind) :
    LoopFrozen P s (forAll trainIds s State.haltTrain) ∧
      ∀ k, (s.node (.train k)).silent = false →
        ∀ kind ∈ [OrderKind.compressorStop, .purgeValve false, .outletClose],
          ∃ o ∈ newOrders s (forAll trainIds s State.haltTrain), o.node = .train k ∧ o.kind = kind := by
  have step (t : State) (k : TrainId) (frozen : LoopFrozen P s t) :
      LoopFrozen P t (t.haltTrain k) ∧ ((s.node (.train k)).silent = false →
        ∀ kind ∈ [OrderKind.compressorStop, .purgeValve false, .outletClose],
          ∃ o ∈ newOrders t (t.haltTrain k), o.node = .train k ∧ o.kind = kind) := by
    have node := frozen.issues.node (.train k)
    cases heard : (s.node (.train k)).silent with
    | true =>
      rw [haltTrain_silent (node ▸ heard)]
      exact ⟨⟨.of_same rfl, rfl⟩, nofun⟩
    | false =>
      rw [haltTrain_heard (node ▸ heard)]
      obtain ⟨issues, ordered⟩ := issueFor_three (s := t) (allowed k heard) .pathArbiter .halt
      exact ⟨⟨issues, rfl⟩, fun _ => ordered⟩
  obtain ⟨frozen, all, -⟩ := forAll_each (f := State.haltTrain) (Inv := LoopFrozen P s)
    (Before := fun _ _ => True)
    (After := fun k t => (s.node (.train k)).silent = false →
      ∀ kind ∈ [OrderKind.compressorStop, .purgeValve false, .outletClose],
        ∃ o ∈ newOrders s t, o.node = .train k ∧ o.kind = kind)
    (fun t k frozen _ => by
      obtain ⟨next, ordered⟩ := step t k frozen
      refine ⟨⟨frozen.issues.trans next.issues, by rw [next.frame, frozen.frame]⟩, fun heard kind mem => ?_⟩
      obtain ⟨o, ho, is⟩ := ordered heard kind mem
      exact ⟨o, newOrders_later frozen.issues next.issues ho, is⟩)
    (fun _ _ _ _ _ _ _ => trivial)
    (fun t k j frozen _ _ done heard kind mem => by
      obtain ⟨o, ho, is⟩ := done heard kind mem
      exact ⟨o, newOrders_earlier frozen.issues (step t k frozen).1.issues ho, is⟩)
    trainIds (by decide) s ⟨.of_same rfl, rfl⟩ fun _ _ => trivial
  exact ⟨frozen, fun k => all k (mem_trainIds k)⟩

/-! ### The chamber (R133) -/

theorem haltChamber_issues
    (allowed : ∀ k ∈ [OrderKind.shredderStop, .doorLock, .nitrogen true], P .chamber k) :
    Issues P s s.haltChamber ∧
      (s.haltChamber = { s with
        chamber := { s.chamber with nitrogenOpen := true }
        loop := s.haltChamber.loop, freeCount := s.haltChamber.freeCount }) ∧
      ∀ k ∈ [OrderKind.shredderStop, .doorLock, .nitrogen true],
        ∃ o ∈ newOrders s s.haltChamber, o.node = .chamber ∧ o.kind = k := by
  obtain ⟨issues, ordered⟩ := issueFor_three (s := s) allowed .chamberSequencer .halt
  exact ⟨issues.trans (.of_same rfl), rfl, ordered⟩

/-! ### The banks (R154) -/

/-- A bank after its halt action, with the orders of a list. -/
structure BankHalted (s : State) (new : List Order) (bk : BankId) (x : Bank) : Prop where
  defrost : (s.bank bk).state = .defrost →
    x = { s.bank bk with
      paused := true
      defrostRemaining := (s.bank bk).defrostDeadline.map fun d => d - s.now } ∧
    ∃ o ∈ new, o.node = .condenser ∧ o.kind = .heaterOff bk
  drain : (s.bank bk).state = .drain → (s.bank bk).drainEnded = false → ∃ n,
    x = { s.bank bk with drainValve := .closing, paused := true, drainOrder := some n } ∧
    ∃ o ∈ new, o.node = .condenser ∧ o.number = n ∧ o.kind = .bankDrainClose bk
  rests : (s.bank bk).state ≠ .defrost →
    ¬ ((s.bank bk).state = .drain ∧ (s.bank bk).drainEnded = false) → x = s.bank bk

theorem BankHalted.mono {new new' : List Order} {bk : BankId} {x : Bank} (h : BankHalted s new bk x)
    (more : new ⊆ new') : BankHalted s new' bk x where
  defrost state := by
    obtain ⟨eq, o, ho, is⟩ := h.defrost state
    exact ⟨eq, o, more ho, is⟩
  drain state on := by
    obtain ⟨n, eq, o, ho, is⟩ := h.drain state on
    exact ⟨n, eq, o, more ho, is⟩
  rests := h.rests

theorem BankHalted.of_bank {new : List Order} {bk : BankId} {x : Bank} (h : BankHalted t new bk x)
    (bank : t.bank bk = s.bank bk) (now : t.now = s.now) : BankHalted s new bk x := by
  obtain ⟨defrost, drain, rests⟩ := h
  rw [bank] at defrost drain rests
  rw [now] at defrost
  exact ⟨defrost, drain, rests⟩

/-- What the halt of the banks keeps. -/
structure BanksFrozen (P : Node → OrderKind → Prop) (s t : State) : Prop where
  issues : Issues P s t
  frame : t = { s with
    condenser := { s.condenser with bankA := t.condenser.bankA, bankB := t.condenser.bankB }
    loop := t.loop, freeCount := t.freeCount }

theorem BanksFrozen.trans (h : BanksFrozen P s t) (h' : BanksFrozen P t u) : BanksFrozen P s u where
  issues := h.issues.trans h'.issues
  frame := by rw [h'.frame, h.frame]

/-- One order at the condenser, and a mark on one bank. -/
theorem banksFrozen_order (s : State) (bk : BankId) {k : OrderKind} (allowed : P .condenser k)
    (f : Bank → Bank) :
    BanksFrozen P s ((s.orderBank k).onBank bk f) ∧
      ∃ o ∈ newOrders s ((s.orderBank k).onBank bk f),
        o.node = .condenser ∧ o.number = s.orderNumber ∧ o.kind = k := by
  have first : Issues P s (s.orderBank k) := issueFor_issues allowed .condenser .work
  have new : newOrders s ((s.orderBank k).onBank bk f) = newOrders s (s.orderBank k) := by
    rw [newOrders, onBank_loop]
    rfl
  refine ⟨⟨first.trans (.of_same (onBank_loop ..)), by cases bk <;> rfl⟩, ?_⟩
  rw [new, State.orderBank, State.issue, newOrders_issueFor]
  exact ⟨_, List.mem_singleton_self _, rfl, rfl, rfl⟩

theorem bank_onBank_ne (s : State) {bk other : BankId} (f : Bank → Bank) (ne : other ≠ bk) :
    (s.onBank bk f).bank other = s.bank other := by
  have e : other = otherBank bk := by
    cases bk <;> cases other <;> first | rfl | exact absurd rfl ne
  rw [e, bank_onBank_other]

theorem haltBank_rests {bk : BankId} (state : (s.bank bk).state ≠ .defrost)
    (off : ¬ ((s.bank bk).state = .drain ∧ (s.bank bk).drainEnded = false)) : s.haltBank bk = s := by
  unfold State.haltBank
  split
  · rename_i e
    exact absurd e state
  · rename_i e
    exact if_pos (by simpa [e] using off)
  · rfl

/-- A bank's halt action, by its state. -/
theorem haltBank_acts (s : State) (bk : BankId)
    (heater : (s.bank bk).state = .defrost → P .condenser (.heaterOff bk))
    (close : (s.bank bk).state = .drain → (s.bank bk).drainEnded = false →
      P .condenser (.bankDrainClose bk)) :
    BanksFrozen P s (s.haltBank bk) ∧
      BankHalted s (newOrders s (s.haltBank bk)) bk ((s.haltBank bk).bank bk) ∧
      ∀ other, other ≠ bk → (s.haltBank bk).bank other = s.bank other := by
  by_cases defrost : (s.bank bk).state = .defrost
  · have eq : s.haltBank bk = (s.orderBank (.heaterOff bk)).onBank bk fun x =>
        { x with paused := true, defrostRemaining := x.defrostDeadline.map fun d => d - s.now } := by
      rw [State.haltBank, defrost]
    obtain ⟨frozen, o, mem, node, -, kind⟩ := eq ▸ banksFrozen_order s bk (heater defrost) fun x =>
      { x with paused := true, defrostRemaining := x.defrostDeadline.map fun d => d - s.now }
    refine ⟨frozen, ⟨fun _ => ⟨?_, o, mem, node, kind⟩, fun drain => ?_, fun other => absurd defrost other⟩,
      fun other ne => ?_⟩
    · rw [eq]
      exact bank_onBank ..
    · rw [defrost] at drain
      cases drain
    · rw [eq]
      exact bank_onBank_ne _ _ ne
  by_cases drains : (s.bank bk).state = .drain ∧ (s.bank bk).drainEnded = false
  · obtain ⟨drain, on⟩ := drains
    have eq : s.haltBank bk = (s.orderBank (.bankDrainClose bk)).onBank bk fun x =>
        { x with drainValve := .closing, paused := true, drainOrder := some s.orderNumber } := by
      rw [State.haltBank, drain]
      exact if_neg (by simp [on])
    obtain ⟨frozen, o, mem, is⟩ := eq ▸ banksFrozen_order s bk (close drain on) fun x =>
      { x with drainValve := .closing, paused := true, drainOrder := some s.orderNumber }
    refine ⟨frozen, ⟨fun e => absurd e defrost, fun _ _ => ⟨s.orderNumber, ?_, o, mem, is⟩,
      fun _ off => absurd ⟨drain, on⟩ off⟩, fun other ne => ?_⟩
    · rw [eq]
      exact bank_onBank ..
    · rw [eq]
      exact bank_onBank_ne _ _ ne
  · rw [haltBank_rests defrost drains]
    exact ⟨⟨.of_same rfl, rfl⟩, ⟨fun e => absurd e defrost, fun e on => absurd ⟨e, on⟩ drains,
      fun _ _ => rfl⟩, fun _ _ => rfl⟩

/-- Bank A acts, and then bank B (R154). -/
theorem haltBanks (heater : ∀ bk, (s.bank bk).state = .defrost → P .condenser (.heaterOff bk))
    (close : ∀ bk, (s.bank bk).state = .drain → (s.bank bk).drainEnded = false →
      P .condenser (.bankDrainClose bk)) :
    BanksFrozen P s (forAll bankIds s State.haltBank) ∧
      ∀ bk, BankHalted s (newOrders s (forAll bankIds s State.haltBank)) bk
        ((forAll bankIds s State.haltBank).bank bk) := by
  obtain ⟨frozenA, haltedA, others⟩ := haltBank_acts s .a (heater .a) (close .a)
  have stands : (s.haltBank .a).bank .b = s.bank .b := others .b (by decide)
  have now : (s.haltBank .a).now = s.now := by rw [frozenA.frame]
  obtain ⟨frozenB, haltedB, othersB⟩ := haltBank_acts (P := P) (s.haltBank .a) .b
    (stands.symm ▸ heater .b) (stands.symm ▸ close .b)
  have both : forAll bankIds s State.haltBank = (s.haltBank .a).haltBank .b := rfl
  rw [both]
  refine ⟨frozenA.trans frozenB, fun bk => ?_⟩
  cases bk with
  | a =>
    rw [othersB .a (by decide)]
    exact haltedA.mono (newOrders_earlier frozenA.issues frozenB.issues)
  | b => exact (haltedB.mono (newOrders_later frozenA.issues frozenB.issues)).of_bank stands now

end

/-! ## The halt as a whole (O53) -/

/-- The orders that a halt issues: each is one of a halt action (R39, R76, R94, R133, R154). -/
def HaltOrder (s : State) (n : Node) (k : OrderKind) : Prop :=
  (∃ i, (s.station i).phase ≠ .empty ∧ n = .station i ∧
    k ∈ [OrderKind.evacValve false, .sampleValve false, .drainValve false]) ∨
  (∃ c, s.classifier.cycle = some c ∧ c.stage ≠ .closing ∧ n = .station c.station ∧
    k = .sampleValve false) ∨
  (∃ t, (s.node (.train t)).silent = false ∧ n = .train t ∧
    k ∈ [OrderKind.compressorStop, .purgeValve false, .outletClose]) ∨
  (n = .chamber ∧ k ∈ [OrderKind.shredderStop, .doorLock, .nitrogen true]) ∨
  ∃ bk, n = .condenser ∧
    ((s.bank bk).state = .defrost ∧ k = .heaterOff bk ∨
      (s.bank bk).state = .drain ∧ (s.bank bk).drainEnded = false ∧ k = .bankDrainClose bk)

/-- The states between the blocks' halt actions. -/
structure HaltStages (s s₁ s₂ s₃ s₄ s₅ t : State) : Prop where
  line : s₁ = s.setControl { s.control with
    line := .halted, haltPin := true, credits := [], chamberCredit := false, holders := []
    chamberHolder := false }
  stations : s₂ = forAll stationIds s₁ State.haltStation
  classifier : s₃ = s₂.haltClassifier
  trains : s₄ = forAll trainIds s₃ State.haltTrain
  chamber : s₅ = s₄.haltChamber
  banks : t = forAll bankIds s₅ State.haltBank

theorem halt_halted {s : State} (halted : s.control.line = .halted) : s.halt = s := by
  unfold State.halt
  rw [if_pos (show s.halted = true from beq_iff_eq.mpr halted)]

theorem halt_stages {s : State} (on : s.control.line ≠ .halted) :
    ∃ s₁ s₂ s₃ s₄ s₅, HaltStages s s₁ s₂ s₃ s₄ s₅ s.halt := by
  refine ⟨_, _, _, _, _, rfl, rfl, rfl, rfl, rfl, ?_⟩
  unfold State.halt
  rw [if_neg (by simpa [State.halted] using on)]
  rfl

/-- What the halt leaves: the orders it issued, and each block after its halt action. -/
structure HaltDone (s t : State) : Prop where
  issues : Issues (HaltOrder s) s t
  rest : t = { s with
    control := { s.control with
      line := .halted, haltPin := true, credits := [], chamberCredit := false, holders := []
      chamberHolder := false }
    stations := t.stations
    classifier := { s.classifier with cycle := t.classifier.cycle }
    chamber := { s.chamber with nitrogenOpen := true }
    condenser := { s.condenser with bankA := t.condenser.bankA, bankB := t.condenser.bankB }
    loop := t.loop
    freeCount := t.freeCount }
  stations : ∀ i, StationHalted s (newOrders s t) i (t.station i)
  closing : (∀ c, s.classifier.cycle = some c → c.stage = .closing) →
    t.classifier.cycle = s.classifier.cycle
  abandons : ∀ c, s.classifier.cycle = some c → c.stage ≠ .closing → ∃ n,
    t.classifier.cycle = some (abandoned c n) ∧
      ∃ o ∈ newOrders s t, o.node = .station c.station ∧ o.number = n ∧ o.kind = .sampleValve false
  trains : ∀ k, (s.node (.train k)).silent = false →
    ∀ kind ∈ [OrderKind.compressorStop, .purgeValve false, .outletClose],
      ∃ o ∈ newOrders s t, o.node = .train k ∧ o.kind = kind
  stops : ∀ kind ∈ [OrderKind.shredderStop, .doorLock, .nitrogen true],
    ∃ o ∈ newOrders s t, o.node = .chamber ∧ o.kind = kind
  banks : ∀ bk, BankHalted s (newOrders s t) bk (t.bank bk)

/-- The Classifier's stage, after the stations' (R39, R40). -/
theorem haltClassifier_done {s t : State} {P : Node → OrderKind → Prop} (issues : Issues P s t)
    (cycle : t.classifier = s.classifier)
    (stations : ∀ i, StationHalted s (newOrders s t) i (t.station i))
    (allowed : ∀ c, s.classifier.cycle = some c → c.stage ≠ .closing →
      P (.station c.station) (.sampleValve false)) :
    CycleHalted P t t.haltClassifier ∧
      ((∀ c, s.classifier.cycle = some c → c.stage = .closing) →
        t.haltClassifier.classifier.cycle = s.classifier.cycle) ∧
      ∀ c, s.classifier.cycle = some c → c.stage ≠ .closing → ∃ n,
        t.haltClassifier.classifier.cycle = some (abandoned c n) ∧
          ∃ o ∈ newOrders s t.haltClassifier,
            o.node = .station c.station ∧ o.number = n ∧ o.kind = .sampleValve false := by
  by_cases off : ∀ c, s.classifier.cycle = some c → c.stage = .closing
  · rw [haltClassifier_off (cycle ▸ off)]
    exact ⟨.refl P t, fun _ => congrArg Classifier.cycle cycle, fun c h on => absurd (off c h) on⟩
  · push Not at off
    obtain ⟨c, held, on⟩ := off
    have close : ∃ b, (t.station c.station).phase ≠ .empty → t.sampleClose c.station = some b ∧
        closeOrder c.station s.now b (.sampleValve false) ∈ newOrders s t := by
      by_cases empty : (t.station c.station).phase = .empty
      · exact ⟨0, fun present => absurd empty present⟩
      · obtain ⟨a, b, d, closed, mem⟩ := (stations c.station).2 ((stations c.station).phase ▸ empty)
        exact ⟨b, fun _ => ⟨sampleClose_valvesClosed closed, (closeOrders_subset.mp mem).2.1⟩⟩
    obtain ⟨b, close⟩ := close
    obtain ⟨halted, own, ordered⟩ := haltClassifier_on (P := P) (cycle ▸ held) on
      (fun present => (close present).1) (allowed c held on)
    refine ⟨halted, fun off => absurd (off c held) on, fun c' held' _ => ?_⟩
    obtain rfl : c = c' := Option.some.inj (held.symm.trans held')
    by_cases empty : (t.station c.station).phase = .empty
    · obtain ⟨n, cycle', o, mem, is⟩ := ordered empty
      exact ⟨n, cycle', o, newOrders_later issues halted.issues mem, is⟩
    · exact ⟨b, own empty, _, newOrders_earlier issues halted.issues (close empty).2, rfl, rfl, rfl⟩

theorem halt_done {s : State} (on : s.control.line ≠ .halted) : HaltDone s s.halt := by
  obtain ⟨s₁, s₂, s₃, s₄, s₅, line, h₂, h₃, h₄, h₅, h₆⟩ := halt_stages on
  generalize s.halt = t at h₆
  have at_line : ∀ {u} {i : StationId}, StationHalted s₁ (newOrders s₁ u) i (u.station i) →
      StationHalted s (newOrders s u) i (u.station i) := by
    rw [line]
    exact id
  have cycle₁ : s₁.classifier = s.classifier := by rw [line]; rfl
  have node₁ (n : Node) : s₁.node n = s.node n := by rw [line]; rfl
  have bank₁ (bk : BankId) : s₁.bank bk = s.bank bk := by rw [line]; rfl
  have issues₁ : Issues (HaltOrder s) s s₁ := .of_same (by rw [line]; rfl)
  obtain ⟨frozen₂, stations⟩ := haltStations (P := HaltOrder s) (s := s₁) fun i present k mem =>
    .inl ⟨i, by rwa [line] at present, rfl, mem⟩
  rw [← h₂] at frozen₂ stations
  have issues₂ := issues₁.trans frozen₂.issues
  have cycle₂ : s₂.classifier = s.classifier := by rw [frozen₂.frame, ← cycle₁]
  obtain ⟨frozen₃, closing, abandons⟩ := haltClassifier_done issues₂ cycle₂
    (fun i => at_line (stations i)) fun c held on' => .inr (.inl ⟨c, held, on', rfl, rfl⟩)
  rw [← h₃] at frozen₃ closing abandons
  have issues₃ := issues₂.trans frozen₃.issues
  obtain ⟨frozen₄, trains⟩ := haltTrains (P := HaltOrder s) (s := s₃) fun k heard kind mem =>
    .inr (.inr (.inl ⟨k, issues₃.node _ ▸ heard, rfl, mem⟩))
  rw [← h₄] at frozen₄ trains
  have issues₄ := issues₃.trans frozen₄.issues
  obtain ⟨issues₅', frame₅, stops⟩ := haltChamber_issues (P := HaltOrder s) (s := s₄) fun k mem =>
    .inr (.inr (.inr (.inl ⟨rfl, mem⟩)))
  rw [← h₅] at issues₅' frame₅ stops
  have issues₅ := issues₄.trans issues₅'
  have bank₅ (bk : BankId) : s₅.bank bk = s.bank bk := by
    rw [← bank₁, frame₅, frozen₄.frame, frozen₃.frame, frozen₂.frame]
    rfl
  have now₅ : s₅.now = s.now := by
    rw [frame₅, frozen₄.frame, frozen₃.frame, frozen₂.frame, line]
    rfl
  obtain ⟨frozen₆, banks⟩ := haltBanks (P := HaltOrder s) (s := s₅)
    (fun bk state => .inr (.inr (.inr (.inr ⟨bk, rfl, .inl ⟨bank₅ bk ▸ state, rfl⟩⟩))))
    (fun bk state on' =>
      .inr (.inr (.inr (.inr ⟨bk, rfl, .inr ⟨bank₅ bk ▸ state, bank₅ bk ▸ on', rfl⟩⟩))))
  rw [← h₆] at frozen₆ banks
  have later₅ : newOrders s s₅ ⊆ newOrders s t := newOrders_earlier issues₅ frozen₆.issues
  have later₄ : newOrders s s₄ ⊆ newOrders s t :=
    List.Subset.trans (newOrders_earlier issues₄ issues₅') later₅
  have later₃ : newOrders s s₃ ⊆ newOrders s t :=
    List.Subset.trans (newOrders_earlier issues₃ frozen₄.issues) later₄
  have later₂ : newOrders s s₂ ⊆ newOrders s t :=
    List.Subset.trans (newOrders_earlier issues₂ frozen₃.issues) later₃
  have stations₆ : t.stations = s₂.stations := by
    rw [frozen₆.frame, frame₅, frozen₄.frame, frozen₃.frame]
  have cycle₆ : t.classifier.cycle = s₃.classifier.cycle := by
    rw [frozen₆.frame, frame₅, frozen₄.frame]
  exact {
    issues := issues₅.trans frozen₆.issues
    rest := by
      rw [frozen₆.frame, frame₅, frozen₄.frame, frozen₃.frame, frozen₂.frame, line]
      rfl
    stations := fun i => by
      have here : t.station i = s₂.station i := by rw [State.station, stations₆]; rfl
      rw [here]
      exact (at_line (stations i)).mono later₂
    closing := fun off => cycle₆.trans (closing off)
    abandons := fun c held on' => by
      obtain ⟨n, left, o, mem, is⟩ := abandons c held on'
      exact ⟨n, cycle₆.trans left, o, later₃ mem, is⟩
    trains := fun k heard kind mem => by
      obtain ⟨o, ho, is⟩ := trains k (issues₃.node _ ▸ heard) kind mem
      exact ⟨o, later₄ (newOrders_later issues₃ frozen₄.issues ho), is⟩
    stops := fun kind mem => by
      obtain ⟨o, ho, is⟩ := stops kind mem
      exact ⟨o, later₅ (newOrders_later issues₄ issues₅' ho), is⟩
    banks := fun bk =>
      ((banks bk).mono (newOrders_later issues₅ frozen₆.issues)).of_bank (bank₅ bk) now₅ }

/-- Settles O53: each block's halt action is one stage of the halt, and the later stages keep what it left. -/
theorem haltFreezesTheBlocks : Obligations.HaltFreezesTheBlocks := by
  unfold Obligations.HaltFreezesTheBlocks
  rintro s t rfl
  refine ⟨halt_halted, fun on => ?_⟩
  have done := halt_done on
  have rest := done.rest
  refine ⟨newOrders s s.halt, done.issues.loop, done.issues.each, by rw [rest], ?_,
    fun i => (done.stations i).1, fun i present => ?_, done.closing, done.abandons, done.trains, done.stops,
    fun bk => ⟨(done.banks bk).defrost, (done.banks bk).drain, (done.banks bk).rests⟩⟩
  · rw [rest]
    exact ⟨rfl, rfl, rfl, rfl, rfl, rfl, rfl, rfl, rfl, rfl, rfl, rfl, rfl⟩
  · obtain ⟨a, b, c, closed, mem⟩ := (done.stations i).2 present
    obtain ⟨evac, sample, drain⟩ := closeOrders_subset.mp mem
    exact ⟨a, b, c, closed, _, evac, _, sample, _, drain, ⟨rfl, rfl, rfl⟩, ⟨rfl, rfl, rfl⟩, rfl, rfl, rfl⟩

end Sys2Proof.Proofs

/-!
PROOFS. Family 02: the poll, the missed answer and the answer that ends a silence (O59).
-/

namespace Sys2Proof.Proofs

open Sys2Proof Sys2Proof.Machine Sys2Proof.Laws

section
variable {s : State}

/-! ## The poll (R189) -/

theorem nextInRound_eq : ∀ k : Fin 17, nextInRound k = k + 1 := by decide

theorem nodeAddress_ascends : ∀ j k : Fin 17, j < k → nodeAddress (nodeAt j) < nodeAddress (nodeAt k) := by
  decide

theorem pollNext_eq (m : Moment) :
    pollNext m s = { s.advanceTo m with
      loop := { s.loop with
        nextPoll := s.loop.nextPoll + 1
        lastPoll := some
          { node := nodeAt s.loop.nextPoll
            orders := s.loop.orders.filter fun o =>
              decide (o.node = nodeAt s.loop.nextPoll ∧ o.acknowledged = false)
            previousTaken := (s.node (nodeAt s.loop.nextPoll)).previousTaken } } } := by
  have loop : (s.advanceTo m).loop = s.loop := advance_loop ..
  have node (n : Node) : (s.advanceTo m).node n = s.node n := node_advance ..
  have due (o : Order) (n : Node) : (o.node == n && !o.acknowledged) =
      decide (o.node = n ∧ o.acknowledged = false) := by
    rw [Bool.eq_iff_iff]
    simp
  unfold pollNext
  simp only [loop, node, nextInRound_eq, due]

/-! ## A missed answer (R189, R191) -/

theorem setNode_setNode (n : Node) (x y : NodeState) : (s.setNode n x).setNode n y = s.setNode n y := by
  simp only [State.setNode, Vector.set_set]

theorem missAnswer_heard {n : Node} {m : Moment}
    (heard : (s.node n).silent = true ∨ (s.node n).misses + 1 < 3) :
    missAnswer n m s = (s.advanceTo m).setNode n
      { s.node n with misses := (s.node n).misses + 1, previousTaken := false } := by
  have node : (s.advanceTo m).node n = s.node n := node_advance ..
  unfold missAnswer
  dsimp only
  rw [node, if_neg]
  intro due
  obtain ⟨on, limit⟩ : (s.node n).silent = false ∧ 3 ≤ (s.node n).misses + 1 := by
    simpa [Config.silenceMisses] using due
  rcases heard with silent | few
  · simp [silent] at on
  · omega

/-- The third missed answer makes the node silent. -/
theorem missAnswer_silent {n : Node} {m : Moment} (on : (s.node n).silent = false)
    (limit : 3 ≤ (s.node n).misses + 1) :
    missAnswer n m s = ((s.advanceTo m).setNode n
      { s.node n with misses := (s.node n).misses + 1, previousTaken := false }).declareSilent n := by
  have node : (s.advanceTo m).node n = s.node n := node_advance ..
  unfold missAnswer
  dsimp only
  rw [node, if_pos (by simp [on, Config.silenceMisses, limit])]

/-- The orders of a node, in the order of issue. -/
def ordersAt (n : Node) (orders : List Order) : List Order := orders.filter fun o => decide (o.node = n)

/-- The condition of a silent node is entered (R191). -/
def silenceEntered (n : Node) (s : State) : State :=
  if n = .safety then s.raise .safetySilent (.node n) { first := 0, second := none }
  else s.raise .nodeSilent (.node n) { first := 0, second := none }

/-- The halt that SAFETY_SILENT brings issues no order at the safety node. -/
theorem ordersAt_silenceEntered (n : Node) :
    ordersAt n (silenceEntered n s).loop.orders = ordersAt n s.loop.orders := by
  unfold silenceEntered
  split
  · rename_i safety
    rw [raise_exigent (by decide)]
    generalize entered : s.setMonitor (s.monitor.enter _ _ _) = u
    have orders : u.loop.orders = s.loop.orders := by rw [← entered]; rfl
    by_cases halted : u.control.line = .halted
    · rw [halt_halted halted, orders]
    · have issues := (halt_done halted).issues
      have elsewhere : ordersAt n (newOrders u u.halt) = [] := by
        refine List.filter_eq_nil_iff.mpr fun o mem => ?_
        obtain ⟨-, order⟩ := issues.each o mem
        simp only [decide_eq_true_eq, safety]
        intro node
        rw [node] at order
        simp [HaltOrder] at order
      rw [issues.orders, ordersAt, List.filter_append, orders]
      exact (congrArg _ elsewhere).trans (List.append_nil _)
  · rw [raise_quiet (by decide)]
    rfl

theorem declareSilent_eq (n : Node) :
    s.declareSilent n =
      ((ordersAt n s.loop.orders).foldl State.failBySilence
        (silenceEntered n (s.setNode n { s.node n with silent := true }))).ownerSilent n := by
  have same (l : List Order) : (l.filter fun o => o.node == n) = ordersAt n l :=
    List.filter_congr fun o _ => by rw [Bool.eq_iff_iff]; simp
  have raised : (if n == .safety then
        (s.setNode n { s.node n with silent := true }).raise .safetySilent (.node .safety) (one 0)
      else (s.setNode n { s.node n with silent := true }).raise .nodeSilent (.node n) (one 0)) =
      silenceEntered n (s.setNode n { s.node n with silent := true }) := by
    unfold silenceEntered one
    simp only [beq_iff_eq]
    split
    · rename_i safety
      rw [safety]
    · rfl
  unfold State.declareSilent
  dsimp only
  rw [raised, same, ordersAt_silenceEntered]
  rfl

/-- The condition, the orders of the node, its owner: the third missed answer (R191). -/
theorem missAnswer_third {n : Node} {m : Moment} (on : (s.node n).silent = false)
    (limit : 3 ≤ (s.node n).misses + 1) :
    missAnswer n m s = ((ordersAt n s.loop.orders).foldl State.failBySilence
      (silenceEntered n ((s.advanceTo m).setNode n
        { misses := (s.node n).misses + 1, previousTaken := false, silent := true }))).ownerSilent n := by
  have orders : (s.advanceTo m).loop.orders = s.loop.orders := by rw [State.advanceTo, advance_loop]
  rw [missAnswer_silent on limit]
  generalize s.advanceTo m = u at orders ⊢
  rw [declareSilent_eq, setNode_setNode, node_setNode, ← orders]
  rfl

/-- A silent node's order that is outstanding still ends as failed. -/
theorem failBySilence_eq {fails : State → Order → State}
    (gone : ∀ x o, x.findOrder o.node o.number = none → fails x o = x)
    (held : ∀ x o, x.findOrder o.node o.number ≠ none → fails x o =
      ((x.setOrders (x.loop.orders.filter fun p =>
        decide (¬ (p.node = o.node ∧ p.number = o.number)))).raise .orderFailed (.node o.node)
          { first := o.number, second := none }).orderFails o) :
    State.failBySilence = fails := by
  funext x o
  unfold State.failBySilence
  cases found : x.findOrder o.node o.number with
  | none => exact (gone x o found).symm
  | some p =>
    rw [held x o (by simp [found])]
    exact endFailed_eq ..

/-! ### The owners of the nodes (R68, R90, R130, R150) -/

theorem waitsOnAnswers_iff (x : Station) :
    x.waitsOnAnswers = true ↔ x.nextPhase = none ∧
      (x.phase = .evacuate ∨ x.phase = .riseTest ∨ x.phase = .oilDrain ∨
        (x.phase = .pierce ∧ x.pierceDone = true)) := by
  unfold Station.waitsOnAnswers Station.atBoundary
  rw [Bool.and_eq_true]
  cases x.phase <;> simp

theorem ownerSilent_station (i : StationId) :
    s.ownerSilent (.station i) =
      if s.control.line ≠ .halted ∧ (s.station i).nextPhase = none ∧
        ((s.station i).phase = .evacuate ∨ (s.station i).phase = .riseTest ∨
          (s.station i).phase = .oilDrain ∨
          ((s.station i).phase = .pierce ∧ (s.station i).pierceDone = true)) then
        s.faultStation i (.phase (s.station i).phase) true
      else s := by
  rw [State.ownerSilent, State.stationSilent]
  simp only [Bool.and_eq_true, Bool.not_eq_true', State.halted, beq_eq_false_iff_ne, waitsOnAnswers_iff]
  refine if_ctx_congr Iff.rfl (fun ⟨_, between, _⟩ => ?_) fun _ => rfl
  rw [State.failStation, Station.workPhase, between]
  rfl

theorem ownerSilent_chamber :
    s.ownerSilent .chamber =
      if s.control.line ≠ .halted ∧ s.chamber.nextPhase = none ∧ (s.chamber.phase = .airlock ∨
        s.chamber.phase = .purge ∨ s.chamber.phase = .shred) then s.faultChamber
      else s := by
  rw [State.ownerSilent, State.chamberSilent]
  simp only [Bool.and_eq_true, Bool.or_eq_true, Bool.not_eq_true', State.halted, beq_eq_false_iff_ne,
    beq_iff_eq, Chamber.atBoundary, Option.isSome_eq_false_iff, Option.isNone_iff_eq_none, and_assoc, or_assoc]

/-! ## The answer that ends a silence (R191) -/

theorem forAll_commutes {α : Type} {f : State → α → State} {g : State → State}
    (commutes : ∀ s x, f (g s) x = g (f s x)) (items : List α) (s : State) :
    forAll items (g s) f = g (forAll items s f) := by
  induction items generalizing s with
  | nil => rfl
  | cons x xs ih => rw [forAll_cons, forAll_cons, commutes, ih]

/-- Time does not look at the nodes. -/
theorem advance_setNode (n : Node) (x : NodeState) (dt : Moment) :
    (s.setNode n x).advance dt = (s.advance dt).setNode n x := by
  have station (u : State) (i : StationId) :
      State.tickStation dt (u.setNode n x) i = (State.tickStation dt u i).setNode n x := by
    unfold State.tickStation
    rw [apply_ite (State.setNode · n x)]
    rfl
  have bank (u : State) (bk : BankId) :
      State.tickBank dt (u.setNode n x) bk = (State.tickBank dt u bk).setNode n x := by
    unfold State.tickBank
    rw [apply_ite (State.setNode · n x)]
    cases bk <;> rfl
  unfold State.advance
  dsimp only
  rw [forAll_commutes (g := (State.setNode · n x)) station, forAll_commutes (g := (State.setNode · n x)) bank]
  generalize forAll bankIds _ _ = u
  rfl

theorem takeAnswer_silent {n : Node} {m : Moment} {reports : List OrderReport}
    {done : State → Order → State} {quantities : State → State} (silent : (s.node n).silent = true) :
    s.takeAnswer n m reports done quantities =
      ((s.setNode n { s.node n with silent := false }).takeAnswer n m reports done
        quantities).silenceCleared n := by
  have before : (s.advanceTo m).isSilent n = true := by
    rw [State.isSilent, State.advanceTo, node_advance, silent]
  have time : (s.setNode n { s.node n with silent := false }).advanceTo m =
      (s.advanceTo m).setNode n { s.node n with silent := false } := by
    rw [State.advanceTo, advance_setNode, setNode_now, State.advanceTo]
  unfold State.takeAnswer
  dsimp only
  rw [time]
  generalize s.advanceTo m = u at before ⊢
  have after : (u.setNode n { s.node n with silent := false }).isSilent n = false := by
    rw [State.isSilent, node_setNode]
  rw [before, after, setNode_setNode]
  rfl

end

/-- An answer of a silent node, and the same answer of one that is heard. -/
theorem answerEnds {s heard : State} {n : Node} {c : Instr} {take clear : State → State}
    (arm : ∀ x, exec c x = .next (event take x)) (runs : s.resetPin = false)
    (runs' : heard.resetPin = false) (silent : take s = (take heard).silenceCleared n)
    (clears : ∀ x : State, clear x = x.silenceCleared n) :
    ∃ taken : State, exec c heard = .next taken.afterEvent ∧ exec c s = .next (clear taken).afterEvent :=
  ⟨take heard, by rw [arm, event_eq runs'], by rw [arm, event_eq runs, silent, clears]⟩

/-- Settles O59: R189 to R191 as equations of `pollNext`, `missAnswer` and `takeAnswer`. -/
theorem pollsAndMissedAnswersAreTaken : Obligations.PollsAndMissedAnswersAreTaken := by
  unfold Obligations.PollsAndMissedAnswersAreTaken
  have missed {s : State} (runs : s.resetPin = false) (n : Node) (m : Moment) :
      exec (.missedAnswer n m) s = .next (missAnswer n m s).afterEvent :=
    congrArg Host.Outcome.next (event_eq runs _)
  refine ⟨⟨?_, nodeAddress_ascends, ?_⟩, ?_, ?_⟩
  · rintro s m n runs rfl
    rw [← pollNext_eq]
    exact congrArg Host.Outcome.next (event_eq runs _)
  · intro s n m runs
    refine ⟨_, rfl, fun heard => by rw [missed runs, missAnswer_heard heard], fun on limit bare => ?_⟩
    have none : ordersAt n s.loop.orders = [] := by
      simpa [ordersAt, List.filter_eq_nil_iff] using bare
    have taken := missed runs n m
    rw [missAnswer_third on limit, none, List.foldl_nil] at taken
    have control : (s.advanceTo m).control = s.control := by rw [State.advanceTo, advance_control]
    have work (i : StationId) : ((s.advanceTo m).station i).phase = (s.station i).phase ∧
        ((s.advanceTo m).station i).nextPhase = (s.station i).nextPhase := by
      rw [State.advanceTo, station_advance]
      exact ⟨rfl, rfl⟩
    generalize s.advanceTo m = u at taken control work ⊢
    refine ⟨_, rfl, ?_, ?_, ?_, ?_⟩
    all_goals rw [setNode_setNode]
    · rintro rfl
      exact taken
    · rintro (rfl | rfl) <;> exact taken
    · rintro t rfl
      exact taken
    · rintro i rfl phase between on'
      obtain ⟨sameP, sameN⟩ := work i
      rw [taken, silenceEntered, if_neg (by simp), raise_quiet (by decide), ownerSilent_station, if_pos]
      · exact congrArg (fun p => Host.Outcome.next
          (State.faultStation _ i (.phase p) true).afterEvent) (sameP.trans phase)
      · exact ⟨control ▸ on', sameN.trans between, .inl (sameP.trans phase)⟩
  · intro s n m fails act runs on limit gone held owner
    refine ⟨_, silenceEntered n _, rfl, fun safety => if_pos safety, fun other => if_neg other, ?_⟩
    have owns : act = (State.ownerSilent · n) := by
      funext x
      obtain ⟨i, rfl, act⟩ | ⟨t, rfl, act⟩ | ⟨rfl, act⟩ | ⟨rfl, act⟩ | ⟨rfl | rfl | rfl, act⟩ := owner
      · exact (act x).trans (ownerSilent_station i).symm
      · exact act x
      · exact (act x).trans ownerSilent_chamber.symm
      all_goals exact act x
    rw [missed runs, missAnswer_third on limit, failBySilence_eq gone held, owns]
    rfl
  · rintro s heard n c clear runs silent rfl kinds
    obtain ⟨i, a, rfl, rfl, clears⟩ | ⟨a, rfl, rfl, clears⟩ | ⟨t, a, rfl, rfl, clears⟩ |
      ⟨a, rfl, rfl, clears⟩ | ⟨a, rfl, rfl, clears⟩ | ⟨a, rfl, rfl, clears⟩ | ⟨a, rfl, rfl, clears⟩ := kinds
    · exact answerEnds (fun _ => rfl) runs runs (takeAnswer_silent silent) clears
    · exact answerEnds (fun _ => rfl) runs runs (takeAnswer_silent silent) clears
    · refine answerEnds (fun _ => rfl) runs runs (takeAnswer_silent silent) fun x => ?_
      simp only [clears, State.silenceCleared, beq_iff_eq]
    all_goals exact answerEnds (fun _ => rfl) runs runs (takeAnswer_silent silent) clears

end Sys2Proof.Proofs

/-!
PROOFS. Family 02: an answer of a heard node, a station at which no reading acts, and the sample cycle (O28).
-/

namespace Sys2Proof.Proofs

open Sys2Proof Sys2Proof.Machine Sys2Proof.Laws

section
variable {s : State}

/-! ## An answer of a heard node (R189, R191) -/

/-- The state in which a heard node's answer is taken. -/
def heardAt (n : Node) (m : Moment) (s : State) : State :=
  (s.advanceTo m).setNode n { misses := 0, silent := false, previousTaken := true }

section
variable (s) (n : Node) (m : Moment)

@[simp] theorem heardAt_classifier : (heardAt n m s).classifier = s.classifier := by
  rw [heardAt, setNode_classifier, State.advanceTo, advance_classifier]

@[simp] theorem heardAt_control : (heardAt n m s).control = s.control := by
  rw [heardAt, setNode_control, State.advanceTo, advance_control]

@[simp] theorem heardAt_register : (heardAt n m s).register = s.register := by
  rw [heardAt, setNode_register, State.advanceTo, advance_register]

@[simp] theorem heardAt_orders : (heardAt n m s).loop.orders = s.loop.orders := by
  rw [heardAt, setNode_loop, State.advanceTo, advance_loop]

@[simp] theorem heardAt_findOrder (k : Node) (number : Nat) :
    (heardAt n m s).findOrder k number = s.findOrder k number := by
  rw [State.findOrder, heardAt_orders]
  rfl

end

theorem takeAnswer_heard {n : Node} (heard : (s.node n).silent = false) (m : Moment)
    (reports : List OrderReport) (done : State → Order → State) (quantities : State → State) :
    s.takeAnswer n m reports done quantities =
      quantities (forAll reports (heardAt n m s) (State.takeReport n done)) := by
  have before : (s.advanceTo m).isSilent n = false := by
    rw [State.isSilent, State.advanceTo, node_advance, heard]
  unfold State.takeAnswer heardAt
  dsimp only
  rw [before]
  rfl

/-- One order of the node is reported DONE. -/
theorem takeAnswer_done {n : Node} (heard : (s.node n).silent = false) (m : Moment)
    {r : OrderReport} {o : Order} (found : s.findOrder n r.number = some o) (status : r.status = .done)
    (done : State → Order → State) (quantities : State → State) :
    s.takeAnswer n m [r] done quantities = quantities (done ((heardAt n m s).removeOrder o) o) := by
  rw [takeAnswer_heard heard, forAll_cons, forAll_nil,
    takeReport_done ((heardAt_findOrder ..).trans found) status]

/-! ## Time at a station whose clock does not run (R60) -/

theorem station_advance_rests {i : StationId} (rests : s.clockRuns i = false) (dt : Moment) :
    (s.advance dt).station i = s.station i := by
  have clocks (u : State) (t : State) (control : t.control = u.control) (station : t.station i = u.station i) :
      t.clockRuns i = u.clockRuns i := by
    rw [State.clockRuns, State.halted, control, station]
    rfl
  obtain ⟨-, stations⟩ := forAll_keeps (fun t => t.control = s.control ∧ t.station i = s.station i)
    (State.tickStation dt) (fun t j ⟨control, station⟩ => by
      unfold State.tickStation
      split
      · rename_i runs
        have ne : j ≠ i := by
          rintro rfl
          rw [clocks s t control station, rests] at runs
          cases runs
        exact ⟨control, (station_onStation_ne _ _ _ _ ne).trans station⟩
      · exact ⟨control, station⟩) stationIds s ⟨rfl, rfl⟩
  have banks := forAll_same (State.station · i) (State.tickBank dt)
    (fun t bk => by unfold State.tickBank; split <;> cases bk <;> rfl) bankIds
    (forAll stationIds s (State.tickStation dt))
  have ticked : (s.advance dt).station i =
      (forAll bankIds (forAll stationIds s (State.tickStation dt)) (State.tickBank dt)).station i := by
    unfold State.advance
    dsimp only
    generalize forAll bankIds _ _ = u
    rfl
  exact ticked.trans (banks.trans stations)

theorem station_heardAt {i : StationId} (rests : s.clockRuns i = false) (n : Node) (m : Moment) :
    (heardAt n m s).station i = s.station i := by
  rw [State.station, heardAt, setNode_stations, State.advanceTo]
  exact station_advance_rests rests (m - s.now)

/-! ## The line stop and the watch at a station that does not evacuate (R170, R175) -/

/-- A station outside EVACUATE. -/
def besides (i : StationId) (s : State) : Option Station :=
  if (s.station i).phase = .evacuate then none else some (s.station i)

theorem besides_of_ne {i : StationId} (phase : (s.station i).phase ≠ .evacuate) :
    besides i s = some (s.station i) := if_neg phase

theorem station_closeEvac (s : State) (i : StationId) : ∃ valve order,
    (s.closeEvac i).station i = { s.station i with evacValve := valve, evacOrder := order } := by
  unfold State.closeEvac
  split
  · exact ⟨_, _, station_onStation ..⟩
  · exact ⟨_, _, station_onStation ..⟩
  · exact ⟨_, _, rfl⟩

theorem station_closeEvac_ne (s : State) {i j : StationId} (ne : j ≠ i) :
    (s.closeEvac j).station i = s.station i := by
  unfold State.closeEvac
  split
  · exact station_onStation_ne _ _ _ _ ne
  · exact station_onStation_ne _ _ _ _ ne
  · rfl

theorem besides_stopStation (s : State) (i j : StationId) : besides i (s.stopStation j) = besides i s := by
  unfold State.stopStation
  split
  · rename_i evacuates
    by_cases e : j = i
    · subst e
      obtain ⟨valve, order, closed⟩ :=
        station_closeEvac (s.onStation j fun x => { x with suspended := true }) j
      have phase := beq_iff_eq.mp evacuates
      rw [station_onStation] at closed
      rw [besides, besides, if_pos phase, closed, if_pos phase]
    · rw [besides, station_closeEvac_ne _ e, station_onStation_ne _ _ _ _ e]
      rfl
  · rfl

theorem besides_watchEntry (s : State) (i : StationId) (rank : Nat) (tag : Option Tag) (p : PhaseName) :
    besides i (s.watchEntry rank tag p) = besides i s :=
  watchEntry_same (besides i) (fun _ _ => rfl) (fun _ _ => rfl)
    (fun s => lineStop_same (besides i) (besides_stopStation · i)
      (fun s t => by rw [pauseTrain_eq]; rfl) s) s rank tag p

theorem station_watchEntry {i : StationId} (phase : (s.station i).phase ≠ .evacuate) (rank : Nat)
    (tag : Option Tag) (p : PhaseName) : (s.watchEntry rank tag p).station i = s.station i := by
  have kept := besides_watchEntry s i rank tag p
  rw [besides_of_ne phase, besides] at kept
  split at kept
  · cases kept
  · exact Option.some.inj kept

/-- A station that enters a phase other than EVACUATE. -/
theorem station_enterPhase (s : State) (i : StationId) {p : StationPhase} (phase : p ≠ .evacuate) :
    (s.enterPhase i p).station i = { s.station i with phase := p, nextPhase := none } := by
  rw [State.enterPhase, station_watchEntry (by rw [station_onStation]; exact phase), station_onStation]

theorem station_enterPhase_ne {i j : StationId} (ne : j ≠ i) (phase : (s.station i).phase ≠ .evacuate)
    (p : StationPhase) : (s.enterPhase j p).station i = s.station i := by
  have kept : (s.onStation j fun x => { x with phase := p, nextPhase := none }).station i = s.station i :=
    station_onStation_ne _ _ _ _ ne
  rw [State.enterPhase, station_watchEntry (kept ▸ phase), kept]

/-! ## The grant of the analyser (R34) -/

theorem grantAnalyser_head {i : StationId} {rest : List StationId} (free : s.classifier.cycle = none)
    (queue : s.classifier.queue = i :: rest) (runs : s.running = true)
    (heard : (s.node .analyser).silent = false) :
    s.grantAnalyser = (((s.setQueue rest).orderSampleValve i true).setCycle
      (some (.begin i ((s.station i).unit.getD 0) s.orderNumber))).enterPhase i .sampling := by
  unfold State.grantAnalyser
  rw [free, queue]
  dsimp only
  rw [if_pos (by simp [runs, State.isSilent, heard])]

theorem running_iff : s.running = true ↔ s.control.line = .run ∨ s.control.line = .step := by
  simp [State.running]

/-- What must hold for the analyser to be granted. -/
theorem grantAnalyser_cases (s : State) : s.grantAnalyser = s ∨
    ∃ i rest, s.classifier.cycle = none ∧ s.classifier.queue = i :: rest ∧ s.running = true ∧
      (s.node .analyser).silent = false := by
  unfold State.grantAnalyser
  split
  · rename_i i rest free queue
    split
    · rename_i grants
      obtain ⟨runs, heard⟩ : s.running = true ∧ (s.node .analyser).silent = false := by
        simpa [State.isSilent] using grants
      exact .inr ⟨i, rest, free, queue, runs, heard⟩
    · exact .inl rfl
  · exact .inl rfl

/-! ## A station at which no reading acts (R76) -/

/-- No reading of an answer acts at the station, and a grant keeps it so. -/
def ReadsNothing (i : StationId) (s : State) : Prop :=
  s.control.line = .halted ∨ (s.station i).phase = .faulted ∨ (s.station i).phase = .sampling ∨
    (s.station i).phase = .trainWait

theorem ReadsNothing.of_same {t : State} {i : StationId} (h : ReadsNothing i s)
    (control : t.control = s.control) (station : t.station i = s.station i) : ReadsNothing i t := by
  rwa [ReadsNothing, control, station]

theorem ReadsNothing.clock {i : StationId} (h : ReadsNothing i s) : s.clockRuns i = false := by
  unfold State.clockRuns State.halted
  obtain halted | phase | phase | phase := h <;> simp [*]

theorem ReadsNothing.readings {i : StationId} (h : ReadsNothing i s) (before : Station) (a : StationAnswer) :
    s.takeStationReadings i before a = s := by
  unfold State.takeStationReadings State.halted
  obtain halted | phase | phase | phase := h <;> simp [*]

theorem ReadsNothing.phase {i : StationId} (h : ReadsNothing i s) (on : s.control.line ≠ .halted) :
    (s.station i).phase ≠ .evacuate := by
  obtain halted | phase | phase | phase := h
  · exact absurd halted on
  all_goals simp [phase]

/-- Outside EVACUATE the grant leaves a station alone or brings it into SAMPLING. -/
theorem station_grantAnalyser {i : StationId} (h : ReadsNothing i s) :
    s.grantAnalyser.station i = s.station i ∨
      s.grantAnalyser.station i = { s.station i with phase := .sampling, nextPhase := none } := by
  obtain same | ⟨j, rest, free, queue, runs, heard⟩ := grantAnalyser_cases s
  · exact .inl (by rw [same])
  · have phase : (s.station i).phase ≠ .evacuate := h.phase fun halted => by
      rw [running_iff, halted] at runs
      simp at runs
    rw [grantAnalyser_head free queue runs heard]
    by_cases e : j = i
    · subst e
      exact .inr (station_enterPhase _ _ (by simp))
    · exact .inl (station_enterPhase_ne e (by exact phase) _)

theorem cycle_grantAnalyser {c : SampleCycle} (held : s.grantAnalyser.classifier.cycle = some c) :
    s.classifier.cycle = some c ∨ c.blocked = false := by
  obtain same | ⟨j, rest, free, queue, runs, heard⟩ := grantAnalyser_cases s
  · exact .inl (same ▸ held)
  · rw [grantAnalyser_head free queue runs heard, State.enterPhase, watchEntry_classifier] at held
    obtain rfl := Option.some.inj held
    exact .inr rfl

theorem grantAnalyser_halted (halted : s.control.line = .halted) : s.grantAnalyser = s := by
  obtain same | ⟨j, rest, free, queue, runs, heard⟩ := grantAnalyser_cases s
  · exact same
  · rw [running_iff, halted] at runs
    simp at runs

theorem ReadsNothing.grantAnalyser {i : StationId} (h : ReadsNothing i s) : ReadsNothing i s.grantAnalyser := by
  by_cases halted : s.control.line = .halted
  · rwa [grantAnalyser_halted halted]
  · refine .inr ?_
    obtain same | sampling := station_grantAnalyser h
    · rw [same]
      exact h.resolve_left halted
    · exact .inr (.inl (by rw [sampling]))

theorem unblock_open {i : StationId} {sampleOpen : Bool}
    (h : ∀ c, s.classifier.cycle = some c → ¬ (c.station = i ∧ c.blocked = true ∧ sampleOpen = false)) :
    s.unblock i sampleOpen = s := by
  unfold State.unblock
  split
  · rfl
  · rename_i c cycle
    exact if_neg (by simpa [and_assoc] using h c cycle)

theorem unblock_blocked {i : StationId} {c : SampleCycle} (cycle : s.classifier.cycle = some c)
    (here : c.station = i) (blocked : c.blocked = true) : s.unblock i false = s.sampleClosed := by
  unfold State.unblock
  rw [cycle]
  exact if_pos (by simp [here, blocked])

/-! ## The end of a cycle (R38) -/

theorem freeCycle_waits {c : SampleCycle} (cycle : s.classifier.cycle = some c)
    (waits : c.closeDone = false ∨ c.outstanding = true) : s.freeCycle = s := by
  unfold State.freeCycle
  rw [cycle]
  exact if_neg (by simp; intro; obtain w | w := waits <;> simp [w])

theorem freeCycle_ends {c : SampleCycle} (cycle : s.classifier.cycle = some c) (stage : c.stage = .closing)
    (done : c.closeDone = true) (ended : c.outstanding = false) :
    s.freeCycle = (s.setCycle none).grantAnalyser := by
  unfold State.freeCycle
  rw [cycle]
  exact if_pos (by simp [stage, done, ended])

theorem sampleClosed_outstanding {c : SampleCycle} (cycle : s.classifier.cycle = some c)
    (outstanding : c.outstanding = true) :
    s.sampleClosed = s.setCycle (some { c with closeDone := true, closeOrder := none, blocked := false }) := by
  rw [State.sampleClosed, State.onCycle, cycle]
  exact freeCycle_waits rfl (.inr outstanding)

theorem sampleClosed_over {c : SampleCycle} (cycle : s.classifier.cycle = some c)
    (stage : c.stage = .closing) (ended : c.outstanding = false) :
    s.sampleClosed = (s.setCycle none).grantAnalyser := by
  rw [State.sampleClosed, State.onCycle, cycle]
  exact freeCycle_ends rfl stage rfl ended

/-! ## What a station answer's quantities leave (R38, R69, R76) -/

theorem onStation_same {i : StationId} {f : Station → Station} (same : f (s.station i) = s.station i) :
    s.onStation i f = s := by
  rw [State.onStation, same, State.setStation, State.station, Vector.get_eq_getElem, Vector.set_getElem_self]

theorem closedByAnswer_bare {x : Station} (bare : x.unsecured = []) (a : StationAnswer) :
    x.closedByAnswer a = x := by
  simp only [Station.closedByAnswer, bare, List.any_nil, Bool.and_false, Bool.false_eq_true, if_false,
    List.filter_nil]
  rw [← bare]

theorem ReadsNothing.freeCycle {i : StationId} (h : ReadsNothing i s) : ReadsNothing i s.freeCycle := by
  unfold State.freeCycle
  split
  · exact h
  · split
    · exact ReadsNothing.grantAnalyser (s := s.setCycle none) h
    · exact h

theorem ReadsNothing.unblock {i : StationId} (h : ReadsNothing i s) (sampleOpen : Bool) :
    ReadsNothing i (s.unblock i sampleOpen) := by
  unfold State.unblock
  split
  · exact h
  · split
    · exact ReadsNothing.freeCycle h
    · exact h

/-- Only the valve states of the answer count. -/
theorem stationQuantities_rests {i : StationId} (h : ReadsNothing i s) (before : Station) (a : StationAnswer) :
    stationQuantities i before a s = (s.onStation i fun x => x.closedByAnswer a).unblock i a.sampleOpen := by
  have shown : ReadsNothing i (s.onStation i fun x => x.closedByAnswer a) := by
    rwa [ReadsNothing, station_onStation]
  exact (shown.unblock a.sampleOpen).readings before a

theorem stationQuantities_quiet {i : StationId} (h : ReadsNothing i s) (bare : (s.station i).unsecured = [])
    (clear : ∀ c, s.classifier.cycle = some c → c.blocked = false) (before : Station) (a : StationAnswer) :
    stationQuantities i before a s = s := by
  rw [stationQuantities_rests h, onStation_same (closedByAnswer_bare bare a),
    unblock_open fun c cycle ⟨_, blocked, _⟩ => by simp [clear c cycle] at blocked]

/-! ## The orders of the cycle (R35, R38) -/

theorem sampleValveDone_open {i : StationId} {c : SampleCycle} {number : Nat}
    (cycle : s.classifier.cycle = some c) (here : c.station = i) (order : c.openOrder = some number) :
    s.sampleValveDone i number =
      if c.abandoned = true then s.setCycle (some { c with openOrder := none })
      else (s.issue .classifier .analyser .startSample).setCycle (some
        { c with
          openOrder := none, stage := .measuring, outstanding := true
          sampleOrder := some s.orderNumber }) := by
  unfold State.sampleValveDone
  rw [cycle]
  dsimp only
  rw [if_neg (by simp [here]), if_pos (by simp [order]), State.sampleOpenDone, State.onCycle, cycle]
  refine if_ctx_congr Iff.rfl (fun _ => rfl) fun _ => ?_
  rw [State.onCycle]
  exact congrArg _ (congrArg _ cycle)

theorem sampleValveDone_close {i : StationId} {c : SampleCycle} {number : Nat}
    (cycle : s.classifier.cycle = some c) (here : c.station = i) (other : c.openOrder ≠ some number)
    (order : c.closeOrder = some number) : s.sampleValveDone i number = s.sampleClosed := by
  unfold State.sampleValveDone
  rw [cycle]
  dsimp only
  rw [if_neg (by simp [here]), if_neg (by simpa using other), if_pos (by simp [order])]

theorem sampleOpenFailed_here {c : SampleCycle} (cycle : s.classifier.cycle = some c)
    (phase : (s.station c.station).phase = .sampling) (between : (s.station c.station).nextPhase = none) :
    s.sampleOpenFailed c =
      (s.setCycle (some { c with openOrder := none })).faultStation c.station (.phase .sampling) true := by
  rw [State.sampleOpenFailed, State.onCycle, cycle]
  exact if_pos (by
    rw [Bool.and_eq_true, beq_iff_eq, Bool.not_eq_true', Station.atBoundary, Option.isSome_eq_false_iff,
      Option.isNone_iff_eq_none]
    exact ⟨phase, between⟩)

/-- A sample valve's order of the Classifier concerns the Classifier only. -/
theorem stationNodeFailed_classifier {i : StationId} {o : Order} {b : Bool} (issuer : o.issuer = .classifier)
    (kind : o.kind = .sampleValve b) : s.stationNodeFailed i o = s.sampleValveFailed i o.number := by
  rw [State.stationNodeFailed, issuer, kind]
  rfl

theorem stationNodeDone_classifier {i : StationId} {o : Order} {b : Bool} (a : StationAnswer)
    (issuer : o.issuer = .classifier) (kind : o.kind = .sampleValve b) :
    stationNodeDone i a s o = s.sampleValveDone i o.number := by
  rw [stationNodeDone, issuer, kind]
  rfl

end

end Sys2Proof.Proofs

/-!
PROOFS. Family 02: the sample, its result and its loss, and the cycle as a whole (O28).
-/

namespace Sys2Proof.Proofs

open Sys2Proof Sys2Proof.Machine Sys2Proof.Laws

section
variable {s : State} {c : SampleCycle}

/-! ## The classification of a unit (R36, R37, R42) -/

theorem raiseClass_eq (s : State) (i : StationId) (tag : Tag) (declared : Option RefrigerantClass)
    (m : RefrigerantClass) :
    s.raiseClass i tag declared m =
      if m = .unknown then s.raise .classUnknown (.station i) { first := tag, second := none }
      else if (effectiveClass declared m).2 then
        s.raise .classDisagree (.station i) { first := tag, second := none }
      else s := by
  simp only [State.raiseClass, beq_iff_eq]
  rfl

/-- The conditions of a classification are quiet. -/
theorem raiseClass_quiet (s : State) (i : StationId) (tag : Tag) (declared : Option RefrigerantClass)
    (m : RefrigerantClass) : ∃ monitor, s.raiseClass i tag declared m = s.setMonitor monitor := by
  rw [raiseClass_eq, raise_quiet (by decide), raise_quiet (by decide)]
  split
  · exact ⟨_, rfl⟩
  · split
    · exact ⟨_, rfl⟩
    · exact ⟨_, rfl⟩

theorem classifyUnit_eq {tag : Tag} {r : UnitRecord} (found : s.findUnit tag = some r) (i : StationId)
    (m : RefrigerantClass) (bands : Option (Vector Nat 6)) (hit : Option SignatureId) :
    s.classifyUnit i tag m bands hit =
      (s.onUnit tag fun r => r.classify m bands hit).raiseClass i tag r.refrigerant m := by
  rw [State.classifyUnit, found]

/-- A sample without a result leaves the unit UNKNOWN. -/
theorem classify_lost (r : UnitRecord) :
    r.classify .unknown none none =
      { r with
        measured := some .unknown, bands := none, signature := none
        effective := some .unknown } := by
  simp [UnitRecord.classify, effectiveClass]

/-! ## The steps of a sample's end (R36, R37) -/

theorem sampleOver_eq (cycle : s.classifier.cycle = some c) :
    s.sampleOver = s.setCycle (some { c with outstanding := false, sampleOrder := none }) := by
  rw [State.sampleOver, State.onCycle, cycle]
  rfl

theorem closeSample_eq {i : StationId} (cycle : s.classifier.cycle = some c) (here : i = c.station)
    (phase : (s.station i).phase = .sampling) (between : (s.station i).nextPhase = none) {d : SampleCycle}
    (same : d.station = i) :
    s.closeSample d = ((s.issue .classifier (.station i) (.sampleValve false)).setCycle (some
      { c with stage := .closing, closeOrder := some s.orderNumber })).endPhase i .trainWait := by
  subst same
  have cycle' : (s.orderSampleValve d.station false).classifier.cycle = some c := cycle
  rw [State.closeSample, State.onCycle, cycle']
  exact if_pos (by
    rw [Bool.and_eq_true, beq_iff_eq, Bool.not_eq_true', Station.atBoundary, Option.isSome_eq_false_iff,
      Option.isNone_iff_eq_none]
    exact ⟨phase, between⟩)

/-- Steps 3 to 5 of R36. -/
theorem classifyUnit_closeSample {d : SampleCycle} {r : UnitRecord} (cycle : s.classifier.cycle = some d)
    (here : c.station = d.station) (found : s.findUnit c.tag = some r)
    (phase : (s.station c.station).phase = .sampling) (between : (s.station c.station).nextPhase = none)
    (m : RefrigerantClass) (bands : Option (Vector Nat 6)) (hit : Option SignatureId) :
    ∃ v : State,
      v = (s.onUnit c.tag fun r => r.classify m bands hit).raiseClass c.station c.tag r.refrigerant m ∧
      (s.classifyUnit c.station c.tag m bands hit).closeSample c =
        ((v.issue .classifier (.station c.station) (.sampleValve false)).setCycle (some
          { d with stage := .closing, closeOrder := some v.orderNumber })).endPhase c.station .trainWait := by
  refine ⟨_, rfl, ?_⟩
  rw [classifyUnit_eq found]
  obtain ⟨monitor, raised⟩ := raiseClass_quiet (s.onUnit c.tag fun r => r.classify m bands hit) c.station
    c.tag r.refrigerant m
  rw [raised]
  generalize left : State.setMonitor _ _ = v
  have cycle' : v.classifier.cycle = some d := by
    rw [← left]
    exact cycle
  have station : v.station c.station = s.station c.station := by
    rw [← left]
    rfl
  exact closeSample_eq cycle' here (station ▸ phase) (station ▸ between) rfl

/-- An abandoned sample's end frees the manifold once the close is done. -/
theorem sampleOver_abandoned (cycle : s.classifier.cycle = some c) (stage : c.stage = .closing) :
    (c.closeDone = false →
      s.sampleOver.freeCycle = s.setCycle (some { c with outstanding := false, sampleOrder := none })) ∧
    (c.closeDone = true → s.sampleOver.freeCycle = (s.setCycle none).grantAnalyser) := by
  rw [sampleOver_eq cycle]
  exact ⟨fun waits => freeCycle_waits rfl (.inl waits), fun done => freeCycle_ends rfl stage done rfl⟩

theorem startSampleDone_eq {number : Nat} (cycle : s.classifier.cycle = some c)
    (order : c.sampleOrder = some number) (a : AnalyserAnswer) :
    s.startSampleDone number a = if a.fault = true then s.sampleLost c else s.sampleResult c a.bands := by
  rw [State.startSampleDone, cycle]
  exact if_pos (beq_iff_eq.mpr order)

theorem findOrder_is {n : Node} {number : Nat} {o : Order} (found : s.findOrder n number = some o) :
    o.node = n ∧ o.number = number := by
  have is := List.find?_some found
  simpa only [Bool.and_eq_true, beq_iff_eq] using is

/-- The sample order is reported DONE. -/
theorem analyserAnswer_done {a : AnalyserAnswer} {o : Order} {n : Nat} (runs : s.resetPin = false)
    (heard : (s.node .analyser).silent = false) (cycle : s.classifier.cycle = some c)
    (order : c.sampleOrder = some n) (found : s.findOrder .analyser n = some o)
    (reports : a.reports = [{ number := n, status := .done }]) :
    exec (.analyserAnswer a) s = .next
      (if a.fault = true then ((heardAt .analyser a.moment s).removeOrder o).sampleLost c
        else ((heardAt .analyser a.moment s).removeOrder o).sampleResult c a.bands).afterEvent := by
  obtain ⟨-, number⟩ := findOrder_is found
  have taken : exec (.analyserAnswer a) s = .next (takeAnalyser a s).afterEvent :=
    congrArg Host.Outcome.next (event_eq runs _)
  rw [taken, takeAnalyser, reports, takeAnswer_done heard _ found rfl, number]
  have cycle' : (heardAt .analyser a.moment s).classifier.cycle = some c := by
    rw [heardAt_classifier, cycle]
  generalize heardAt .analyser a.moment s = u at cycle' ⊢
  exact congrArg (fun t : State => Host.Outcome.next t.afterEvent)
    (startSampleDone_eq (s := u.removeOrder o) cycle' order a)

/-- A sample without a result: the condition, and then the unit stays UNKNOWN (R37, R39). -/
theorem sampleLost_cases (cycle : s.classifier.cycle = some c) :
    ∃ u : State,
      u = (s.setCycle (some { c with outstanding := false, sampleOrder := none })).raise .analyserFault
        (.node .analyser) { first := c.station.val + 1, second := none } ∧
      (c.abandoned = true → c.stage = .closing →
        (c.closeDone = true → s.sampleLost c = (u.setCycle none).grantAnalyser) ∧
        (c.closeDone = false → s.sampleLost c = u)) ∧
      ∀ r, c.abandoned = false → s.findUnit c.tag = some r →
        (s.station c.station).phase = .sampling → (s.station c.station).nextPhase = none →
        ∃ v : State,
          v = (u.onUnit c.tag fun r =>
            { r with
              measured := some .unknown, bands := none, signature := none
              effective := some .unknown }).raise .classUnknown (.station c.station)
                { first := c.tag, second := none } ∧
          s.sampleLost c =
            ((v.issue .classifier (.station c.station) (.sampleValve false)).setCycle (some
              { c with
                outstanding := false, sampleOrder := none, stage := .closing
                closeOrder := some v.orderNumber })).endPhase c.station .trainWait := by
  have lost : s.sampleLost c =
      if c.abandoned = true then
        ((s.setCycle (some { c with outstanding := false, sampleOrder := none })).raise .analyserFault
          (.node .analyser) { first := c.station.val + 1, second := none }).freeCycle
      else (((s.setCycle (some { c with outstanding := false, sampleOrder := none })).raise .analyserFault
          (.node .analyser) { first := c.station.val + 1, second := none }).classifyUnit c.station c.tag
            .unknown none none).closeSample c := by
    rw [State.sampleLost, sampleOver_eq cycle]
    rfl
  refine ⟨_, rfl, ?_, ?_⟩
  · intro gone stage
    rw [lost, if_pos gone, raise_quiet (by decide)]
    exact ⟨fun done => freeCycle_ends rfl stage done rfl, fun waits => freeCycle_waits rfl (.inl waits)⟩
  · intro r on found phase between
    rw [lost, if_neg (by simp [on])]
    generalize left : State.raise _ .analyserFault _ _ = u
    rw [raise_quiet (by decide)] at left
    have found' : u.findUnit c.tag = some r := by
      rw [← left]
      exact found
    have cycle' : u.classifier.cycle = some { c with outstanding := false, sampleOrder := none } := by
      rw [← left]
      rfl
    have station : u.station c.station = s.station c.station := by
      rw [← left]
      rfl
    obtain ⟨v, raised, closes⟩ := classifyUnit_closeSample cycle' rfl found' (station ▸ phase)
      (station ▸ between) .unknown none none
    rw [raiseClass_eq, if_pos rfl] at raised
    simp only [classify_lost] at raised
    exact ⟨v, raised, closes⟩

/-- A sample with a result: its classification, its condition, its close and the end of SAMPLING (R36). -/
theorem sampleResult_on {r : UnitRecord} (cycle : s.classifier.cycle = some c) (on : c.abandoned = false)
    (found : s.findUnit c.tag = some r) (phase : (s.station c.station).phase = .sampling)
    (between : (s.station c.station).nextPhase = none) (bands : Vector Nat 6) :
    ∃ (hit : Option SignatureId) (m : RefrigerantClass) (v : State),
      hit = s.classifier.scan bands ∧ m = s.classifier.measured hit ∧
      v = ((s.setCycle (some { c with outstanding := false, sampleOrder := none })).onUnit c.tag fun r =>
        r.classify m (some bands) hit).raiseClass c.station c.tag r.refrigerant m ∧
      s.sampleResult c bands = ((v.issue .classifier (.station c.station) (.sampleValve false)).setCycle
        (some
          { c with
            outstanding := false, sampleOrder := none, stage := .closing
            closeOrder := some v.orderNumber })).endPhase c.station .trainWait := by
  obtain ⟨v, raised, closes⟩ := classifyUnit_closeSample (c := c)
    (s := s.setCycle (some { c with outstanding := false, sampleOrder := none })) rfl rfl found phase between
    (s.classifier.measured (s.classifier.scan bands)) (some bands) (s.classifier.scan bands)
  refine ⟨_, _, v, rfl, rfl, raised, ?_⟩
  rw [State.sampleResult, sampleOver_eq cycle]
  dsimp only
  rw [if_neg (by simp [on])]
  exact closes

theorem grantAnalyser_waits
    (waits : s.classifier.cycle ≠ none ∨ s.classifier.queue = [] ∨ s.control.line = .stopped ∨
      s.control.line = .halted ∨ (s.node .analyser).silent = true) : s.grantAnalyser = s := by
  obtain same | ⟨i, rest, free, queue, runs, heard⟩ := grantAnalyser_cases s
  · exact same
  · rw [running_iff] at runs
    simp only [free, queue, heard] at waits
    obtain line | line := runs <;> simp [line] at waits

/-- A station whose valves are all secured, whose readings do not count, and whose cycle runs with an open
manifold. -/
structure ValveOnly (s : State) (i : StationId) (c : SampleCycle) : Prop where
  reads : ReadsNothing i s
  bare : (s.station i).unsecured = []
  cycle : s.classifier.cycle = some c
  here : c.station = i

section
variable {i : StationId} (h : ValveOnly s i c) (before : Station) (a : StationAnswer)
include h

/-- Another cycle record leaves such a station to its valve. -/
theorem ValveOnly.setCycle {d : SampleCycle} (clear : d.blocked = false) :
    stationQuantities i before a (s.setCycle (some d)) = s.setCycle (some d) :=
  stationQuantities_quiet (s := s.setCycle (some d)) h.reads h.bare
    (fun _ cycle => Option.some.inj cycle ▸ clear) before a

theorem ValveOnly.grantAnalyser :
    stationQuantities i before a (s.setCycle none).grantAnalyser = (s.setCycle none).grantAnalyser := by
  have reads : ReadsNothing i (s.setCycle none) := h.reads
  refine stationQuantities_quiet reads.grantAnalyser ?_ (fun c cycle => ?_) before a
  · obtain same | same := station_grantAnalyser reads
    · exact (congrArg Station.unsecured same).trans h.bare
    · exact (congrArg Station.unsecured same).trans h.bare
  · obtain held | clear := cycle_grantAnalyser cycle
    · cases held
    · exact clear

theorem ValveOnly.opened {number : Nat} (clear : c.blocked = false) (order : c.openOrder = some number) :
    (c.abandoned = false → stationQuantities i before a (s.sampleValveDone i number) =
      (s.issue .classifier .analyser .startSample).setCycle (some
        { c with
          openOrder := none, stage := .measuring, outstanding := true
          sampleOrder := some s.orderNumber })) ∧
    (c.abandoned = true → stationQuantities i before a (s.sampleValveDone i number) =
      s.setCycle (some { c with openOrder := none })) := by
  rw [sampleValveDone_open h.cycle h.here order]
  refine ⟨fun on => ?_, fun gone => ?_⟩
  · have issued : ValveOnly (s.issue .classifier .analyser .startSample) i c :=
      ⟨h.reads, h.bare, h.cycle, h.here⟩
    rw [if_neg (by simp [on])]
    exact issued.setCycle before a clear
  · rw [if_pos gone]
    exact h.setCycle before a clear

theorem ValveOnly.closed (stage : c.stage = .closing) :
    (c.outstanding = true → stationQuantities i before a s.sampleClosed =
      s.setCycle (some { c with closeDone := true, closeOrder := none, blocked := false })) ∧
    (c.outstanding = false → stationQuantities i before a s.sampleClosed =
      (s.setCycle none).grantAnalyser) := by
  refine ⟨fun waits => ?_, fun ended => ?_⟩
  · rw [sampleClosed_outstanding h.cycle waits]
    exact h.setCycle before a rfl
  · rw [sampleClosed_over h.cycle stage ended]
    exact h.grantAnalyser before a

/-- The answer that shows a blocked sample valve closed. -/
theorem ValveOnly.unblocked (blocked : c.blocked = true) (stage : c.stage = .closing)
    (shut : a.sampleOpen = false) :
    (c.outstanding = true → stationQuantities i before a s =
      s.setCycle (some { c with closeDone := true, closeOrder := none, blocked := false })) ∧
    (c.outstanding = false → stationQuantities i before a s = (s.setCycle none).grantAnalyser) := by
  rw [stationQuantities_rests h.reads, onStation_same (closedByAnswer_bare h.bare a), shut,
    unblock_blocked h.cycle h.here blocked]
  exact ⟨sampleClosed_outstanding h.cycle, sampleClosed_over h.cycle stage⟩

end

theorem ReadsNothing.heardAt {i : StationId} (h : ReadsNothing i s) (n : Node) (m : Moment) :
    ReadsNothing i (heardAt n m s) :=
  h.of_same (heardAt_control ..) (station_heardAt h.clock ..)

theorem ValveOnly.heardAt {i : StationId} (h : ValveOnly s i c) (n : Node) (m : Moment) :
    ValveOnly (heardAt n m s) i c where
  reads := h.reads.heardAt n m
  bare := by rw [station_heardAt h.reads.clock, h.bare]
  cycle := by rw [heardAt_classifier, h.cycle]
  here := h.here

theorem ValveOnly.setOrders {i : StationId} (h : ValveOnly s i c) (orders : List Order) :
    ValveOnly (s.setOrders orders) i c := ⟨h.reads, h.bare, h.cycle, h.here⟩

/-- A heard station's answer with the one report that an order is done. -/
theorem stationAnswer_done {i : StationId} {a : StationAnswer} {o : Order} (runs : s.resetPin = false)
    (heard : (s.node (.station i)).silent = false)
    (reports : a.reports = [{ number := o.number, status := .done }])
    (found : s.findOrder (.station i) o.number = some o) :
    exec (.stationAnswer i a) s = .next (stationQuantities i (s.station i) a
      (stationNodeDone i a ((heardAt (.station i) a.moment s).setOrders
        (otherOrders (.station i) o.number s.loop.orders)) o)).afterEvent := by
  have taken : exec (.stationAnswer i a) s = .next (takeStation i a s).afterEvent :=
    congrArg Host.Outcome.next (event_eq runs _)
  obtain ⟨node, -⟩ := findOrder_is found
  rw [taken, takeStation, reports, takeAnswer_done heard _ found rfl, removeOrder_eq, heardAt_orders, node]

theorem stationAnswer_silent {i : StationId} {a : StationAnswer} (runs : s.resetPin = false)
    (heard : (s.node (.station i)).silent = false) (reports : a.reports = []) :
    exec (.stationAnswer i a) s = .next (stationQuantities i (s.station i) a
      (heardAt (.station i) a.moment s)).afterEvent := by
  have taken : exec (.stationAnswer i a) s = .next (takeStation i a s).afterEvent :=
    congrArg Host.Outcome.next (event_eq runs _)
  rw [taken, takeStation, reports, takeAnswer_heard heard, forAll_nil]

end

section
variable {s : State} {c : SampleCycle} {a : AnalyserAnswer} {o : Order}

/-- The state in which the analyser's report of its sample is taken. -/
theorem sampleTaken_facts (s : State) (o : Order) (m : Moment) {u : State}
    (taken : u = (heardAt .analyser m s).removeOrder o) :
    u.classifier = s.classifier ∧ u.register = s.register ∧
      ∀ i, (s.station i).phase = .sampling → u.station i = s.station i := by
  have classifier (x : State) : (x.removeOrder o).classifier = x.classifier := rfl
  have register (x : State) : (x.removeOrder o).register = x.register := rfl
  have station (x : State) (i : StationId) : (x.removeOrder o).station i = x.station i := rfl
  subst taken
  refine ⟨by rw [classifier, heardAt_classifier], by rw [register, heardAt_register], fun i phase => ?_⟩
  rw [station, station_heardAt (ReadsNothing.clock (.inr (.inr (.inl phase))))]

/-- A sample with a result, from its report on. -/
theorem analyserAnswer_result {n : Nat} {r : UnitRecord} (runs : s.resetPin = false)
    (heard : (s.node .analyser).silent = false) (cycle : s.classifier.cycle = some c)
    (on : c.abandoned = false) (order : c.sampleOrder = some n) (found : s.findOrder .analyser n = some o)
    (reports : a.reports = [{ number := n, status := .done }]) (fault : a.fault = false)
    (unit : s.findUnit c.tag = some r) (phase : (s.station c.station).phase = .sampling)
    (between : (s.station c.station).nextPhase = none) {u : State}
    (taken : u = (heardAt .analyser a.moment s).removeOrder o) :
    ∃ (hit : Option SignatureId) (m : RefrigerantClass) (v : State),
      hit = s.classifier.scan a.bands ∧ m = s.classifier.measured hit ∧
      v = ((u.setCycle (some { c with outstanding := false, sampleOrder := none })).onUnit c.tag fun r =>
        r.classify m (some a.bands) hit).raiseClass c.station c.tag r.refrigerant m ∧
      exec (.analyserAnswer a) s = .next (((v.issue .classifier (.station c.station)
        (.sampleValve false)).setCycle (some
          { c with
            outstanding := false, sampleOrder := none, stage := .closing
            closeOrder := some v.orderNumber })).endPhase c.station .trainWait).afterEvent := by
  have executed := analyserAnswer_done runs heard cycle order found reports
  rw [if_neg (by simp [fault]), ← taken] at executed
  obtain ⟨classifier, register, station⟩ := sampleTaken_facts s o a.moment taken
  have found' : u.findUnit c.tag = some r := by rw [State.findUnit, register, ← State.findUnit, unit]
  obtain ⟨hit, m, v, scanned, measured, raised, result⟩ := sampleResult_on (by rw [classifier, cycle]) on
    found' (by rw [station _ phase, phase]) (by rw [station _ phase, between]) a.bands
  rw [classifier] at scanned measured
  exact ⟨hit, m, v, scanned, measured, raised, by rw [executed, result]⟩

/-- The report of an abandoned sample (R39). -/
theorem analyserAnswer_abandoned (runs : s.resetPin = false) (heard : (s.node .analyser).silent = false)
    (cycle : s.classifier.cycle = some c) (gone : c.abandoned = true) (stage : c.stage = .closing)
    (order : c.sampleOrder = some o.number) (found : s.findOrder .analyser o.number = some o)
    (reports : a.reports = [{ number := o.number, status := .done }]) (fault : a.fault = false) {u : State}
    (taken : u = (heardAt .analyser a.moment s).removeOrder o) :
    (c.closeDone = false → exec (.analyserAnswer a) s = .next
      (u.setCycle (some { c with outstanding := false, sampleOrder := none })).afterEvent) ∧
    (c.closeDone = true → exec (.analyserAnswer a) s = .next (u.setCycle none).grantAnalyser.afterEvent) := by
  have executed := analyserAnswer_done runs heard cycle order found reports
  obtain ⟨classifier, -, -⟩ := sampleTaken_facts s o a.moment taken
  rw [if_neg (by simp [fault]), ← taken, State.sampleResult] at executed
  dsimp only at executed
  rw [if_pos gone] at executed
  obtain ⟨waits, ends⟩ := sampleOver_abandoned (s := u) (by rw [classifier, cycle]) stage
  exact ⟨fun h => by rw [executed, waits h], fun h => by rw [executed, ends h]⟩

/-- A lost sample is lost to its cycle, however it is reported. -/
theorem startSampleFailed_eq (cycle : s.classifier.cycle = some c) (order : c.sampleOrder = some o.number)
    (node : o.node = .analyser) : s.orderFails o = s.sampleLost c := by
  rw [State.orderFails, node]
  dsimp only
  rw [State.startSampleFailed, cycle]
  exact if_pos (beq_iff_eq.mpr order)

end

/-- Settles O28: the grant, the sample and the close, each by the equation of its step. -/
theorem analyserSamplesTheQueueHead : Obligations.AnalyserSamplesTheQueueHead := by
  unfold Obligations.AnalyserSamplesTheQueueHead
  refine ⟨fun s => ⟨?_, grantAnalyser_waits⟩, ?_, ?_, ?_, ?_, ?_, ?_⟩
  · intro i rest tag free queue line heard unit
    refine ⟨_, rfl, ?_⟩
    rw [grantAnalyser_head free queue (running_iff.mpr line) heard, unit, State.enterPhase]
    exact congrArg (State.watchEntry _ _ · _) unit
  · intro s a c o n r runs heard cycle stage on order found reports fault unit phase between
    obtain ⟨hit, m, v, scanned, measured, raised, result⟩ := analyserAnswer_result runs heard cycle on order
      found reports fault unit phase between rfl
    rw [raiseClass_eq] at raised
    exact ⟨hit, m, _, v, _, scanned, measured, rfl, raised, rfl, result⟩
  · intro s i a c runs heard bare phase cycle here
    have start : ValveOnly s i c := ⟨.inr (.inr phase), bare, cycle, here⟩
    refine ⟨_, rfl, fun o b v clear reports found issuer kind eq => ?_, fun blocked stage reports shut => ?_⟩
    · have left : ValveOnly v i c := eq ▸ (start.heardAt (.station i) a.moment).setOrders _
      have taken := stationAnswer_done runs heard reports found
      rw [stationNodeDone_classifier a issuer kind] at taken
      have same : (heardAt (.station i) a.moment s).setOrders
          (otherOrders (.station i) o.number s.loop.orders) = v := eq.symm
      rw [same] at taken
      refine ⟨fun order on => ?_, fun order gone => ?_, fun other order stage => ?_⟩
      · rw [taken, (left.opened _ a clear order).1 on]
      · rw [taken, (left.opened _ a clear order).2 gone]
      · obtain ⟨waits, ends⟩ := left.closed (s.station i) a stage
        rw [sampleValveDone_close left.cycle here other order] at taken
        exact ⟨fun h => by rw [taken, waits h, clear], fun h => by rw [taken, ends h]⟩
    · obtain ⟨waits, ends⟩ := (start.heardAt (.station i) a.moment).unblocked (s.station i) a blocked stage shut
      rw [stationAnswer_silent runs heard reports]
      exact ⟨fun h => by rw [waits h]; rfl, fun h => by rw [ends h]; rfl⟩
  · intro s o i c b node issuer kind cycle here
    rw [orderFails_station node, stationNodeFailed_classifier issuer kind, sampleValveFailed_here cycle here]
    refine ⟨fun order phase between => ?_, fun other order => ?_⟩
    · subst here
      rw [if_pos order, sampleOpenFailed_here cycle phase between]
    · rw [if_neg other, if_pos order]
  · intro s a c o runs heard cycle order found reports fault
    rw [analyserAnswer_done runs heard cycle order found reports, if_pos fault]
    rfl
  · intro s a c o runs heard cycle gone stage order found reports fault
    refine ⟨_, rfl, analyserAnswer_abandoned runs heard cycle gone stage order found reports fault ?_⟩
    obtain ⟨node, -⟩ := findOrder_is found
    rw [removeOrder_eq, node, heardAt_orders]
    rfl
  · intro s c cycle
    exact ⟨fun o node order => startSampleFailed_eq cycle order node, sampleLost_cases cycle⟩

end Sys2Proof.Proofs

/-!
PROOFS. Family 02: the fault action of a station, and what a frozen station makes of its answers (O31).
-/

namespace Sys2Proof.Proofs

open Sys2Proof Sys2Proof.Machine Sys2Proof.Laws

section
variable {s : State} {i : StationId}

/-! ## The fault action (R67), step by step -/

/-- A station that has entered FAULTED (steps 1 and 2). -/
def faulted (f : StationFault) (x : Station) : Station :=
  { x with faultedPhase := some f, phase := .faulted, nextPhase := none }

/-- Also where the entry is watched and stops the line, the station itself enters FAULTED and no more. -/
theorem station_entersFaulted (s : State) (i : StationId) (f : StationFault) :
    (entersFaulted s i f).station i = faulted f (s.station i) := by
  rw [entersFaulted, station_enterPhase _ _ (by simp), station_onStation, writeFaultedPhase_keeps]
  rfl

theorem entersFaulted_same (s : State) (i : StationId) (f : StationFault) :
    (entersFaulted s i f).classifier = s.classifier ∧ (entersFaulted s i f).now = s.now ∧
      (entersFaulted s i f).register = (s.writeFaultedPhase i f).register := by
  rw [entersFaulted, State.enterPhase, watchEntry_classifier, watchEntry_now, watchEntry_register,
    writeFaultedPhase_keeps]
  exact ⟨rfl, rfl, rfl⟩

/-- Step 2 for a phase that a record may hold. -/
theorem writeFaultedPhase_register {tag : Tag} {p : StationPhase} (unit : (s.station i).unit = some tag)
    (empty : p ≠ .empty) (done : p ≠ .done) (fault : p ≠ .faulted) :
    (s.writeFaultedPhase i (.phase p)).register = { s.register with
      units := s.register.units.map fun r =>
        if r.tag = tag then { r with faultedPhase := some p } else r } := by
  have records : recordFaultPhase (.phase p) = some p := by
    rw [recordFaultPhase_phase, if_neg (by simp [empty, done, fault])]
  rw [State.writeFaultedPhase, unit, records]
  simp only [State.onUnit, beq_iff_eq]

/-- Step 3: the valves are closed, and the cycle of the station is abandoned. -/
def secured (s : State) (i : StationId) (f : StationFault) : State :=
  ((entersFaulted s i f).closeValves i).abandonFor i

theorem secured_left (s : State) (i : StationId) (f : StationFault) : ∃ a b c,
    (secured s i f).station i = valvesClosed a b c (faulted f (s.station i)) ∧
      closeOrders i s.now a b c ⊆ (secured s i f).loop.orders ∧
      (secured s i f).classifier = { s.classifier with
        cycle := s.classifier.cycle.map (abandonedFor i b) } ∧
      (secured s i f).arbiter = (entersFaulted s i f).arbiter ∧ (secured s i f).now = s.now ∧
      (secured s i f).register = (s.writeFaultedPhase i f).register := by
  obtain ⟨classifier, now, register⟩ := entersFaulted_same s i f
  have station := station_entersFaulted s i f
  unfold secured
  generalize entersFaulted s i f = e at classifier now register station ⊢
  obtain ⟨a, b, c, new, loop, eq⟩ := closeValves_eq e i
  have here : (e.closeValves i).station i = valvesClosed a b c (e.station i) := by
    rw [eq]
    exact get_set_self _ _ _
  rw [abandonFor_eq (sampleClose_valvesClosed here)]
  refine ⟨a, b, c, ?_, ?_, ?_, ?_, ?_, ?_⟩
  · exact here.trans (congrArg _ station)
  · rw [← now]
    have orders : (e.closeValves i).loop.orders = e.loop.orders ++ closeOrders i e.now a b c :=
      congrArg FieldLoop.orders loop
    exact fun o mem => orders ▸ List.mem_append_right _ mem
  · have same : (e.closeValves i).classifier = s.classifier := by
      rw [eq, ← classifier]
    rw [← same]
    rfl
  · rw [eq]
    rfl
  · rw [eq]
    exact now
  · rw [eq]
    exact register

/-! ### Step 4: the train goes into its tail (R89) -/

/-- A train goes into its tail from these states. -/
def Tails (state : TrainState) : Prop :=
  state = .purging ∨ state = .drawing ∨ state = .paused ∨ state = .waitVessel

/-- The start of a tail: the stations and the register stand, and orders are only added. -/
theorem startTail_keeps (s : State) (k : TrainId) :
    s.startTail k = { s with
      arbiter := (s.startTail k).arbiter
      loop := (s.startTail k).loop
      freeCount := (s.startTail k).freeCount } ∧
      s.loop.orders ⊆ (s.startTail k).loop.orders := by
  unfold State.startTail
  split
  · exact ⟨rfl, fun _ mem => List.mem_append_left _ (List.mem_append_left _ mem)⟩
  all_goals exact ⟨rfl, List.Subset.refl _⟩

/-- The train after the start of its tail. -/
def tailing (now : Moment) (x : Train) : Train :=
  { x with state := .tailing, tailEnd := some (now + 10000), purgeEnd := none }

theorem startTail_purging {k : TrainId} (state : (s.train k).state = .purging) :
    s.startTail k = ((s.orderTrain k (.purgeValve false)).orderTrain k .compressorStop).onTrain k
      (tailing s.now) := by
  unfold State.startTail
  rw [state]
  rfl

theorem startTail_drawing {k : TrainId} (state : Tails (s.train k).state)
    (other : (s.train k).state ≠ .purging) : s.startTail k = s.onTrain k (tailing s.now) := by
  unfold State.startTail
  obtain state | state | state | state := state
  · exact absurd state other
  all_goals
    rw [state]
    rfl

/-- Whichever of its states the train leaves, it is TAILING. -/
theorem train_startTail {k : TrainId} (state : Tails (s.train k).state) :
    (s.startTail k).train k = tailing s.now (s.train k) := by
  by_cases purging : (s.train k).state = .purging
  · rw [startTail_purging purging, train_onTrain]
    rfl
  · rw [startTail_drawing state purging, train_onTrain]

theorem startTail_ordered {k : TrainId} (purging : (s.train k).state = .purging) :
    ∀ kind ∈ [OrderKind.purgeValve false, .compressorStop], ∃ o ∈ (s.startTail k).loop.orders,
      o.node = .train k ∧ o.kind = kind ∧ o.issuer = .pathArbiter ∧
        o.deadline = s.now + orderTimeoutOf kind ∧ o.acknowledged = false := by
  rw [startTail_purging purging]
  simp only [List.forall_mem_cons]
  refine ⟨⟨_, List.mem_append_left _ (List.mem_append_right _ (List.mem_singleton_self _)), ?_⟩,
    ⟨_, List.mem_append_right _ (List.mem_singleton_self _), ?_⟩, List.forall_mem_nil _⟩
  · exact ⟨rfl, rfl, rfl, rfl, rfl⟩
  · exact ⟨rfl, rfl, rfl, rfl, rfl⟩

/-- A train as a line stop leaves it. -/
def pausedIfDrawing (x : Train) : Train := { x with state := if x.state = .drawing then .paused else x.state }

theorem pausedIfDrawing_pauseTrain (s : State) (k j : TrainId) :
    pausedIfDrawing ((s.pauseTrain j).train k) = pausedIfDrawing (s.train k) := by
  unfold State.pauseTrain
  split
  · rename_i draws
    by_cases e : j = k
    · subst e
      have state : (s.train j).state = .drawing := beq_iff_eq.mp draws
      have same : (s.orderTrain j .compressorStop).train j = s.train j := rfl
      rw [train_onTrain, same]
      simp [pausedIfDrawing, state]
    · rw [train_onTrain_ne _ _ _ _ e]
      rfl
  · rfl

/-- A watch hit that stops the line pauses a train at most. -/
theorem train_entersFaulted (s : State) (i : StationId) (f : StationFault) (k : TrainId) :
    pausedIfDrawing ((entersFaulted s i f).train k) = pausedIfDrawing (s.train k) := by
  have before : ((s.writeFaultedPhase i f).onStation i fun x => { x with faultedPhase := some f }).train k =
      s.train k := by
    rw [writeFaultedPhase_keeps]
    rfl
  rw [← before]
  exact watchEntry_same (fun s => pausedIfDrawing (s.train k)) (fun _ _ => rfl) (fun _ _ => rfl)
    (fun s => lineStop_same (fun s => pausedIfDrawing (s.train k)) (fun s i => by rw [stopStation_eq]; rfl)
      (pausedIfDrawing_pauseTrain · k) s) _ _ _ _

theorem tails_of_pausedIfDrawing {x y : Train} (same : pausedIfDrawing y = pausedIfDrawing x)
    (state : Tails x.state) :
    Tails y.state ∧ (x.state = .purging → y.state = .purging) ∧ y.station = x.station ∧ y.slot = x.slot := by
  have states : (if y.state = .drawing then TrainState.paused else y.state) =
      if x.state = .drawing then .paused else x.state := congrArg Train.state same
  have station : y.station = x.station := by
    injection same
  have slot : y.slot = x.slot := by
    injection same
  by_cases draws : y.state = .drawing
  · rw [if_pos draws] at states
    exact ⟨.inr (.inl draws), fun purging => by simp [purging] at states, station, slot⟩
  rw [if_neg draws] at states
  by_cases drew : x.state = .drawing
  · rw [if_pos drew] at states
    exact ⟨.inr (.inr (.inl states)), fun purging => by simp [purging] at drew, station, slot⟩
  · rw [if_neg drew] at states
    exact ⟨states ▸ state, states.trans, station, slot⟩

/-! ### The lists, and the action as a whole -/

/-- Step 4, where the action holds it. -/
def tailStarted (s : State) (i : StationId) (tail : Bool) : State := if tail then s.tailFor i else s

theorem tailStarted_keeps (s : State) (i : StationId) (tail : Bool) :
    (tailStarted s i tail).stations = s.stations ∧ (tailStarted s i tail).classifier = s.classifier ∧
      (tailStarted s i tail).register = s.register ∧
      s.loop.orders ⊆ (tailStarted s i tail).loop.orders := by
  unfold tailStarted State.tailFor
  split
  · split
    · obtain ⟨eq, orders⟩ := startTail_keeps s ‹_›
      refine ⟨?_, ?_, ?_, orders⟩
      all_goals rw [eq]
    · exact ⟨rfl, rfl, rfl, List.Subset.refl _⟩
  · exact ⟨rfl, rfl, rfl, List.Subset.refl _⟩

theorem faultStation_steps (s : State) (i : StationId) (f : StationFault) (tail : Bool) :
    s.faultStation i f tail =
      ((tailStarted (secured s i f) i tail).leaveLists i).onStation i Station.clearWork := rfl

/-- What the fault action leaves of the station, of its orders and of its sample cycle. -/
theorem faultStation_left (s : State) (i : StationId) (f : StationFault) (tail : Bool) : ∃ a b c,
    (s.faultStation i f tail).station i =
      (valvesClosed a b c (faulted f (s.station i))).clearWork ∧
    closeOrders i s.now a b c ⊆ (s.faultStation i f tail).loop.orders ∧
    (s.faultStation i f tail).classifier.cycle = s.classifier.cycle.map (abandonedFor i b) ∧
    (s.faultStation i f tail).register = (s.writeFaultedPhase i f).register := by
  obtain ⟨a, b, c, station, ordered, classifier, -, -, register⟩ := secured_left s i f
  obtain ⟨stations', classifier', register', orders'⟩ := tailStarted_keeps (secured s i f) i tail
  rw [faultStation_steps]
  generalize tailStarted (secured s i f) i tail = w at stations' classifier' register' orders' ⊢
  refine ⟨a, b, c, ?_, fun o mem => orders' (ordered mem), ?_, register'.trans register⟩
  · rw [station_onStation, ← station]
    exact congrArg (fun v : Vector Station 8 => (v.get i).clearWork) stations'
  · exact (congrArg Classifier.cycle classifier').trans (congrArg Classifier.cycle classifier)

/-- Step 5. -/
theorem faultStation_lists (s : State) (i : StationId) (f : StationFault) (tail : Bool) :
    i ∉ (s.faultStation i f tail).classifier.queue ∧
      ∀ q ∈ (s.faultStation i f tail).arbiter.requests, q.station ≠ i := by
  rw [faultStation_steps]
  generalize tailStarted (secured s i f) i tail = w
  refine ⟨fun mem => ?_, fun q mem => ?_⟩
  · have kept : i ∈ w.classifier.queue.filter (· != i) := mem
    simp at kept
  · have kept : q ∈ w.arbiter.requests.filter fun q => q.station != i := mem
    simpa using (List.mem_filter.mp kept).2

/-- The station's train at the end of the action. -/
theorem faultStation_train {k : TrainId} (f : StationFault) (train : (s.station i).train = some k)
    (state : Tails (s.train k).state) :
    ∃ x : Train, x.station = (s.train k).station ∧ x.slot = (s.train k).slot ∧
      (s.faultStation i f true).train k = tailing s.now x ∧
      ((s.train k).state = .purging → ∀ kind ∈ [OrderKind.purgeValve false, .compressorStop],
        ∃ o ∈ (s.faultStation i f true).loop.orders, o.node = .train k ∧ o.kind = kind ∧
          o.issuer = .pathArbiter ∧ o.deadline = s.now + orderTimeoutOf kind ∧ o.acknowledged = false) := by
  obtain ⟨a, b, c, station, -, -, arbiter, now, -⟩ := secured_left s i f
  obtain ⟨tails, purges, serves, feeds⟩ :=
    tails_of_pausedIfDrawing (train_entersFaulted s i f k) state
  have same : (secured s i f).train k = (entersFaulted s i f).train k := by
    rw [State.train, arbiter]
    rfl
  rw [← same] at tails purges serves feeds
  have steps : s.faultStation i f true =
      (((secured s i f).startTail k).leaveLists i).onStation i Station.clearWork := by
    have own : ((secured s i f).station i).train = some k := by
      rw [station]
      exact train
    rw [faultStation_steps, tailStarted, if_pos rfl, State.tailFor, own]
  rw [steps]
  generalize secured s i f = w at tails purges serves feeds now ⊢
  refine ⟨w.train k, serves, feeds, ?_, fun purging => ?_⟩
  · rw [← now]
    exact train_startTail tails
  · rw [← now]
    exact startTail_ordered (purges purging)

/-! ## What a frozen station makes of an answer (R69, R76) -/

/-- The two ways in which an answer shows valves closed (log 14) are those of `closedByAnswer`. -/
theorem shown_eq {a : StationAnswer} {shut : StationValve → Bool} {shown : Station → Station}
    (evac : shut .evac = !a.evacOpen) (sample : shut .sample = !a.sampleOpen)
    (drain : shut .drain = !a.drainOpen)
    (other : ∀ x, ¬ (shut .evac = true ∧ ∃ w ∈ x.unsecured, w.valve = .evac) →
      shown x = { x with unsecured := x.unsecured.filter fun w => !shut w.valve })
    (closes : ∀ x, shut .evac = true → (∃ w ∈ x.unsecured, w.valve = .evac) →
      shown x = { x with
        unsecured := x.unsecured.filter fun w => !shut w.valve
        evacValve := .closed, evacOrder := none }) :
    shown = fun x => x.closedByAnswer a := by
  have shut_eq : shut = fun
      | .evac => !a.evacOpen
      | .sample => !a.sampleOpen
      | .drain => !a.drainOpen := by
    funext v
    cases v with
    | evac => exact evac
    | sample => exact sample
    | drain => exact drain
  funext x
  have shows : (!a.evacOpen && x.unsecured.any fun u => u.valve == .evac) = true ↔
      shut .evac = true ∧ ∃ w ∈ x.unsecured, w.valve = .evac := by
    rw [Bool.and_eq_true, List.any_eq_true, evac]
    simp only [beq_iff_eq]
  by_cases closed : shut .evac = true ∧ ∃ w ∈ x.unsecured, w.valve = .evac
  · rw [closes x closed.1 closed.2, Station.closedByAnswer]
    simp only [shows.mpr closed, if_true, shut_eq] <;> rfl
  · rw [other x closed, Station.closedByAnswer]
    simp only [mt shows.mp closed, shut_eq] <;> rfl

theorem ReadsNothing.setCycle (h : ReadsNothing i s) (d : Option SampleCycle) :
    ReadsNothing i (s.setCycle d) := h

/-- The station is shown, and the manifold is not freed by the answer. -/
theorem stationQuantities_shown {a : StationAnswer} (h : ReadsNothing i s)
    (held : ∀ c, s.classifier.cycle = some c →
      ¬ (c.station = i ∧ c.blocked = true ∧ a.sampleOpen = false)) (before : Station) :
    stationQuantities i before a s = s.onStation i fun x => x.closedByAnswer a := by
  rw [stationQuantities_rests h, unblock_open (s := s.onStation i _) held]

/-- The entry of a completed close order goes. -/
theorem closedByOrder_eq (x : Station) (number : Nat) :
    x.closedByOrder number = { x with
      unsecured := x.unsecured.filter fun w => decide (w.order ≠ some number) } := by
  have same (w : Unsecured) : (w.order != some number) = decide (w.order ≠ some number) := by
    rw [Bool.eq_iff_iff]
    simp
  simp only [Station.closedByOrder, same]

/-- The state in which a station's completed close order is taken: the order is gone, and the entry with it. -/
def closeTaken (s : State) (i : StationId) (number : Nat) : State :=
  s.onStation i fun x => x.closedByOrder number

theorem closeTaken_eq (s : State) (i : StationId) (number : Nat) :
    closeTaken s i number = s.setStation i { s.station i with
      unsecured := (s.station i).unsecured.filter fun w => decide (w.order ≠ some number) } := by
  rw [closeTaken, State.onStation, closedByOrder_eq]

section
variable {o : Order} {oil : Grams}

theorem stationOrderDone_sample {b : Bool} (kind : o.kind = .sampleValve b) :
    s.stationOrderDone i o oil = closeTaken s i o.number := by
  unfold State.stationOrderDone
  rw [kind]
  rfl

theorem stationOrderDone_drain {b : Bool} (kind : o.kind = .drainValve b)
    (other : (s.station i).drainOrder ≠ some o.number) :
    s.stationOrderDone i o oil = closeTaken s i o.number := by
  unfold State.stationOrderDone
  rw [kind]
  dsimp only
  rw [station_onStation]
  exact if_neg (by simpa [Station.closedByOrder] using other)

/-- No evacuation valve opens at a station that evacuates nothing. -/
theorem openEvac_rests (rests : (s.station i).phase ≠ .evacuate ∨ s.control.line = .halted) :
    s.openEvac i = s := by
  unfold State.openEvac State.halted
  refine if_neg ?_
  obtain phase | line := rests
  · simp [phase]
  · simp [line]

theorem stationOrderDone_evac {b : Bool} (kind : o.kind = .evacValve b)
    (own : (s.station i).evacOrder = some o.number) (closing : (s.station i).evacValve = .closing)
    (rests : (s.station i).phase ≠ .evacuate ∨ s.control.line = .halted) :
    s.stationOrderDone i o oil = (closeTaken s i o.number).onStation i fun x =>
      { x with evacValve := .closed, evacOrder := none } := by
  unfold State.stationOrderDone
  rw [kind]
  dsimp only
  rw [station_onStation, if_pos (by simpa [Station.closedByOrder] using own), State.evacDone,
    station_onStation, closedByOrder_eq]
  dsimp only
  rw [closing]
  dsimp only
  rw [openEvac_rests]
  · rfl
  · rw [station_onStation, station_onStation, closedByOrder_eq]
    exact rests

theorem stationNodeDone_controller {a : StationAnswer} (issuer : o.issuer = .stationController)
    (kind : ∀ b, o.kind ≠ .sampleValve b) :
    stationNodeDone i a s o = s.stationOrderDone i o a.oil := by
  unfold stationNodeDone
  rw [if_pos (beq_iff_eq.mpr issuer)]
  dsimp only
  split
  · rename_i b e
    exact absurd e (kind b)
  · rfl

theorem stationNodeDone_sample {a : StationAnswer} {b : Bool} (issuer : o.issuer = .stationController)
    (kind : o.kind = .sampleValve b) :
    stationNodeDone i a s o = (closeTaken s i o.number).sampleValveDone i o.number := by
  rw [stationNodeDone, issuer, kind]
  exact congrArg (State.sampleValveDone · i o.number) (stationOrderDone_sample kind)

theorem sampleValveDone_elsewhere {number : Nat}
    (apart : ∀ c, s.classifier.cycle = some c → c.station ≠ i) : s.sampleValveDone i number = s := by
  unfold State.sampleValveDone
  split
  · rfl
  · rename_i c cycle
    exact if_pos (bne_iff_ne.mpr (apart c cycle))

end

section
variable {a : StationAnswer} {x : Station}

/-- An answer that leaves the cycle alone shows the valves of the station. -/
theorem quantities_apart (h : ReadsNothing i s) (phase : x.phase = (s.station i).phase)
    (apart : ∀ c, s.classifier.cycle = some c → c.station ≠ i) (before : Station) :
    stationQuantities i before a (s.setStation i x) = s.setStation i (x.closedByAnswer a) := by
  have reads : ReadsNothing i (s.setStation i x) := by
    rwa [ReadsNothing, station_setStation, phase]
  rw [stationQuantities_shown reads fun c cycle ⟨here, _⟩ => apart c cycle here, State.onStation,
    station_setStation, setStation_setStation]

theorem setStation_station (s : State) (i : StationId) : s.setStation i (s.station i) = s :=
  onStation_same (f := id) rfl

/-- A frozen station in the state in which its answer is taken, with some orders outstanding. -/
structure TakesAnswer (s : State) (i : StationId) (v : State) : Prop where
  reads : ReadsNothing i v
  station : v.station i = s.station i
  classifier : v.classifier = s.classifier
  control : v.control = s.control

theorem takesAnswer_heardAt (h : ReadsNothing i s) (m : Moment) :
    TakesAnswer s i (heardAt (.station i) m s) where
  reads := h.heardAt (.station i) m
  station := station_heardAt h.clock (.station i) m
  classifier := heardAt_classifier s (.station i) m
  control := heardAt_control s (.station i) m

theorem TakesAnswer.setOrders {v : State} (h : TakesAnswer s i v) (orders : List Order) :
    TakesAnswer s i (v.setOrders orders) := ⟨h.reads, h.station, h.classifier, h.control⟩

section
variable {v : State} {c : SampleCycle} (before : Station)

theorem TakesAnswer.shown (h : TakesAnswer s i v)
    (apart : ∀ c, s.classifier.cycle = some c → c.station ≠ i) (x : Station)
    (phase : x.phase = (s.station i).phase) :
    stationQuantities i before a (v.setStation i x) = v.setStation i (x.closedByAnswer a) :=
  quantities_apart h.reads (phase.trans (congrArg Station.phase h.station.symm))
    (fun c cycle => apart c (h.classifier ▸ cycle)) before

theorem TakesAnswer.bare (h : TakesAnswer s i v)
    (apart : ∀ c, s.classifier.cycle = some c → c.station ≠ i) :
    stationQuantities i before a v = v.setStation i ((s.station i).closedByAnswer a) := by
  have shown := h.shown (a := a) before apart (s.station i) rfl
  have same : v.setStation i (s.station i) = v := by rw [← h.station, setStation_station]
  rwa [same] at shown

/-- The answer shows a blocked sample valve closed. -/
theorem TakesAnswer.unblocked (h : TakesAnswer s i v) (cycle : s.classifier.cycle = some c)
    (here : c.station = i) (stage : c.stage = .closing) (blocked : c.blocked = true)
    (shut : a.sampleOpen = false) :
    (c.outstanding = true → stationQuantities i before a v =
      (v.setStation i ((s.station i).closedByAnswer a)).setCycle (some
        { c with closeDone := true, closeOrder := none, blocked := false })) ∧
    (c.outstanding = false → stationQuantities i before a v =
      ((v.setStation i ((s.station i).closedByAnswer a)).setCycle none).grantAnalyser) := by
  have cycle' : (v.setStation i ((s.station i).closedByAnswer a)).classifier.cycle = some c := by
    rw [setStation_classifier, h.classifier, cycle]
  rw [stationQuantities_rests h.reads, shut, State.onStation, h.station, unblock_blocked cycle' here blocked]
  exact ⟨sampleClosed_outstanding cycle', sampleClosed_over cycle' stage⟩

/-- The close that the cycle waits for is done, and then the answer's valves count. -/
theorem TakesAnswer.closed (h : TakesAnswer s i v) (cycle : s.classifier.cycle = some c)
    (here : c.station = i) (stage : c.stage = .closing) (clear : c.blocked = false) (x : Station)
    (phase : x.phase = (s.station i).phase) {number : Nat} (other : c.openOrder ≠ some number)
    (order : c.closeOrder = some number) :
    (c.outstanding = true →
      stationQuantities i before a ((v.setStation i x).sampleValveDone i number) =
        ((v.setStation i x).setCycle (some { c with closeDone := true, closeOrder := none })).onStation i
          fun x => x.closedByAnswer a) ∧
    (c.outstanding = false →
      stationQuantities i before a ((v.setStation i x).sampleValveDone i number) =
        ((v.setStation i x).setCycle none).grantAnalyser.onStation i fun x => x.closedByAnswer a) := by
  have cycle' : (v.setStation i x).classifier.cycle = some c := by
    rw [setStation_classifier, h.classifier, cycle]
  have reads : ReadsNothing i (v.setStation i x) := by
    rw [ReadsNothing, station_setStation, phase, ← h.station]
    exact h.reads
  rw [sampleValveDone_close cycle' here other order]
  refine ⟨fun waits => ?_, fun ended => ?_⟩
  · rw [sampleClosed_outstanding cycle' waits, stationQuantities_shown (reads.setCycle _), clear]
    rintro _ ⟨⟩ ⟨_, blocked, _⟩
    cases blocked
  · rw [sampleClosed_over cycle' stage ended, stationQuantities_shown (reads.setCycle none).grantAnalyser]
    rintro d held ⟨_, blocked, _⟩
    obtain none | open_ := cycle_grantAnalyser held
    · cases none
    · simp [open_] at blocked

end

/-! ### The reports of a frozen station's close orders -/

section
variable {o : Order} {v : State}

/-- The station with the entry of a completed close order gone. -/
def entryGone (x : Station) (number : Nat) : Station :=
  { x with unsecured := x.unsecured.filter fun w => decide (w.order ≠ some number) }

theorem TakesAnswer.closeTaken (h : TakesAnswer s i v) (number : Nat) :
    closeTaken v i number = v.setStation i (entryGone (s.station i) number) := by
  rw [closeTaken_eq, h.station]
  rfl

/-- A sample valve, or a drain valve that the drain's end does not wait for. -/
theorem TakesAnswer.done_other (h : TakesAnswer s i v)
    (apart : ∀ c, s.classifier.cycle = some c → c.station ≠ i) (issuer : o.issuer = .stationController)
    (kind : o.kind = .sampleValve false ∨
      o.kind = .drainValve false ∧ (s.station i).drainOrder ≠ some o.number) :
    stationNodeDone i a v o = v.setStation i (entryGone (s.station i) o.number) := by
  obtain sample | ⟨drain, other⟩ := kind
  · rw [stationNodeDone_sample issuer sample, h.closeTaken]
    exact sampleValveDone_elsewhere fun c cycle => apart c (h.classifier ▸ cycle)
  · rw [stationNodeDone_controller issuer (by simp [drain]), stationOrderDone_drain drain
      (by rw [h.station]; exact other), h.closeTaken]

/-- The evacuation valve that the station was closing. -/
theorem TakesAnswer.done_evac (h : TakesAnswer s i v) (issuer : o.issuer = .stationController)
    (kind : o.kind = .evacValve false) (own : (s.station i).evacOrder = some o.number)
    (closing : (s.station i).evacValve = .closing)
    (rests : (s.station i).phase ≠ .evacuate ∨ s.control.line = .halted) :
    stationNodeDone i a v o = v.setStation i
      { entryGone (s.station i) o.number with evacValve := .closed, evacOrder := none } := by
  rw [← h.station] at own closing rests
  rw [← h.control] at rests
  rw [stationNodeDone_controller issuer (by simp [kind]), stationOrderDone_evac kind own closing rests,
    h.closeTaken, State.onStation, station_setStation, setStation_setStation]

end

end

end

/-- Settles O31: the fault action step by step, the answers of a frozen station, and its failed closes. -/
theorem stationFaultActionIsTaken : Obligations.StationFaultActionIsTaken := by
  unfold Obligations.StationFaultActionIsTaken
  refine ⟨?_, ?_, ?_⟩
  · rintro s t i f tail rfl
    obtain ⟨a, b, c, station, ordered, cycle, register⟩ := faultStation_left s i f tail
    obtain ⟨evac, sample, drain⟩ := closeOrders_subset.mp ordered
    refine ⟨?_, ⟨a, b, c, ?_, ?_, ?_, ?_⟩, ?_, ?_, faultStation_lists s i f tail, ?_⟩
    · rw [station]
      exact ⟨rfl, rfl, rfl, rfl, rfl, rfl, rfl, rfl, rfl, rfl, rfl⟩
    · rw [station]
      rfl
    · rw [station]
      rfl
    · simp only [List.forall_mem_cons]
      exact ⟨⟨_, evac, rfl, rfl, rfl, rfl, rfl, rfl⟩, ⟨_, sample, rfl, rfl, rfl, rfl, rfl, rfl⟩,
        ⟨_, drain, rfl, rfl, rfl, rfl, rfl, rfl⟩, List.forall_mem_nil _⟩
    · intro y held here on
      rw [cycle, held, Option.map_some, abandonedFor, if_pos ⟨here, on⟩]
      rfl
    · intro rest
      rw [cycle]
      cases held : s.classifier.cycle with
      | none => rfl
      | some y =>
        rw [Option.map_some, abandonedFor, if_neg]
        rintro ⟨here, on⟩
        exact (rest y held).elim (· here) on
    · rintro tag p unit rfl empty done fault
      rw [register, writeFaultedPhase_register unit empty done fault]
    · rintro k rfl train state
      obtain ⟨x, serves, feeds, left, tailOrders⟩ := faultStation_train f train state
      rw [left]
      exact ⟨rfl, rfl, rfl, serves, feeds, tailOrders⟩
  · intro s i a shut shown runs heard frozen evac sample drain other closes
    rw [shown_eq evac sample drain other closes]
    have reads : ReadsNothing i s := frozen.elim (fun phase => .inr (.inl phase)) .inl
    have takes := takesAnswer_heardAt reads a.moment
    refine ⟨heardAt (.station i) a.moment s, rfl, fun apart reports => ?_,
      fun c cycle here stage blocked reports shut => ?_, ?_⟩
    · rw [stationAnswer_silent runs heard reports, takes.bare _ apart]
    · obtain ⟨waits, ends⟩ := takes.unblocked (s.station i) cycle here stage blocked shut
      rw [stationAnswer_silent runs heard reports]
      exact ⟨fun h => by rw [waits h], fun h => by rw [ends h]⟩
    · intro o v us reports found issuer eq gone
      have takes' : TakesAnswer s i v := eq ▸ takes.setOrders _
      have taken := stationAnswer_done runs heard reports found
      have same : (heardAt (.station i) a.moment s).setOrders
          (otherOrders (.station i) o.number s.loop.orders) = v := eq.symm
      rw [same] at taken
      subst gone
      refine ⟨fun apart => ⟨fun kind => ?_, fun kind own closing => ?_⟩,
        fun c cycle here stage clear kind other order => ?_⟩
      · rw [taken, takes'.done_other apart issuer kind, takes'.shown _ apart]
        · rfl
        · rfl
      · have rests : (s.station i).phase ≠ .evacuate ∨ s.control.line = .halted :=
          frozen.imp_left fun phase => by simp [phase]
        rw [taken, takes'.done_evac issuer kind own closing rests, takes'.shown _ apart]
        · rfl
        · rfl
      · obtain ⟨waits, ends⟩ := takes'.closed (a := a) (s.station i) cycle here stage clear
          (entryGone (s.station i) o.number) rfl other order
        rw [stationNodeDone_sample issuer kind, takes'.closeTaken] at taken
        exact ⟨fun h => by rw [taken, waits h]; rfl, fun h => by rw [taken, ends h]; rfl⟩
  · intro s i o phase node issuer kind
    have sample : ∀ opens, o.kind ≠ .sampleValve opens := by
      obtain kind | kind := kind <;> simp [kind]
    have work : o.kind ≠ .unclamp := by
      obtain kind | kind := kind <;> simp [kind]
    rw [orderFails_station node, stationNodeFailed_other issuer sample, stationOrderFailed_work work,
      if_pos (.inr phase), closeMissed_eq]

end Sys2Proof.Proofs

/-!
PROOFS. Family 02: completed lines, the tests of a row, and the rows of a load (O14).
-/

namespace Sys2Proof.Proofs

open Sys2Proof Sys2Proof.Machine Sys2Proof.Laws

/-! ## The words and numbers of a row (R184, R198) -/

theorem windowOf_pair {t a b : Text} (pieces : splitAt chColon t = [a, b]) (w : BandWindow) :
    windowOf t = some w ↔ numberOf a = some w.low ∧ numberOf b = some w.high ∧ w.low ≤ w.high ∧
      w.high ≤ 4095 := by
  obtain ⟨low, high⟩ := w
  unfold windowOf
  rw [pieces]
  dsimp only
  cases numberOf a with
  | none => simp
  | some l =>
    cases numberOf b with
    | none => simp
    | some h =>
      dsimp only
      split
      · rename_i fits
        simp only [Bool.and_eq_true, decide_eq_true_eq] at fits
        simp only [Option.some.injEq, BandWindow.mk.injEq]
        constructor
        · rintro ⟨rfl, rfl⟩
          exact ⟨rfl, rfl, fits⟩
        · rintro ⟨rfl, rfl, -⟩
          exact ⟨rfl, rfl⟩
      · rename_i fits
        simp only [Bool.and_eq_true, decide_eq_true_eq] at fits
        simp only [Option.some.injEq, reduceCtorEq, false_iff]
        rintro ⟨rfl, rfl, within⟩
        exact fits within

theorem windowOf_iff (t : Text) (w : BandWindow) :
    windowOf t = some w ↔ ∃ a b, splitAt chColon t = [a, b] ∧
      numberOf a = some w.low ∧ numberOf b = some w.high ∧ w.low ≤ w.high ∧ w.high ≤ 4095 := by
  constructor
  · intro read
    have pair : ∃ a b, splitAt chColon t = [a, b] := by
      unfold windowOf at read
      split at read
      · rename_i a b pieces
        exact ⟨a, b, pieces⟩
      · cases read
    obtain ⟨a, b, pieces⟩ := pair
    exact ⟨a, b, pieces, (windowOf_pair pieces w).mp read⟩
  · rintro ⟨a, b, pieces, reads⟩
    exact (windowOf_pair pieces w).mpr reads

theorem wordOf_gas (c : GasClass) : wordOf gases gasWord (ascii (gasWord c)) = some c := by
  cases c <;> decide

theorem gasRead_iff {v : Option Text} {c : GasClass} :
    v.bind (wordOf gases gasWord) = some c ↔ v = some (ascii (gasWord c)) := by
  constructor
  · intro read
    obtain ⟨t, rfl, found⟩ := Option.bind_eq_some_iff.mp read
    have is := List.find?_some found
    rw [beq_iff_eq.mp is]
  · rintro rfl
    exact wordOf_gas c

theorem boolOf_iff {t : Text} {b : Bool} : boolOf "yes" "no" t = some b ↔ t = yesNo b := by
  have apart : ascii "no" ≠ ascii "yes" := by decide
  unfold boolOf yesNo
  simp only [beq_iff_eq]
  by_cases yes : t = ascii "yes"
  · subst yes
    cases b <;> simp [apart.symm]
  · by_cases no : t = ascii "no"
    · subst no
      cases b <;> simp [apart]
    · cases b <;> simp [yes, no]

theorem boolRead_iff {v : Option Text} {b : Bool} : v.bind (boolOf "yes" "no") = some b ↔ v = some (yesNo b) := by
  simp [Option.bind_eq_some_iff, boolOf_iff]

theorem signatureOf_iff {n : Nat} {i : SignatureId} : signatureOf n = some i ↔ n = i.val := by
  unfold signatureOf
  split
  · rw [Option.some.injEq, Fin.ext_iff]
  · rename_i out
    simp only [reduceCtorEq, false_iff]
    rintro rfl
    exact out i.isLt

theorem bandOf_iff {n : Nat} {b : Band} : bandOf n = some b ↔ n = b.val + 1 := by
  unfold bandOf
  split
  · rw [Option.some.injEq, Fin.ext_iff]
    dsimp only
    omega
  · simp only [reduceCtorEq, false_iff]
    omega

theorem bandRead_iff {t : Text} {b : Band} :
    (numberOf t).bind bandOf = some b ↔ numberOf t = some (b.val + 1) := by
  simp [Option.bind_eq_some_iff, bandOf_iff]

/-! ## The pairing of bands with windows (R45, R198) -/

/-- The items of a row's two lists spell these pairs. -/
def Spells (bs rest : List Text) (ps : List (Band × BandWindow)) : Prop :=
  bs.map numberOf = ps.map (fun p => some (p.1.val + 1)) ∧ rest.map windowOf = ps.map fun p => some p.2

theorem spells_cons {b w : Text} {bs rest : List Text} {p : Band × BandWindow}
    {ps : List (Band × BandWindow)} :
    Spells (b :: bs) (w :: rest) (p :: ps) ↔
      numberOf b = some (p.1.val + 1) ∧ windowOf w = some p.2 ∧ Spells bs rest ps := by
  simp only [Spells, List.map_cons, List.cons.injEq]
  tauto

theorem pairWindows_cons {ws : Vector (Option BandWindow) 6} {b w : Text} {bs rest : List Text} {i : Band}
    {x : BandWindow} (band : numberOf b = some (i.val + 1)) (window : windowOf w = some x)
    (free : ws.get i = none) :
    pairWindows ws (b :: bs) (w :: rest) = pairWindows (ws.set i.val (some x) i.isLt) bs rest := by
  rw [pairWindows, bandRead_iff.mpr band, window]
  exact if_neg (by simp [free])

/-- Pairs of distinct free bands are written, and no other band is. -/
theorem pairWindows_written {ps : List (Band × BandWindow)} {bs rest : List Text}
    {ws : Vector (Option BandWindow) 6} (spells : Spells bs rest ps) (nodup : (ps.map fun p => p.1).Nodup)
    (free : ∀ p ∈ ps, ws.get p.1 = none) :
    ∃ ws', pairWindows ws bs rest = some ws' ∧ (∀ p ∈ ps, ws'.get p.1 = some p.2) ∧
      ∀ b, (∀ p ∈ ps, p.1 ≠ b) → ws'.get b = ws.get b := by
  induction ps generalizing bs rest ws with
  | nil =>
    obtain ⟨bands, windows⟩ := spells
    obtain rfl := List.map_eq_nil_iff.mp bands
    obtain rfl := List.map_eq_nil_iff.mp windows
    exact ⟨ws, rfl, nofun, fun _ _ => rfl⟩
  | cons p ps ih =>
    obtain ⟨bands, windows⟩ := spells
    obtain ⟨b, bs, rfl, -, -⟩ := List.map_eq_cons_iff.mp bands
    obtain ⟨w, rest, rfl, -, -⟩ := List.map_eq_cons_iff.mp windows
    obtain ⟨band, window, spells⟩ := spells_cons.mp ⟨bands, windows⟩
    obtain ⟨new, nodup⟩ := List.nodup_cons.mp nodup
    have apart (q) (hq : q ∈ ps) : p.1 ≠ q.1 := fun e =>
      new (List.mem_map.mpr ⟨q, hq, e.symm⟩)
    obtain ⟨ws', paired, written, others⟩ := ih (ws := ws.set p.1.val (some p.2) p.1.isLt) spells nodup
      fun q hq => by rw [get_set_ne _ _ _ _ (apart q hq), free q (List.mem_cons_of_mem _ hq)]
    refine ⟨ws', by rw [pairWindows_cons band window (free p List.mem_cons_self), paired], ?_, fun c other => ?_⟩
    · refine List.forall_mem_cons.mpr ⟨?_, written⟩
      rw [others p.1 fun q hq => (apart q hq).symm, get_set_self]
    · obtain ⟨ne, other⟩ := List.forall_mem_cons.mp other
      rw [others c other, get_set_ne _ _ _ _ ne]

/-- A pairing that succeeds has read every item, and named no band twice. -/
theorem pairWindows_read {bs rest : List Text} {ws ws' : Vector (Option BandWindow) 6}
    (paired : pairWindows ws bs rest = some ws') :
    ∃ ps, Spells bs rest ps ∧ (ps.map fun p => p.1).Nodup ∧ ∀ p ∈ ps, ws.get p.1 = none := by
  induction bs generalizing rest ws with
  | nil =>
    cases rest with
    | nil => exact ⟨[], ⟨rfl, rfl⟩, List.nodup_nil, nofun⟩
    | cons w rest => cases paired
  | cons b bs ih =>
    cases rest with
    | nil => cases paired
    | cons w rest =>
      unfold pairWindows at paired
      split at paired
      · rename_i i x band window
        split at paired
        · cases paired
        · rename_i taken
          have free : ws.get i = none := by simpa using taken
          obtain ⟨ps, spells, nodup, frees⟩ := ih paired
          have apart (q) (hq : q ∈ ps) : i ≠ q.1 := by
            rintro rfl
            have set := frees q hq
            rw [get_set_self] at set
            cases set
          refine ⟨(i, x) :: ps, spells_cons.mpr ⟨bandRead_iff.mp band, window, spells⟩,
            List.nodup_cons.mpr ⟨fun mem => ?_, nodup⟩, List.forall_mem_cons.mpr ⟨free, fun q hq => ?_⟩⟩
          · obtain ⟨q, hq, e⟩ := List.mem_map.mp mem
            exact apart q hq e.symm
          · rw [← frees q hq, get_set_ne _ _ _ _ (apart q hq)]
      · cases paired

/-- The bands that the lists spell are one way only. -/
theorem spells_bands {bs rest : List Text} {ps qs : List (Band × BandWindow)} (h : Spells bs rest ps)
    (h' : Spells bs rest qs) : (ps.map fun p => p.1) = qs.map fun p => p.1 := by
  have injective : Function.Injective fun b : Band => some (b.val + 1) := fun b c e =>
    Fin.ext (Nat.succ.inj (Option.some.inj e))
  refine List.map_injective_iff.mpr injective ?_
  rw [List.map_map, List.map_map]
  exact h.1.symm.trans h'.1

theorem pairWindows_repeated {bs rest : List Text} {ps : List (Band × BandWindow)}
    (spells : Spells bs rest ps) (twice : ¬ (ps.map fun p => p.1).Nodup)
    (ws : Vector (Option BandWindow) 6) : pairWindows ws bs rest = none := by
  refine Option.eq_none_iff_forall_ne_some.mpr fun ws' paired => ?_
  obtain ⟨qs, spells', nodup, -⟩ := pairWindows_read paired
  exact twice (spells_bands spells spells' ▸ nodup)

/-- Each test of the two lists that fails leaves the row without its windows. -/
theorem pairWindows_bad {bs rest : List Text}
    (bad : (∃ t ∈ bs, ∀ b : Band, numberOf t ≠ some (b.val + 1)) ∨ (∃ t ∈ rest, windowOf t = none) ∨
      bs.length ≠ rest.length) (ws : Vector (Option BandWindow) 6) : pairWindows ws bs rest = none := by
  refine Option.eq_none_iff_forall_ne_some.mpr fun ws' paired => ?_
  obtain ⟨ps, ⟨bands, windows⟩, -, -⟩ := pairWindows_read paired
  obtain ⟨t, mem, unread⟩ | ⟨t, mem, unread⟩ | lengths := bad
  · have read := List.mem_map_of_mem (f := numberOf) mem
    rw [bands] at read
    obtain ⟨p, -, e⟩ := List.mem_map.mp read
    exact unread p.1 e.symm
  · have read := List.mem_map_of_mem (f := windowOf) mem
    rw [windows, unread] at read
    simp at read
  · have lengthB := congrArg List.length bands
    have lengthW := congrArg List.length windows
    simp only [List.length_map] at lengthB lengthW
    exact lengths (lengthB.trans lengthW.symm)

/-! ## The tests of a row (R45) -/

section
variable {l : Line} {body : Text} {fs : List LineField} {i : SignatureId}

theorem readRow_tooLong (long : l.overLength = true) : readRow l = none := by
  rw [readRow, if_pos long]

theorem readRow_unchecked (unchecked : ∀ body, lineBody l ≠ some body) : readRow l = none := by
  rw [readRow, Option.eq_none_iff_forall_ne_some.mpr unchecked]
  split <;> rfl

theorem readRow_body (fits : l.overLength = false) (checked : lineBody l = some body) :
    readRow l = if firstWord body = ascii "SIG" then (lineFields body).bind rowOf else none := by
  rw [readRow, if_neg (by simp [fits]), checked]
  simp only [beq_iff_eq]

theorem index_read (index : numberIn fs "index" = some i.val) :
    (numberIn fs "index").bind signatureOf = some i := by
  rw [index]
  exact signatureOf_iff.mpr rfl

theorem rowOf_noIndex (noIndex : ∀ i : SignatureId, numberIn fs "index" ≠ some i.val) : rowOf fs = none := by
  have unread : (numberIn fs "index").bind signatureOf = none := by
    refine Option.eq_none_iff_forall_ne_some.mpr fun i read => ?_
    obtain ⟨n, number, is⟩ := Option.bind_eq_some_iff.mp read
    exact noIndex i (number.trans (congrArg some (signatureOf_iff.mp is)))
  rw [rowOf, unread]

theorem rowOf_badValid {v : Text} (valid : valueOf fs "valid" = some v) (yes : v ≠ ascii "yes")
    (no : v ≠ ascii "no") : rowOf fs = none := by
  have unread : boolOf "yes" "no" v = none := by
    rw [boolOf, if_neg (by simpa using yes), if_neg (by simpa using no)]
  rw [rowOf, optionalIn, valid]
  dsimp only
  rw [unread]
  cases (numberIn fs "index").bind signatureOf with
  | none => rfl
  | some i => rfl

/-- An invalidating row. -/
theorem rowOf_no (index : numberIn fs "index" = some i.val) (valid : valueOf fs "valid" = some (ascii "no")) :
    rowOf fs = if namesFit fs ["index", "valid"] [] = true then some { index := i, entry := none } else none := by
  have read : boolOf "yes" "no" (ascii "no") = some false := boolOf_iff.mpr rfl
  rw [rowOf, index_read index, optionalIn, valid]
  dsimp only
  rw [read]
  rfl

/-- A full row. -/
theorem rowOf_full (index : numberIn fs "index" = some i.val)
    (valid : valueOf fs "valid" = none ∨ valueOf fs "valid" = some (ascii "yes")) :
    rowOf fs = if namesFit fs ["index", "class", "invert"] ["valid", "bands", "windows"] = true then
        (fullEntry fs).map fun e => { index := i, entry := some e }
      else none := by
  have read : boolOf "yes" "no" (ascii "yes") = some true := boolOf_iff.mpr rfl
  obtain valid | valid := valid
  · rw [rowOf, index_read index, optionalIn, valid]
  · rw [rowOf, index_read index, optionalIn, valid]
    dsimp only
    rw [read]
    rfl

theorem fullEntry_noClass (bad : ∀ c, valueOf fs "class" ≠ some (ascii (gasWord c))) : fullEntry fs = none := by
  have unread : (valueOf fs "class").bind (wordOf gases gasWord) = none :=
    Option.eq_none_iff_forall_ne_some.mpr fun c read => bad c (gasRead_iff.mp read)
  rw [fullEntry, unread]

theorem fullEntry_noInvert (bad : ∀ inv, valueOf fs "invert" ≠ some (yesNo inv)) : fullEntry fs = none := by
  have unread : (valueOf fs "invert").bind (boolOf "yes" "no") = none :=
    Option.eq_none_iff_forall_ne_some.mpr fun b read => bad b (boolRead_iff.mp read)
  unfold fullEntry
  split
  · rename_i invert
    rw [unread] at invert
    cases invert
  · rfl

theorem fullEntry_noWindows
    (bad : pairWindows (Vector.replicate 6 none) (itemsIn fs "bands") (itemsIn fs "windows") = none) :
    fullEntry fs = none := by
  unfold fullEntry
  split
  · rename_i windows _
    rw [bad] at windows
    cases windows
  · rfl

theorem fullEntry_read {c : GasClass} {inv : Bool} {ws : Vector (Option BandWindow) 6}
    (cls : valueOf fs "class" = some (ascii (gasWord c)))
    (windows : pairWindows (Vector.replicate 6 none) (itemsIn fs "bands") (itemsIn fs "windows") = some ws)
    (invert : valueOf fs "invert" = some (yesNo inv)) :
    fullEntry fs = some { cls := c, windows := ws, invert := inv } := by
  rw [fullEntry, gasRead_iff.mpr cls, windows, boolRead_iff.mpr invert]

end

/-- The tests of a full row, each of which makes it invalid, and what a row that passes them gives. -/
theorem rowOf_tests {fs : List LineField} {i : SignatureId} (index : numberIn fs "index" = some i.val)
    {fits : Bool} (valid : valueOf fs "valid" = none ∨ valueOf fs "valid" = some (ascii "yes"))
    (names : fits = namesFit fs ["index", "class", "invert"] ["valid", "bands", "windows"]) :
    (fits = false → rowOf fs = none) ∧
    ((∀ c, valueOf fs "class" ≠ some (ascii (gasWord c))) → rowOf fs = none) ∧
    ((∀ inv, valueOf fs "invert" ≠ some (yesNo inv)) → rowOf fs = none) ∧
    ((∃ t ∈ itemsIn fs "bands", ∀ b : Band, numberOf t ≠ some (b.val + 1)) → rowOf fs = none) ∧
    ((∃ t ∈ itemsIn fs "windows", windowOf t = none) → rowOf fs = none) ∧
    ((itemsIn fs "bands").length ≠ (itemsIn fs "windows").length → rowOf fs = none) ∧
    ∀ (c : GasClass) (inv : Bool) (ps : List (Band × BandWindow)),
      valueOf fs "class" = some (ascii (gasWord c)) → valueOf fs "invert" = some (yesNo inv) →
      Spells (itemsIn fs "bands") (itemsIn fs "windows") ps →
      (¬ (ps.map fun p => p.1).Nodup → rowOf fs = none) ∧
      (fits = true → (ps.map fun p => p.1).Nodup →
        ∃ ws : Vector (Option BandWindow) 6,
          (∀ p ∈ ps, ws.get p.1 = some p.2) ∧ (∀ b, (∀ p ∈ ps, p.1 ≠ b) → ws.get b = none) ∧
          rowOf fs = some { index := i, entry := some { cls := c, windows := ws, invert := inv } }) := by
  have row := rowOf_full index valid
  rw [← names] at row
  have noEntry (absent : fullEntry fs = none) : rowOf fs = none := by
    rw [row, absent]
    exact ite_self _
  have noWindows (bad) : rowOf fs = none := noEntry (fullEntry_noWindows (pairWindows_bad bad _))
  refine ⟨fun unfit => by rw [row, if_neg (by simp [unfit])], fun bad => noEntry (fullEntry_noClass bad),
    fun bad => noEntry (fullEntry_noInvert bad), fun bad => noWindows (.inl bad),
    fun bad => noWindows (.inr (.inl bad)), fun bad => noWindows (.inr (.inr bad)),
    fun c inv ps cls invert spells => ⟨fun twice => ?_, fun fit nodup => ?_⟩⟩
  · exact noEntry (fullEntry_noWindows (pairWindows_repeated spells twice _))
  · have empty (b : Band) : (Vector.replicate 6 (none : Option BandWindow)).get b = none :=
      Vector.getElem_replicate b.isLt
    obtain ⟨ws, paired, written, others⟩ := pairWindows_written spells nodup fun p _ => empty p.1
    refine ⟨ws, written, fun b other => (others b other).trans (empty b), ?_⟩
    rw [row, if_pos fit, fullEntry_read cls paired invert]
    rfl

/-! ## Completed lines (R182, R186, R187) -/

section
variable {s : State}

theorem exec_sigRow (runs : s.resetPin = false) (row : Line) :
    exec (.sigRow row) s = .next (s.receive row).afterEvent :=
  congrArg Host.Outcome.next (event_eq runs _)

theorem receive_waiting (waits : (∃ q, s.link.state = .held q) ∨ ∃ k, s.link.state = .resetting k)
    (row : Line) : s.receive row = s.bufferLine row := by
  obtain ⟨q, state⟩ | ⟨k, state⟩ := waits
  · rw [State.receive, state]
  · rw [State.receive, state]

/-- A received line without its CR characters, from the characters in assembly on. -/
theorem completeLine_eq {received : List RxChar} {chars : List RxChar}
    (short : s.link.assembly.overLength = false)
    (are : chars = s.link.assembly.chars ++ received.filter (· != .byte chCR)) {u : State}
    (taken : u = { s with link := { s.link with assembly := { chars := [], overLength := false } } }) :
    completeLine received s = if chars = [] then u
      else u.receive { chars := chars.take 400, overLength := 400 < chars.length } := by
  subst are taken
  unfold completeLine assembled
  rw [short]
  simp only [List.isEmpty_iff, Bool.false_or]
  rfl

/-- A command row outside READY is its line completed there (log 4). -/
theorem exec_rowFor_waiting (c : Command) (waits : s.link.state ≠ .ready) :
    exec (rowFor c) s = exec (.sigRow (commandLine c)) s := by
  have row : exec (rowFor c) s = .next (event (submit c) s) := by cases c <;> rfl
  have line : submit c s = s.receive (commandLine c) := by
    unfold submit
    split
    · rename_i ready
      exact absurd ready waits
    · rfl
  rw [row, event, line]
  rfl

/-! ## The rows of a load (R45, R46) -/

/-- The load after one row. -/
def loadAfter (l : Load) (row : Option RowEntry) : Load where
  expected := l.expected - 1
  badRow := l.badRow || row.isNone
  lastRow := if l.badRow = true then l.lastRow else (row.map fun e => some e.index).getD l.lastRow

/-- The table after one row. -/
def tableAfter (t : Vector (Option Signature) 16) (l : Load) (row : Option RowEntry) :
    Vector (Option Signature) 16 :=
  if l.badRow = true then t else (row.map fun e => t.set e.index.val e.entry e.index.isLt).getD t

theorem takeRow_eq (s : State) (l : Load) (row : Option RowEntry) :
    s.takeRow l row =
      if l.expected - 1 = 0 then
        { s with
          classifier := { s.classifier with table := tableAfter s.classifier.table l row }
          link := { s.link with
            state := .ready
            sent := s.link.sent ++ [loadReply (loadAfter l row)] } }
      else
        { s with
          classifier := { s.classifier with table := tableAfter s.classifier.table l row }
          link := { s.link with state := .loading (loadAfter l row) } } := by
  obtain ⟨expected, badRow, lastRow⟩ := l
  cases badRow with
  | true => rfl
  | false =>
    cases row with
    | none => rfl
    | some e => rfl

theorem loadReply_eq (l : Load) :
    loadReply l = sealLine ((if l.badRow then ascii "NO LOAD-SIGNATURES reason=BAD_ROW"
        else ascii "OK LOAD-SIGNATURES") ++
      field "last" (match l.lastRow with
        | some i => numText i.val
        | none => ascii "none")) := by
  have refused : ascii "NO LOAD-SIGNATURES" ++ field "reason" (ascii (reasonWord .badRow)) =
      ascii "NO LOAD-SIGNATURES reason=BAD_ROW" := by decide
  unfold loadReply
  rw [refused, okLine_eq]
  cases l.badRow with
  | true => rfl
  | false => rfl

theorem exec_sigRow_loading (runs : s.resetPin = false) {l : Load} (state : s.link.state = .loading l)
    (row : Line) : exec (.sigRow row) s = .next (s.takeRow l (readRow row)).afterEvent := by
  rw [exec_sigRow runs, State.receive, state]

/-- What a row does to an open load. -/
theorem sigRow_loading (runs : s.resetPin = false) {l : Load} (state : s.link.state = .loading l)
    (row : Line) :
    (1 < l.expected → exec (.sigRow row) s = .next ({ s with
        classifier := { s.classifier with table := tableAfter s.classifier.table l (readRow row) }
        link := { s.link with state := .loading (loadAfter l (readRow row)) } } : State).afterEvent) ∧
      (l.expected = 1 → exec (.sigRow row) s = .next ({ s with
        classifier := { s.classifier with table := tableAfter s.classifier.table l (readRow row) }
        link := { s.link with
          state := .ready
          sent := s.link.sent ++ [loadReply (loadAfter l (readRow row))] } } : State).afterEvent) := by
  rw [exec_sigRow_loading runs state, takeRow_eq]
  refine ⟨fun more => ?_, fun last => ?_⟩
  · rw [if_neg (by omega)]
  · rw [if_pos (by omega)]

end

/-- Settles O14: the interface's states, the tests of a row, and the rows of a load. -/
theorem rowsAndWaitingLinesAreTaken : Obligations.RowsAndWaitingLinesAreTaken := by
  unfold Obligations.RowsAndWaitingLinesAreTaken
  refine ⟨?_, ⟨?_, fun s c waits => exec_rowFor_waiting c waits⟩, ⟨windowOf_iff, ?_⟩, ?_⟩
  · intro s row runs waits
    rw [exec_sigRow runs, receive_waiting waits]
    refine ⟨fun free => ?_, fun kept held => ?_⟩
    · rw [State.bufferLine, free]
    · rw [State.bufferLine, held]
      rfl
  · intro s received runs short
    refine ⟨_, rfl, fun chars are => ?_⟩
    have taken : exec (.lineCompleted received) s = .next (completeLine received s).afterEvent :=
      congrArg Host.Outcome.next (event_eq runs _)
    rw [completeLine_eq short are rfl] at taken
    refine ⟨fun empty => ?_, fun some => ?_⟩
    · rw [taken, if_pos empty]
    · rw [taken, if_neg some, exec_sigRow (by exact runs)]
  · intro l
    refine ⟨readRow_tooLong, readRow_unchecked, fun body fits checked => ?_⟩
    have read := readRow_body fits checked
    refine ⟨fun other => by rw [read, if_neg other], fun unread => ?_, fun fs sig fields => ?_⟩
    · rw [read, Option.eq_none_iff_forall_ne_some.mpr unread]
      exact ite_self _
    · rw [if_pos sig, fields, Option.bind_some] at read
      rw [read]
      refine ⟨rowOf_noIndex, fun v => rowOf_badValid, fun i index => ⟨fun no => ?_, fun fits valid names => ?_⟩⟩
      · rw [rowOf_no index no]
        exact ⟨fun fit => if_pos fit, fun unfit => if_neg (by simp [unfit])⟩
      · obtain ⟨unfit, cls, invert, bands, windows, lengths, full⟩ := rowOf_tests index valid names
        exact ⟨unfit, cls, invert, bands, windows, lengths, fun c inv ps isClass isInvert areBands areWindows =>
          full c inv ps isClass isInvert ⟨areBands, areWindows⟩⟩
  · intro s row l runs state
    obtain ⟨more, last⟩ := sigRow_loading runs state row
    refine ⟨tableAfter s.classifier.table l (readRow row), loadAfter l (readRow row), rfl, fun bad => ?_,
      fun good none => ?_, fun e good read => ?_, more, fun ends => ?_⟩
    · simp [tableAfter, loadAfter, bad]
    · simp [tableAfter, loadAfter, good, none]
    · simp [tableAfter, loadAfter, good, read]
    · rw [last ends, loadReply_eq] <;> rfl

end Sys2Proof.Proofs

/-!
PROOFS. Family 03: what passes with time (O2).
-/

namespace Sys2Proof.Proofs

open Sys2Proof Sys2Proof.Machine Sys2Proof.Laws

section
variable {s : State}

/-! ## What passes with time (R60, R140) -/

theorem clockRuns_iff (s : State) (i : StationId) : s.clockRuns i = true ↔
    (s.station i).phase = .evacuate ∧ (s.station i).suspended = false ∧
      (s.station i).awaitingVessel = false ∧ s.control.line ≠ .halted := by
  simp [State.clockRuns, State.halted, and_assoc]

/-- A station once time has passed. -/
def stationAfter (dt : Moment) (s : State) (i : StationId) : Station :=
  { s.station i with clock := (s.station i).clock + if s.clockRuns i then dt else 0 }

/-- A bank once time has passed. -/
def bankAfter (dt : Moment) (s : State) (bk : BankId) : Bank :=
  { s.bank bk with
    condensingTime := (s.bank bk).condensingTime + if (s.bank bk).state = .condensing then dt else 0 }

theorem tickStation_eq (dt : Moment) (s : State) (i : StationId) :
    s.tickStation dt i = s.setStation i (stationAfter dt s i) := by
  unfold State.tickStation stationAfter
  split
  · rfl
  · exact (setStation_station s i).symm

theorem tickBank_eq (dt : Moment) (s : State) (bk : BankId) :
    s.tickBank dt bk = s.setBank bk (bankAfter dt s bk) := by
  simp only [State.tickBank, bankAfter, beq_iff_eq]
  split
  · rfl
  · cases bk <;> rfl

theorem stationAfter_congr {t : State} {i : StationId} (control : t.control = s.control)
    (station : t.station i = s.station i) (dt : Moment) : stationAfter dt t i = stationAfter dt s i := by
  rw [stationAfter, State.clockRuns, State.halted, control, station]
  rfl

/-- A vector of stations is what it gives at each station. -/
theorem stations_ext {v w : Vector Station 8} (same : ∀ i : StationId, v.get i = w.get i) : v = w :=
  Vector.ext fun j lt => same ⟨j, lt⟩

theorem forAll_tickStation (dt : Moment) (s : State) :
    forAll stationIds s (State.tickStation dt) =
      { s with stations := Vector.ofFn (stationAfter dt s) } := by
  obtain ⟨rest, all, -⟩ := forAll_each (f := State.tickStation dt)
    (Inv := fun t => t = { s with stations := t.stations })
    (Before := fun i t => t.station i = s.station i)
    (After := fun i t => t.station i = stationAfter dt s i)
    (fun t i rest before => by
      rw [tickStation_eq, station_setStation, stationAfter_congr (by rw [rest]) before]
      exact ⟨by rw [rest]; rfl, rfl⟩)
    (fun t i j _ _ ne before => by rw [tickStation_eq, station_setStation_ne _ _ _ _ ne.symm, before])
    (fun t i j _ _ ne after => by rw [tickStation_eq, station_setStation_ne _ _ _ _ ne.symm, after])
    stationIds (by decide) s rfl fun _ _ => rfl
  generalize forAll stationIds s (State.tickStation dt) = t at rest all ⊢
  have stations : t.stations = Vector.ofFn (stationAfter dt s) :=
    stations_ext fun i => (all i (mem_stationIds i)).trans (Vector.get_ofFn ..).symm
  rw [rest, stations]

/-- Time passes at the moment, at each station and at each bank, and nowhere else. -/
theorem advance_eq (s : State) (dt : Moment) : s.advance dt = { s with
    now := s.now + dt
    stations := Vector.ofFn (stationAfter dt s)
    condenser := { s.condenser with bankA := bankAfter dt s .a, bankB := bankAfter dt s .b } } := by
  unfold State.advance
  dsimp only
  rw [forAll_tickStation, bankIds, forAll_cons, forAll_cons, forAll_nil, tickBank_eq, tickBank_eq]
  rfl

theorem station_advance_eq (s : State) (dt : Moment) (i : StationId) :
    (s.advance dt).station i = stationAfter dt s i := by
  rw [advance_eq]
  exact Vector.get_ofFn ..

end

/-- Settles O2: the step on an empty queue by cases of the RESET pin, and `advance_eq`. -/
theorem emptyQueueLetsTimePass : Obligations.EmptyQueueLetsTimePass := by
  unfold Obligations.EmptyQueueLetsTimePass
  intro s
  have idles (empty : s.pending = []) : step s = .next s.idle := by rw [step, empty]
  refine ⟨fun empty runs => ?_, fun empty held => ?_, fun dt => ?_⟩
  · rw [idles empty, State.idle, runs]
    rfl
  · rw [idles empty, State.idle, held]
    rfl
  · refine ⟨_, bankAfter dt s, advance_eq s dt, fun i => ?_, fun bk => rfl⟩
    rw [Vector.get_ofFn]
    simp only [stationAfter, clockRuns_iff]

end Sys2Proof.Proofs

/-!
PROOFS. Family 03: the expiries of a station (O32), RELEASE and RETIRE (O33) and RESUME (O34).
-/

namespace Sys2Proof.Proofs

open Sys2Proof Sys2Proof.Machine Sys2Proof.Laws

section
variable {s : State} {i : StationId}

/-! ## The expiries (R60, R66) -/

theorem exec_evacOvertime (runs : s.resetPin = false) (i : StationId) :
    exec (.evacOvertime i) s = .next (overtime i s).afterEvent :=
  congrArg Host.Outcome.next (event_eq runs _)

theorem exec_oilDeadline (runs : s.resetPin = false) (i : StationId) :
    exec (.oilDeadline i) s = .next (oilDeadlinePasses i s).afterEvent :=
  congrArg Host.Outcome.next (event_eq runs _)

theorem overtime_runs {tag : Tag} (counts : s.clockRuns i = true) (unit : (s.station i).unit = some tag) :
    overtime i s =
      ((s.advance (s.control.settings.evacMax * 1000 - (s.station i).clock)).raise .evacOvertime (.station i)
        { first := tag, second := none }).faultStation i (.phase .evacuate) true := by
  have later (dt : Moment) : ((s.advance dt).station i).unit = some tag := by
    rw [station_advance_eq, ← unit]
    rfl
  rw [overtime, if_pos counts, State.evacOvertime, later]
  rfl

theorem overtime_rests (stands : s.clockRuns i = false) : overtime i s = s := by
  rw [overtime, if_neg (by simp [stands])]

theorem onStationUnit_eq {tag : Tag} (unit : (s.station i).unit = some tag) (f : UnitRecord → UnitRecord) :
    s.onStationUnit i f = s.onUnit tag f := by
  rw [State.onStationUnit, unit]

/-- The end of a drain with a latest reading: the oil field, and the close of the drain valve. -/
theorem endDrain_eq {tag : Tag} {ref : Grams} {xs : List OilReading} {x : OilReading}
    (unit : (s.station i).unit = some tag) (reference : (s.station i).oilReference = some ref)
    (readings : (s.station i).oilReadings = xs ++ [x]) :
    s.endDrain i = ((s.onUnit tag fun r => { r with oil := some (x.grams - ref) }).issue .stationController
      (.station i) (.drainValve false)).setStation i { s.station i with
        oilReference := none, oilDeadline := none, oilReadings := []
        drainOrder := some s.orderNumber } := by
  have mass : ((s.station i).oilReadings.getLast?.map (·.grams)).getD 0 - (s.station i).oilReference.getD 0 =
      x.grams - ref := by
    rw [reference, readings, List.getLast?_concat]
    rfl
  unfold State.endDrain
  dsimp only
  rw [mass, onStationUnit_eq unit]
  rfl

theorem oilDeadlinePasses_eq {d : Moment} (phase : (s.station i).phase = .oilDrain)
    (between : (s.station i).nextPhase = none) (on : s.control.line ≠ .halted)
    (deadline : (s.station i).oilDeadline = some d) :
    oilDeadlinePasses i s = (s.advanceTo d).endDrain i := by
  unfold oilDeadlinePasses
  dsimp only
  rw [if_pos (by simp [phase, between, on, Station.atBoundary, State.halted]), deadline, State.expire]

/-- A station outside EVACUATE stands still while time passes. -/
theorem station_advance_of_ne (phase : (s.station i).phase ≠ .evacuate) (dt : Moment) :
    (s.advance dt).station i = s.station i :=
  station_advance_rests (Bool.eq_false_iff.mpr fun counts => phase ((clockRuns_iff s i).mp counts).1) dt

end

/-- Settles O32: the evacuation clock where it counts and where it does not, and the end of the drain. -/
theorem stationExpiriesAct : Obligations.StationExpiriesAct := by
  unfold Obligations.StationExpiriesAct
  refine ⟨fun s i runs => ⟨fun tag phase on served line unit => ?_, fun stands => ?_⟩,
    fun s i tag d ref xs x runs phase between line unit deadline reference readings => ?_⟩
  · rw [exec_evacOvertime runs, overtime_runs ((clockRuns_iff s i).mpr ⟨phase, on, served, line⟩) unit]
  · have stops : s.clockRuns i = false := by
      rw [Bool.eq_false_iff, ne_eq, clockRuns_iff]
      rintro ⟨phase, on, served, line⟩
      simp [phase, on, served, line] at stands
    rw [exec_evacOvertime runs, overtime_rests stops]
  · refine ⟨_, _, rfl, rfl, ?_⟩
    have still : (s.advanceTo d).station i = s.station i := station_advance_of_ne (by simp [phase]) _
    rw [exec_oilDeadline runs, oilDeadlinePasses_eq phase between line deadline]
    generalize s.advanceTo d = u at still ⊢
    rw [← still] at unit reference readings ⊢
    rw [endDrain_eq unit reference readings]
    rfl

section
variable {s : State} {i : StationId}

/-! ## RELEASE and RETIRE (R70, R72) -/

theorem unclamp_eq (s : State) (i : StationId) :
    s.unclamp i = (s.issue .stationController (.station i) .unclamp).setStation i
      { s.station i with unit := none, unclamping := true, workOrder := some s.orderNumber } := rfl

theorem doRelease_accepted {station : Nat} {tag : Tag} (at_ : stationOf station = some i)
    (heard : (s.node (.station i)).silent = false) (phase : (s.station i).phase = .done)
    (unit : (s.station i).unit = some tag) (room : s.chamber.feed.length < 6) :
    doRelease station s =
      ((((s.joinFeed tag).onUnit tag fun r => { r with place := some .queued, station := none }).unclamp
        i).testChamber).send [okLine .release
          (field "station" (stationText i) ++ field "tag" (numText tag))] := by
  have size : Config.feedSize = 6 := rfl
  simp [doRelease, at_, unit, phase, State.isSilent, heard, size, Nat.not_le.mpr room]

theorem retireBlocked_false (phase : (s.station i).phase = .faulted ∨
      (s.station i).phase = .done ∧ (s.station i).unit ≠ none)
    (free : (s.station i).unclamping = false) (train : (s.station i).train = none)
    (secured : (s.station i).unsecured = []) : (s.station i).retireBlocked = false := by
  obtain phase | ⟨phase, unit⟩ := phase
  · simp [Station.retireBlocked, Station.isSecured, phase, free, train, secured]
  · simp [Station.retireBlocked, Station.isSecured, phase, Option.isSome_iff_ne_none.mpr unit, free, train, secured]

theorem doRetire_held {station : Nat} {tag : Tag} (at_ : stationOf station = some i)
    (heard : (s.node (.station i)).silent = false) (allowed : (s.station i).retireBlocked = false)
    (unit : (s.station i).unit = some tag) :
    doRetire station s = ((s.closeUnit tag .retired).unclamp i).send
      [okLine .retire (field "station" (stationText i) ++ field "tag" (numText tag))] := by
  simp [doRetire, at_, allowed, State.isSilent, heard, unit]

theorem doRetire_bare {station : Nat} (at_ : stationOf station = some i)
    (heard : (s.node (.station i)).silent = false) (allowed : (s.station i).retireBlocked = false)
    (unit : (s.station i).unit = none) :
    doRetire station s = (s.unclamp i).send [okLine .retire (field "station" (stationText i))] := by
  simp [doRetire, at_, allowed, State.isSilent, heard, unit]

theorem unclamp_bare (unit : (s.station i).unit = none) :
    s.unclamp i = (s.issue .stationController (.station i) .unclamp).setStation i
      { s.station i with unclamping := true, workOrder := some s.orderNumber } := by
  rw [unclamp_eq, ← unit]

end

/-- Settles O33: no refusal of R70 or R72 applies, and what is left is the UNCLAMP. -/
theorem releaseAndRetireUnclamp : Obligations.ReleaseAndRetireUnclamp := by
  unfold Obligations.ReleaseAndRetireUnclamp
  intro s station i takes at_ heard
  have number := stationOf_some at_
  have releases : exec (.release station) s = .next (doRelease station s).afterEvent :=
    exec_rowFor (.release station) s takes
  have retires : exec (.retire station) s = .next (doRetire station s).afterEvent :=
    exec_rowFor (.retire station) s takes
  refine ⟨fun tag phase unit room => ⟨_, _, rfl, rfl, ?_⟩,
    fun tag phase free train secured unit => ⟨_, _, rfl, rfl, ?_⟩,
    fun phase free train secured unit => ?_⟩
  · rw [doRelease_accepted at_ heard phase unit room, unclamp_eq] at releases
    rw [number] at releases ⊢
    exact releases
  · have allowed : (s.station i).retireBlocked = false :=
      retireBlocked_false (phase.symm.imp_right (⟨·, by simp [unit]⟩)) free train secured
    rw [doRetire_held at_ heard allowed unit] at retires
    rw [number] at retires ⊢
    exact retires
  · rw [doRetire_bare at_ heard (retireBlocked_false (.inl phase) free train secured) unit,
      unclamp_bare unit] at retires
    rw [number] at retires ⊢
    exact retires

section
variable {s : State} {i : StationId}

/-! ## RESUME (R73) -/

theorem doResume_accepted {station : Nat} {tag : Tag} {p : StationPhase} (at_ : stationOf station = some i)
    (on : s.control.line ≠ .halted) (phase : (s.station i).phase = .faulted)
    (unit : (s.station i).unit = some tag) (train : (s.station i).train = none)
    (secured : (s.station i).unsecured = []) (heard : (s.node (.station i)).silent = false)
    (fault : (s.station i).faultedPhase = some (.phase p)) :
    doResume station s =
      (((s.onUnit tag fun r => { r with faultedPhase := none }).setStation i
        { s.station i with faultedPhase := none }).resumeFrom i p).send
          [okLine .resume (field "station" (stationText i))] := by
  have written := onStationUnit_eq (s := s) unit fun r => { r with faultedPhase := none }
  have allowed : (s.station i).resumeBlocked = false := by
    simp [Station.resumeBlocked, Station.isSecured, phase, unit, train, secured]
  have line : s.halted = false := by simpa [State.halted] using on
  unfold doResume
  rw [at_]
  dsimp only
  rw [line, allowed, State.isSilent, heard, fault, written]
  rfl

theorem enterPhase_eq (s : State) (i : StationId) (p : StationPhase) : s.enterPhase i p =
    (s.setStation i { s.station i with phase := p, nextPhase := none }).watchEntry (i.val + 1)
      (s.station i).unit (stationPhaseName p) := rfl

end

/-- Settles O34: no refusal of R73 applies, and `resumeFrom` goes by the faulted phase. -/
theorem resumePlacesTheStation : Obligations.ResumePlacesTheStation := by
  unfold Obligations.ResumePlacesTheStation
  intro s station i tag p takes at_ on phase unit train secured heard fault _ _
  have resumes : exec (.resume station) s = .next (doResume station s).afterEvent :=
    exec_rowFor (.resume station) s takes
  rw [doResume_accepted at_ on phase unit train secured heard fault] at resumes
  generalize made : (s.onUnit tag fun r => { r with faultedPhase := none }).setStation i
    { s.station i with faultedPhase := none } = u at resumes
  have held : (u.station i).unit = some tag := by rw [← made, station_setStation, ← unit]
  refine ⟨u, u.resumeFrom i p, rfl, ?_, ?_, ?_, ?_, ?_, ?_, ?_, ?_⟩
  · rintro rfl
    exact ⟨_, rfl, enterClamping_eq u _ i (by rw [held]; rfl)⟩
  · rintro (rfl | rfl)
    all_goals rw [← held]; rfl
  · rintro (rfl | rfl)
    all_goals rfl
  · rintro (rfl | rfl)
    all_goals rfl
  · rintro rfl
    rfl
  · rintro rfl
    rfl
  · rintro rfl
    rw [← held]
    rfl
  · rw [resumes, stationOf_some at_]
    rfl

end Sys2Proof.Proofs

/-!
PROOFS. Family 03: the watch hit and the line stop (O58).
-/

namespace Sys2Proof.Proofs

open Sys2Proof Sys2Proof.Machine Sys2Proof.Laws

/-! ## The stop of a station and of a train (R74, R88) -/

/-- What a line stop leaves of a station, with its order among those of the field loop. -/
def StationStopped (i : StationId) (orders : List Order) (x y : Station) : Prop :=
  (x.phase ≠ .evacuate → y = x) ∧
    (x.phase = .evacuate → ∃ n,
      y = { x with
        suspended := true
        evacValve := if x.evacValve = .opening ∨ x.evacValve = .opened then .closing else x.evacValve
        evacOrder := if x.evacValve = .opening ∨ x.evacValve = .opened then some n else x.evacOrder } ∧
      (x.evacValve = .opening ∨ x.evacValve = .opened →
        ∃ o ∈ orders, o.node = .station i ∧ o.number = n ∧ o.kind = .evacValve false))

/-- What a line stop leaves of a train, with its order among those of the field loop. -/
def TrainStopped (k : TrainId) (orders : List Order) (x y : Train) : Prop :=
  (x.state ≠ .drawing → y = x) ∧
    (x.state = .drawing → y = { x with state := .paused } ∧
      ∃ o ∈ orders, o.node = .train k ∧ o.kind = .compressorStop)

section
variable {i : StationId} {k : TrainId} {orders later : List Order}

theorem StationStopped.mono {x y : Station} (h : StationStopped i orders x y) (more : orders ⊆ later) :
    StationStopped i later x y := by
  refine ⟨h.1, fun phase => ?_⟩
  obtain ⟨n, left, closes⟩ := h.2 phase
  exact ⟨n, left, fun open_ => (closes open_).imp fun o ⟨mem, is⟩ => ⟨more mem, is⟩⟩

theorem TrainStopped.mono {x y : Train} (h : TrainStopped k orders x y) (more : orders ⊆ later) :
    TrainStopped k later x y := by
  refine ⟨h.1, fun draws => ?_⟩
  obtain ⟨left, o, mem, is⟩ := h.2 draws
  exact ⟨left, o, more mem, is⟩

end

section
variable {s : State}

theorem stopStation_rests {i : StationId} (phase : (s.station i).phase ≠ .evacuate) : s.stopStation i = s := by
  rw [State.stopStation, if_neg (by simpa using phase)]

theorem closeEvac_unshut {i : StationId}
    (unshut : (s.station i).evacValve = .opening ∨ (s.station i).evacValve = .opened) :
    s.closeEvac i = (s.issue .stationController (.station i) (.evacValve false)).setStation i
      { s.station i with evacValve := .closing, evacOrder := some s.orderNumber } := by
  unfold State.closeEvac
  obtain valve | valve := unshut
  all_goals
    rw [valve]
    rfl

theorem closeEvac_shut {i : StationId}
    (shut : ¬ ((s.station i).evacValve = .opening ∨ (s.station i).evacValve = .opened)) :
    s.closeEvac i = s := by
  unfold State.closeEvac
  split
  · exact absurd (.inl ‹_›) shut
  · exact absurd (.inr ‹_›) shut
  · rfl

theorem stopStation_suspends {i : StationId} (phase : (s.station i).phase = .evacuate) :
    s.stopStation i = (s.setStation i { s.station i with suspended := true }).closeEvac i := by
  rw [State.stopStation, if_pos (by simpa using phase)]
  rfl

theorem station_stopStation (s : State) (i : StationId) :
    StationStopped i (s.stopStation i).loop.orders (s.station i) ((s.stopStation i).station i) ∧
      s.loop.orders ⊆ (s.stopStation i).loop.orders := by
  by_cases phase : (s.station i).phase = .evacuate
  · rw [stopStation_suspends phase]
    by_cases unshut : (s.station i).evacValve = .opening ∨ (s.station i).evacValve = .opened
    · rw [closeEvac_unshut (by rwa [station_setStation]), station_setStation, station_setStation]
      refine ⟨⟨fun ne => absurd phase ne, fun _ => ⟨_, ?_, fun _ => ⟨_, issued_mem .., rfl, rfl, rfl⟩⟩⟩,
        List.subset_append_left _ _⟩
      simp [unshut]
    · rw [closeEvac_shut (by rwa [station_setStation]), station_setStation]
      refine ⟨⟨fun ne => absurd phase ne, fun _ => ⟨0, ?_, fun open_ => absurd open_ unshut⟩⟩,
        List.Subset.refl _⟩
      simp [unshut]
  · rw [stopStation_rests phase]
    exact ⟨⟨fun _ => rfl, fun e => absurd e phase⟩, List.Subset.refl _⟩

theorem station_stopStation_ne {i j : StationId} (ne : j ≠ i) : (s.stopStation j).station i = s.station i := by
  unfold State.stopStation
  split
  · rw [station_closeEvac_ne _ ne, station_onStation_ne _ _ _ _ ne]
  · rfl

theorem pauseTrain_rests {k : TrainId} (state : (s.train k).state ≠ .drawing) : s.pauseTrain k = s := by
  rw [State.pauseTrain, if_neg (by simpa using state)]

theorem train_pauseTrain (s : State) (k : TrainId) :
    TrainStopped k (s.pauseTrain k).loop.orders (s.train k) ((s.pauseTrain k).train k) ∧
      s.loop.orders ⊆ (s.pauseTrain k).loop.orders := by
  by_cases draws : (s.train k).state = .drawing
  · rw [pauseTrain_drawing draws, train_onTrain]
    exact ⟨⟨fun ne => absurd draws ne, fun _ => ⟨rfl, _, issued_mem .., rfl, rfl⟩⟩,
      List.subset_append_left _ _⟩
  · rw [pauseTrain_rests draws]
    exact ⟨⟨fun _ => rfl, fun e => absurd e draws⟩, List.Subset.refl _⟩

theorem train_pauseTrain_ne {j k : TrainId} (ne : k ≠ j) : (s.pauseTrain j).train k = s.train k := by
  unfold State.pauseTrain
  split
  · exact train_onTrain_ne _ _ _ _ ne.symm
  · rfl

/-! ## The line stop as a whole (R170, R171) -/

theorem forAll_stopStation (s : State) :
    (forAll stationIds s State.stopStation).arbiter = s.arbiter ∧
      ∀ i, StationStopped i (forAll stationIds s State.stopStation).loop.orders (s.station i)
        ((forAll stationIds s State.stopStation).station i) := by
  obtain ⟨arbiter, all, -⟩ := forAll_each (f := State.stopStation)
    (Inv := fun t => t.arbiter = s.arbiter) (Before := fun i t => t.station i = s.station i)
    (After := fun i t => StationStopped i t.loop.orders (s.station i) (t.station i))
    (fun t i same before => ⟨by rw [stopStation_eq, same], before ▸ (station_stopStation t i).1⟩)
    (fun t i j _ _ ne before => (station_stopStation_ne ne.symm).trans before)
    (fun t i j _ _ ne after => (station_stopStation_ne (s := t) ne.symm).symm ▸
      after.mono (station_stopStation t i).2)
    stationIds (by decide) s rfl fun _ _ => rfl
  exact ⟨arbiter, fun i => all i (mem_stationIds i)⟩

theorem forAll_pauseTrain (s : State) :
    ((forAll trainIds s State.pauseTrain).stations = s.stations ∧
      s.loop.orders ⊆ (forAll trainIds s State.pauseTrain).loop.orders) ∧
      ∀ k, TrainStopped k (forAll trainIds s State.pauseTrain).loop.orders (s.train k)
        ((forAll trainIds s State.pauseTrain).train k) := by
  obtain ⟨kept, all, -⟩ := forAll_each (f := State.pauseTrain)
    (Inv := fun t => t.stations = s.stations ∧ s.loop.orders ⊆ t.loop.orders)
    (Before := fun k t => t.train k = s.train k)
    (After := fun k t => TrainStopped k t.loop.orders (s.train k) (t.train k))
    (fun t k ⟨same, grown⟩ before => ⟨⟨by rw [pauseTrain_eq, same],
      List.Subset.trans grown (train_pauseTrain t k).2⟩, before ▸ (train_pauseTrain t k).1⟩)
    (fun t j k _ _ ne before => (train_pauseTrain_ne ne).trans before)
    (fun t j k _ _ ne after => (train_pauseTrain_ne (s := t) ne).symm ▸ after.mono (train_pauseTrain t j).2)
    trainIds (by decide) s ⟨rfl, List.Subset.refl _⟩ fun _ _ => rfl
  exact ⟨kept, fun k => all k (mem_trainIds k)⟩

/-- The stations stop first, and then the trains (log 15). -/
theorem lineStop_stops (s : State) :
    (∀ i, StationStopped i s.lineStop.loop.orders (s.station i) (s.lineStop.station i)) ∧
      ∀ k, TrainStopped k s.lineStop.loop.orders (s.train k) (s.lineStop.train k) := by
  unfold State.lineStop
  dsimp only
  obtain ⟨arbiter, stations⟩ :=
    forAll_stopStation (s.setControl { s.control.clearStep with line := .stopped })
  generalize forAll stationIds _ _ = u at arbiter stations ⊢
  obtain ⟨⟨same, grown⟩, trains⟩ := forAll_pauseTrain u
  generalize forAll trainIds _ _ = t at same grown trains ⊢
  refine ⟨fun i => ?_, fun k => ?_⟩
  · have here : t.station i = u.station i := congrArg (Vector.get · i) same
    rw [here]
    exact (stations i).mono grown
  · have before : u.train k = s.train k := congrArg (fun a => a.trains.get k) arbiter
    rw [← before]
    exact trains k

/-! ## The watch hit (R175) -/

theorem laterHit_eq {before : Option Hit} {hit top : Hit} (first : before = none → top = hit)
    (later : ∀ h, before = some h → h.rank ≤ hit.rank → top = hit)
    (earlier : ∀ h, before = some h → hit.rank < h.rank → top = h) : laterHit before hit = top := by
  cases before with
  | none => exact (first rfl).symm
  | some h =>
    rw [laterHit]
    split
    · exact (earlier h rfl ‹_›).symm
    · exact (later h rfl (Nat.not_lt.mp ‹_›)).symm

/-- A hit: the entry goes, WATCH_HIT is raised, and a line in RUN or STEP stops. -/
theorem watchEntry_hit {tag : Tag} {p : PhaseName} {rank : Nat} {top : Hit} {u : State}
    (watched : ({ tag := tag, phase := p } : WatchEntry) ∈ s.control.watch)
    (counts : laterHit s.control.hitTop { rank := rank, tag := tag } = top)
    (raised : u = (s.setControl { s.control with
      watch := s.control.watch.filter (fun w => decide (w ≠ { tag := tag, phase := p }))
      hitTop := some top }).raise .watchHit .line { first := top.tag, second := none }) :
    s.watchEntry rank (some tag) p =
      if s.control.line = .run ∨ s.control.line = .step then u.lineStop else u := by
  have entry (w : WatchEntry) :
      (w != { tag := tag, phase := p }) = decide (w ≠ { tag := tag, phase := p }) := by
    rw [Bool.eq_iff_iff]
    simp
  have line : u.control.line = s.control.line := by rw [raised, raise_quiet (by decide)]; rfl
  unfold State.watchEntry
  dsimp only
  rw [if_pos (by simpa using watched), counts]
  simp only [entry]
  rw [← line, raised]
  simp only [← running_iff]
  rfl

end

/-- Settles O58: the watch entry by whether the list holds it, and the two passes of a line stop. -/
theorem watchHitStopsTheLine : Obligations.WatchHitStopsTheLine := by
  unfold Obligations.WatchHitStopsTheLine
  refine ⟨fun s rank tag p => ⟨watchEntry_unwatched s rank p, fun top watched first later earlier => ?_⟩,
    enterPhase_eq, fun _ _ => rfl, ?_⟩
  · have hit := watchEntry_hit watched (laterHit_eq first later earlier) rfl
    refine ⟨_, rfl, fun runs => ?_, fun stands => ?_⟩
    · rw [hit, if_pos runs]
    · rw [hit, if_neg]
      obtain line | line := stands <;> simp [line]
  · intro s t stopped
    rw [stopped]
    obtain ⟨stations, trains⟩ := lineStop_stops s
    exact ⟨lineStop_control s, fun i => (stations i).1, fun i => (stations i).2, fun k => (trains k).1,
      fun k => (trains k).2, lineStop_chamber s, lineStop_condenser s, lineStop_register s, lineStop_slots s⟩

end Sys2Proof.Proofs

/-!
PROOFS. Family 03: the end of a station phase, its tests and its joins (O29).
-/

namespace Sys2Proof.Proofs

open Sys2Proof Sys2Proof.Machine Sys2Proof.Laws

section
variable {s : State} {i : StationId}

/-! ## Permission (R50) -/

theorem stationMay_iff (s : State) (i : StationId) : s.stationMay i = true ↔
    (s.control.line = .run ∨ (s.control.line = .step ∧ i ∈ s.control.credits)) ∧
      (s.node (.station i)).silent = false := by
  simp [State.stationMay, State.isSilent]

theorem testStation_waits (waits : s.stationMay i = false) : s.testStation i = s := by
  rw [State.testStation, if_neg (by simp [waits])]

theorem testStation_boundary {p : StationPhase} (may : s.stationMay i = true)
    (boundary : (s.station i).nextPhase = some p) : s.testStation i = s.beginPhase i p := by
  rw [State.testStation, if_pos may, boundary]

theorem testStation_loaded (may : s.stationMay i = true) (between : (s.station i).nextPhase = none)
    (phase : (s.station i).phase = .loaded) : s.testStation i = s.beginPhase i .pierce := by
  rw [State.testStation, if_pos may, between, phase]

theorem testStation_suspended (may : s.stationMay i = true) (between : (s.station i).nextPhase = none)
    (phase : (s.station i).phase = .evacuate) (suspended : (s.station i).suspended = true) :
    s.testStation i = (s.spendCredit i).clearSuspension i := by
  rw [State.testStation, if_pos may, between, phase, suspended]
  rfl

/-- Away from a boundary only LOADED and a suspended EVACUATE begin anything. -/
theorem testStation_rests (between : (s.station i).nextPhase = none)
    (loaded : (s.station i).phase ≠ .loaded)
    (goesOn : ¬ ((s.station i).phase = .evacuate ∧ (s.station i).suspended = true)) :
    s.testStation i = s := by
  unfold State.testStation
  split
  · rw [between]
    dsimp only
    split
    · exact absurd ‹_› loaded
    · exact if_neg fun suspended => goesOn ⟨‹_›, suspended⟩
    · rfl
  · rfl

/-! ## The end of a phase (R50, R53, R55, R56, R63, R65) -/

/-- The five phases that a station begins at a boundary. -/
def Begun (p : StationPhase) : Prop :=
  p = .pierce ∨ p = .sampleWait ∨ p = .trainWait ∨ p = .riseTest ∨ p = .oilDrain

/-- The entry to a phase forgets the boundary. -/
theorem enterPhase_boundary (s : State) (i : StationId) (next : Option StationPhase) (p : StationPhase) :
    (s.setStation i { s.station i with nextPhase := next }).enterPhase i p = s.enterPhase i p := by
  rw [enterPhase_eq, station_setStation, setStation_setStation]
  rfl

theorem beginPhase_boundary (next : Option StationPhase) {p : StationPhase} (begun : Begun p) :
    (s.setStation i { s.station i with nextPhase := next }).beginPhase i p = s.beginPhase i p := by
  have entered (p : StationPhase) :
      ((s.setStation i { s.station i with nextPhase := next }).spendCredit i).enterPhase i p =
        (s.spendCredit i).enterPhase i p := enterPhase_boundary (s.spendCredit i) i next p
  unfold State.beginPhase
  obtain rfl | rfl | rfl | rfl | rfl := begun
  · simp only [State.beginPierce, entered]
  · simp only [entered]
  · simp only [State.beginTrainWait, entered]
  · simp only [State.beginRiseTest, entered]
    rfl
  · simp only [State.beginOilDrain, entered]

theorem endPhase_waits (waits : s.stationMay i = false) (p : StationPhase) :
    s.endPhase i p = s.setStation i { s.station i with nextPhase := some p } :=
  testStation_waits (s := s.onStation i fun x => { x with nextPhase := some p }) waits

theorem endPhase_begins (may : s.stationMay i = true) {p : StationPhase} (begun : Begun p) :
    s.endPhase i p = s.beginPhase i p := by
  have may' : (s.setStation i { s.station i with nextPhase := some p }).stationMay i = true := may
  exact (testStation_boundary may' (by rw [station_setStation])).trans (beginPhase_boundary (some p) begun)

/-- A station at a boundary ends its phase anew. -/
theorem testStation_eq_endPhase {p : StationPhase} (boundary : (s.station i).nextPhase = some p) :
    s.testStation i = s.endPhase i p := by
  rw [State.endPhase, onStation_same (by rw [← boundary])]

theorem beginTrainWait_eq (s : State) (i : StationId) : s.beginTrainWait i =
    ((s.enterPhase i .trainWait).onStation i fun x =>
      { x with requestTime := some s.now, clock := 0 }).joinRequests i s.now := by
  have now : (s.enterPhase i .trainWait).now = s.now := watchEntry_now ..
  rw [State.beginTrainWait, now]

theorem beginRiseTest_eq (s : State) (i : StationId) : s.beginRiseTest i =
    (s.enterPhase i .riseTest).onStation i fun x =>
      { x with riseEntry := none, holdEnd := some (s.now + s.control.settings.riseHold * 1000) } := rfl

/-! ## A suspension ends (R75, R88) -/

theorem reportDrawing_eq {t : TrainId} (serves : (s.train t).station = some i) :
    s.reportDrawing t = s.openEvac i := by
  rw [State.reportDrawing, serves]

theorem clearSuspension_eq {t : TrainId} (train : (s.station i).train = some t)
    (serves : (s.train t).station = some i) {u : State}
    (cleared : u = s.setStation i { s.station i with suspended := false }) :
    s.clearSuspension i =
      if (s.train t).state = .paused then
        ((u.issue .pathArbiter (.train t) .compressorStart).setTrain t
          { s.train t with state := .drawing }).openEvac i
      else u.openEvac i := by
  have train' : (u.station i).train = some t := by rw [cleared, station_setStation, ← train]
  have same : u.train t = s.train t := by rw [cleared]; rfl
  have drawing : ((u.issue .pathArbiter (.train t) .compressorStart).setTrain t
      { s.train t with state := .drawing }).reportDrawing t = ((u.issue .pathArbiter (.train t)
        .compressorStart).setTrain t { s.train t with state := .drawing }).openEvac i :=
    reportDrawing_eq (by rw [train_setTrain, ← serves])
  have eq : s.onStation i (fun x => { x with suspended := false }) = u := cleared.symm
  unfold State.clearSuspension
  dsimp only
  rw [eq, train']
  dsimp only
  rw [same, ← drawing, ← same]
  simp only [beq_iff_eq]
  rfl

/-! ## The joins (R32, R83) -/

theorem joinQueue_member (mem : i ∈ s.classifier.queue) : s.joinQueue i = s.grantAnalyser := by
  rw [State.joinQueue, if_pos (by simpa using mem)]
  rfl

theorem joinQueue_new (new : i ∉ s.classifier.queue) :
    s.joinQueue i = (s.setQueue (s.classifier.queue ++ [i])).grantAnalyser := by
  rw [State.joinQueue, if_neg (by simpa using new)]

theorem insertRequest_between {q : Request} {xs ys : List Request} (before : ∀ x ∈ xs, x.time ≤ q.time)
    (behind : ∀ y ∈ ys, q.time < y.time) : insertRequest q (xs ++ ys) = xs ++ q :: ys := by
  induction xs with
  | nil =>
    cases ys with
    | nil => rfl
    | cons y ys => exact if_neg (Nat.not_le.mpr (behind y List.mem_cons_self))
  | cons x xs ih =>
    obtain ⟨first, rest⟩ := List.forall_mem_cons.mp before
    rw [List.cons_append, insertRequest, if_pos first, ih rest]
    rfl

theorem joinRequests_between {time : Moment} {xs ys : List Request} {tag : Tag} {r : UnitRecord}
    (others : s.arbiter.requests.filter (fun q => decide (q.station ≠ i)) = xs ++ ys)
    (before : ∀ x ∈ xs, x.time ≤ time) (behind : ∀ y ∈ ys, time < y.time)
    (unit : (s.station i).unit = some tag) (found : s.findUnit tag = some r) :
    s.joinRequests i time = (s.setRequests
      (xs ++ { station := i, time := time, needed := r.vesselNeeded } :: ys)).grantScan := by
  have filtered : s.arbiter.requests.filter (fun q => q.station != i) = xs ++ ys := by
    rw [← others]
    refine List.filter_congr fun q _ => ?_
    rw [Bool.eq_iff_iff]
    simp
  unfold State.joinRequests
  dsimp only
  rw [filtered, unit, Option.bind_some, found, Option.bind_some, insertRequest_between before behind]

end

/-- Settles O29: with permission `endPhase` is `beginPhase`, and the tests and joins by their cases. -/
theorem phaseEndBeginsTheNextOrWaits : Obligations.PhaseEndBeginsTheNextOrWaits := by
  unfold Obligations.PhaseEndBeginsTheNextOrWaits
  refine ⟨fun s i p may allowed => ?_, fun s i may allowed => ?_,
    fun s i => ⟨joinQueue_member, joinQueue_new⟩,
    fun s i time xs ys tag r => joinRequests_between⟩
  · rw [← stationMay_iff] at allowed
    refine ⟨fun stands => endPhase_waits (by simpa [allowed] using stands) p, fun has => ?_⟩
    have begins {p : StationPhase} (begun : Begun p) : s.endPhase i p = s.beginPhase i p :=
      endPhase_begins (allowed.mp has) begun
    refine ⟨_, _, rfl, rfl, ?_, ?_, ?_, ?_, ?_⟩
    · rintro rfl
      exact begins (.inl rfl)
    · rintro rfl
      exact begins (.inr (.inl rfl))
    · rintro rfl
      exact (begins (.inr (.inr (.inl rfl)))).trans (beginTrainWait_eq (s.spendCredit i) i)
    · rintro rfl
      exact (begins (.inr (.inr (.inr (.inl rfl))))).trans (beginRiseTest_eq (s.spendCredit i) i)
    · rintro rfl
      exact begins (.inr (.inr (.inr (.inr rfl))))
  · rw [← stationMay_iff] at allowed
    refine ⟨fun stands => testStation_waits (by simpa [allowed] using stands),
      fun p => testStation_eq_endPhase, fun between has => ?_⟩
    have has' := allowed.mp has
    refine ⟨fun phase => ?_, testStation_rests between, fun t phase suspended train serves =>
      ⟨_, rfl, fun paused => ?_, fun draws => ?_⟩⟩
    · rw [testStation_loaded has' between phase, endPhase_begins has' (.inl rfl)]
    · rw [testStation_suspended has' between phase suspended]
      exact (clearSuspension_eq (s := s.spendCredit i) train serves rfl).trans (if_pos paused)
    · rw [testStation_suspended has' between phase suspended]
      exact (clearSuspension_eq (s := s.spendCredit i) train serves rfl).trans (if_neg draws)

end Sys2Proof.Proofs

/-!
PROOFS. Family 03: what a station answer's readings and reports do (O30).
-/

namespace Sys2Proof.Proofs

open Sys2Proof Sys2Proof.Machine Sys2Proof.Laws

section
variable {s : State} {i : StationId}

/-! ## When a reading acts (R53, R59, R63, R65) -/

/-- A reading of the answer acts at the station, in one of the four phases that act on readings. -/
def ReadingActs (s : State) (i : StationId) (before : Station) (a : StationAnswer) : Prop :=
  s.control.line ≠ .halted ∧ (s.station i).nextPhase = none ∧
    ((s.station i).phase = .pierce ∧ (s.station i).pierceDone = true ∧ before.pierceDone = true ∨
      (s.station i).phase = .evacuate ∧ (s.station i).evacValve = .opened ∧
        (s.station i).suspended = false ∧ (s.station i).awaitingVessel = false ∧
        a.pressure ≤ s.control.settings.evacTarget ∨
      (s.station i).phase = .riseTest ∧ before.phase = .riseTest ∨
      (s.station i).phase = .oilDrain ∧ (s.station i).oilReference ≠ none ∧ before.oilReference ≠ none)

section
variable {before : Station} {a : StationAnswer}

theorem takeStationReadings_rests (idle : ¬ ReadingActs s i before a) :
    s.takeStationReadings i before a = s := by
  unfold State.takeStationReadings
  dsimp only
  split
  · rfl
  · rename_i frozen
    obtain ⟨on, between⟩ : s.control.line ≠ .halted ∧ (s.station i).nextPhase = none := by
      simpa [State.halted, Station.atBoundary] using frozen
    split
    case h_1 phase =>
      refine if_neg fun acts => idle ⟨on, between, .inl ⟨phase, ?_⟩⟩
      simpa using acts
    case h_2 phase =>
      refine if_neg fun acts => idle ⟨on, between, .inr (.inl ⟨phase, ?_⟩)⟩
      have limit : s.control.settings = s.limits := rfl
      rw [limit]
      simpa [and_assoc] using acts
    case h_3 phase =>
      refine if_neg fun acts => idle ⟨on, between, .inr (.inr (.inl ⟨phase, ?_⟩))⟩
      simpa using acts
    case h_4 phase =>
      refine if_neg fun acts => idle ⟨on, between, .inr (.inr (.inr ⟨phase, ?_⟩))⟩
      simpa [Option.isSome_iff_ne_none] using acts
    · rfl

/-- Away from a frozen station and from a boundary the reading is taken by the phase. -/
theorem takeStationReadings_eq (on : s.control.line ≠ .halted) (between : (s.station i).nextPhase = none) :
    ((s.station i).phase = .pierce → (s.station i).pierceDone = true → before.pierceDone = true →
      s.takeStationReadings i before a = s.readPierce i a.pressure) ∧
    ((s.station i).phase = .evacuate → (s.station i).evacValve = .opened →
      (s.station i).suspended = false → (s.station i).awaitingVessel = false →
      a.pressure ≤ s.control.settings.evacTarget →
      s.takeStationReadings i before a = s.reachTarget i a.pressure) ∧
    ((s.station i).phase = .riseTest → before.phase = .riseTest →
      s.takeStationReadings i before a = s.readRise i a.pressure) ∧
    ((s.station i).phase = .oilDrain → (s.station i).oilReference ≠ none → before.oilReference ≠ none →
      s.takeStationReadings i before a = s.readOil i a.oil) := by
  unfold State.takeStationReadings
  dsimp only
  rw [if_neg (by simp [State.halted, on, Station.atBoundary, between])]
  refine ⟨fun phase done first => ?_, fun phase opened goes served low => ?_, fun phase first => ?_,
    fun phase open_ first => ?_⟩
  · rw [phase]
    exact if_pos (by simp [done, first])
  · rw [phase]
    exact if_pos (by simp [opened, goes, served, low, State.limits])
  · rw [phase]
    exact if_pos (by simp [first])
  · rw [phase]
    exact if_pos (by simp [Option.isSome_iff_ne_none, open_, first])

end

/-! ## An answer at a station with its valves secured and an open manifold (R38, R69) -/

/-- No valve of the station is unsecured, and no cycle of its waits behind a blocked manifold. -/
structure Plain (s : State) (i : StationId) : Prop where
  bare : (s.station i).unsecured = []
  clear : ∀ c, s.classifier.cycle = some c → c.station = i → c.blocked = false

theorem Plain.of_same {t : State} (h : Plain s i) (station : (t.station i).unsecured = (s.station i).unsecured)
    (classifier : t.classifier = s.classifier) : Plain t i :=
  ⟨station.trans h.bare, classifier ▸ h.clear⟩

/-- Of such an answer's quantities, only pressure and oil count. -/
theorem Plain.quantities (h : Plain s i) (before : Station) (a : StationAnswer) :
    stationQuantities i before a s = s.takeStationReadings i before a := by
  have open_ : s.unblock i a.sampleOpen = s :=
    unblock_open fun c cycle ⟨here, blocked, _⟩ => by simp [h.clear c cycle here] at blocked
  rw [stationQuantities, onStation_same (closedByAnswer_bare h.bare a), open_]

theorem Plain.rests {before : Station} {a : StationAnswer} (h : Plain s i)
    (idle : ¬ ReadingActs s i before a) : stationQuantities i before a s = s := by
  rw [h.quantities, takeStationReadings_rests idle]

/-- What a state in which the station's answer is taken keeps: only the evacuation clock has gone on. -/
structure Answering (s : State) (i : StationId) (v : State) : Prop where
  clock : ∃ n, v.station i = { s.station i with clock := n }
  still : (s.station i).phase ≠ .evacuate → v.station i = s.station i
  classifier : v.classifier = s.classifier
  control : v.control = s.control
  arbiter : v.arbiter = s.arbiter
  register : v.register = s.register

theorem station_heardAt_eq (s : State) (n : Node) (m : Moment) (i : StationId) :
    (heardAt n m s).station i = (s.advanceTo m).station i := by
  rw [State.station, heardAt, setNode_stations]
  rfl

theorem answering_heardAt (s : State) (i : StationId) (m : Moment) :
    Answering s i (heardAt (.station i) m s) where
  clock := ⟨_, (station_heardAt_eq ..).trans (station_advance_eq ..)⟩
  still phase := (station_heardAt_eq ..).trans (station_advance_of_ne phase _)
  classifier := heardAt_classifier s (.station i) m
  control := heardAt_control s (.station i) m
  arbiter := by rw [heardAt, setNode_arbiter, State.advanceTo, advance_arbiter]
  register := heardAt_register s (.station i) m

theorem Answering.setOrders {v : State} (h : Answering s i v) (orders : List Order) :
    Answering s i (v.setOrders orders) :=
  ⟨h.clock, h.still, h.classifier, h.control, h.arbiter, h.register⟩

theorem Answering.plain {v : State} (h : Answering s i v) (plain : Plain s i) : Plain v i := by
  obtain ⟨n, station⟩ := h.clock
  exact plain.of_same (by rw [station]) h.classifier

/-- The state in which the report of a completed order is taken. -/
def orderTaken (s : State) (i : StationId) (m : Moment) (number : Nat) : State :=
  (heardAt (.station i) m s).setOrders (otherOrders (.station i) number s.loop.orders)

theorem answering_orderTaken (s : State) (i : StationId) (m : Moment) (number : Nat) :
    Answering s i (orderTaken s i m number) := (answering_heardAt s i m).setOrders _

/-! ## A completed order of a station (R52, R53, R58, R65, R66, R71) -/

section
variable {o : Order} {oil : Grams}

theorem closedByOrder_same (bare : (s.station i).unsecured = []) (number : Nat) :
    (s.onStation i fun x => x.closedByOrder number) = s :=
  onStation_same (by rw [closedByOrder_eq, bare, List.filter_nil, ← bare])

theorem stationOrderDone_work (bare : (s.station i).unsecured = [])
    (kind : o.kind = .clamp ∨ o.kind = .pierce ∨ o.kind = .unclamp)
    (own : (s.station i).workOrder = some o.number) : s.stationOrderDone i o oil = s.workDone i o.kind := by
  unfold State.stationOrderDone
  rw [closedByOrder_same bare]
  obtain kind | kind | kind := kind
  all_goals
    rw [kind]
    exact if_pos (by simp [own])

theorem stationOrderDone_evacuation {opens : Bool} (bare : (s.station i).unsecured = [])
    (kind : o.kind = .evacValve opens) (own : (s.station i).evacOrder = some o.number) :
    s.stationOrderDone i o oil = s.evacDone i := by
  unfold State.stationOrderDone
  rw [closedByOrder_same bare, kind]
  exact if_pos (by simp [own])

theorem stationOrderDone_oil {opens : Bool} (bare : (s.station i).unsecured = [])
    (kind : o.kind = .drainValve opens) (own : (s.station i).drainOrder = some o.number) :
    s.stationOrderDone i o oil = s.drainDone i opens oil := by
  unfold State.stationOrderDone
  rw [closedByOrder_same bare, kind]
  exact if_pos (by simp [own])

end

/-- The report of an order of the Station Controller that is no sample valve's. -/
theorem stationAnswer_completed {a : StationAnswer} {o : Order} (runs : s.resetPin = false)
    (heard : (s.node (.station i)).silent = false)
    (reports : a.reports = [{ number := o.number, status := .done }])
    (found : s.findOrder (.station i) o.number = some o) (issuer : o.issuer = .stationController)
    (kind : ∀ b, o.kind ≠ .sampleValve b) :
    exec (.stationAnswer i a) s = .next (stationQuantities i (s.station i) a
      ((orderTaken s i a.moment o.number).stationOrderDone i o a.oil)).afterEvent := by
  rw [stationAnswer_done runs heard reports found, stationNodeDone_controller issuer kind]
  rfl

/-! ### CLAMP (R52) -/

/-- A clamped station that tests for permission stays LOADED or is in a PIERCE not yet done. -/
theorem station_testStation_loaded (phase : (s.station i).phase = .loaded)
    (between : (s.station i).nextPhase = none) :
    (s.testStation i).classifier = s.classifier ∧
      ((s.testStation i).station i).unsecured = (s.station i).unsecured ∧
      (((s.testStation i).station i).phase = .loaded ∨
        ((s.testStation i).station i).phase = .pierce ∧ ((s.testStation i).station i).pierceDone = false) := by
  cases may : s.stationMay i with
  | false =>
    rw [testStation_waits may]
    exact ⟨rfl, rfl, .inl phase⟩
  | true =>
    have entered : ((s.spendCredit i).enterPhase i .pierce).station i =
        { s.station i with phase := .pierce, nextPhase := none } :=
      station_enterPhase (s.spendCredit i) i (by simp)
    have classifier : ((s.spendCredit i).enterPhase i .pierce).classifier = s.classifier :=
      watchEntry_classifier ..
    rw [testStation_loaded may between phase, State.beginPhase]
    rw [State.beginPierce, station_onStation]
    have same (u : State) : (u.orderStation i .pierce).station i = u.station i := rfl
    refine ⟨classifier, ?_, .inr ⟨?_, rfl⟩⟩
    · rw [same, entered]
    · rw [same, entered]

theorem workDone_clamp (phase : (s.station i).phase = .clamping) (on : s.control.line ≠ .halted) :
    s.workDone i .clamp = ((s.setStation i { s.station i with
      phase := .loaded, nextPhase := none, workOrder := none }).watchEntry (i.val + 1)
        (s.station i).unit .loaded).testStation i := by
  unfold State.workDone
  dsimp only
  rw [if_pos (by rw [station_onStation]; simp [phase, State.halted, on]), State.enterLoaded, enterPhase_eq,
    station_onStation, State.onStation, setStation_setStation]
  rfl

theorem workDone_clamp_halted (halted : s.control.line = .halted) :
    s.workDone i .clamp = s.setStation i { s.station i with workOrder := none } := by
  unfold State.workDone
  dsimp only
  rw [if_neg (by simp [State.halted, halted])]
  rfl

theorem workDone_pierce (phase : (s.station i).phase = .pierce) :
    s.workDone i .pierce = s.setStation i { s.station i with workOrder := none, pierceDone := true } := by
  have done : ((s.station i).phase == .pierce) = true := beq_iff_eq.mpr phase
  rw [← done]
  rfl

end

end Sys2Proof.Proofs

/-!
PROOFS. Family 03: the completed orders of a station, and the phases that its readings end (O30).
-/

namespace Sys2Proof.Proofs

open Sys2Proof Sys2Proof.Machine Sys2Proof.Laws

section
variable {s : State} {i : StationId} {before : Station} {a : StationAnswer}

/-! ### A completed order, with the answer's readings (R52, R53, R71, R76) -/

theorem clampDone_quantities (plain : Plain s i) (phase : (s.station i).phase = .clamping)
    (on : s.control.line ≠ .halted) :
    stationQuantities i before a (s.workDone i .clamp) = ((s.setStation i { s.station i with
      phase := .loaded, nextPhase := none, workOrder := none }).watchEntry (i.val + 1)
        (s.station i).unit .loaded).testStation i := by
  rw [workDone_clamp phase on]
  generalize entered : (s.setStation i { s.station i with
    phase := .loaded, nextPhase := none, workOrder := none }).watchEntry (i.val + 1)
      (s.station i).unit .loaded = v
  have station : v.station i = { s.station i with
      phase := .loaded, nextPhase := none, workOrder := none } := by
    rw [← entered, station_watchEntry (by simp), station_setStation]
  have classifier : v.classifier = s.classifier := by
    rw [← entered, watchEntry_classifier]
    rfl
  obtain ⟨same, bare, rests⟩ := station_testStation_loaded (s := v) (by rw [station]) (by rw [station])
  refine Plain.rests (plain.of_same (bare.trans (by rw [station])) (same.trans classifier)) ?_
  rintro ⟨-, -, acts⟩
  obtain loaded | ⟨pierce, waits⟩ := rests
  · simp [loaded] at acts
  · simp [pierce, waits] at acts

theorem clampDone_halted (plain : Plain s i) (halted : s.control.line = .halted) :
    stationQuantities i before a (s.workDone i .clamp) =
      s.setStation i { s.station i with workOrder := none } := by
  rw [workDone_clamp_halted halted]
  exact Plain.rests (plain.of_same (by rw [station_setStation]) rfl) fun ⟨on, _⟩ => on halted

/-- The answer that reports the pierce DONE does not end the phase yet. -/
theorem pierceDone_quantities (plain : Plain s i) (phase : (s.station i).phase = .pierce)
    (first : before.pierceDone = false) :
    stationQuantities i before a (s.workDone i .pierce) =
      s.setStation i { s.station i with workOrder := none, pierceDone := true } := by
  rw [workDone_pierce phase]
  refine Plain.rests (plain.of_same (by rw [station_setStation]) rfl) ?_
  rintro ⟨-, -, acts⟩
  rw [station_setStation] at acts
  simp [phase, first] at acts

theorem unclampDone_quantities (plain : Plain s i) :
    stationQuantities i before a (s.workDone i .unclamp) =
      s.setStation i { Station.reset with train := (s.station i).train } := by
  have emptied : s.workDone i .unclamp =
      s.setStation i { Station.reset with train := (s.station i).train } := rfl
  rw [emptied]
  refine Plain.rests ⟨by rw [station_setStation]; rfl, plain.clear⟩ ?_
  rintro ⟨-, -, acts⟩
  rw [station_setStation] at acts
  simp [Station.reset] at acts

/-! ### The evacuation valve (R58) -/

/-- The station once its evacuation valve has reached a place. -/
def valveMoved (view : ValveView) (x : Station) : Station := { x with evacValve := view, evacOrder := none }

theorem evacDone_opening (valve : (s.station i).evacValve = .opening) :
    s.evacDone i = s.onStation i (valveMoved .opened) := by
  rw [State.evacDone, valve]
  rfl

theorem evacDone_closing (valve : (s.station i).evacValve = .closing) :
    s.evacDone i = (s.onStation i (valveMoved .closed)).openEvac i := by
  rw [State.evacDone, valve]
  rfl

theorem advance_setOrders (s : State) (orders : List Order) (dt : Moment) :
    (s.setOrders orders).advance dt = (s.advance dt).setOrders orders := by
  rw [advance_eq, advance_eq]
  rfl

/-- The place of the evacuation valve does not bear on the clocks (R60). -/
theorem advance_valveMoved (s : State) (i : StationId) (view : ValveView) (dt : Moment) :
    (s.onStation i (valveMoved view)).advance dt = (s.advance dt).onStation i (valveMoved view) := by
  have moved (j : StationId) : stationAfter dt (s.onStation i (valveMoved view)) j =
      ((s.advance dt).onStation i (valveMoved view)).station j := by
    by_cases e : i = j
    · subst e
      rw [station_onStation, station_advance_eq, stationAfter, State.clockRuns, station_onStation]
      rfl
    · rw [station_onStation_ne _ _ _ _ e, station_advance_eq]
      exact stationAfter_congr (onStation_control ..) (station_onStation_ne _ _ _ _ e) dt
  have stations : Vector.ofFn (stationAfter dt (s.onStation i (valveMoved view))) =
      ((s.advance dt).onStation i (valveMoved view)).stations :=
    stations_ext fun j => (Vector.get_ofFn ..).trans (moved j)
  rw [advance_eq, stations, advance_eq]
  rfl

theorem heardAt_valveMoved (s : State) (i : StationId) (view : ValveView) (orders : List Order) (n : Node)
    (m : Moment) : heardAt n m ((s.setOrders orders).onStation i (valveMoved view)) =
      ((heardAt n m s).setOrders orders).onStation i (valveMoved view) := by
  have time : ((s.setOrders orders).onStation i (valveMoved view)).advanceTo m =
      ((s.advanceTo m).setOrders orders).onStation i (valveMoved view) := by
    rw [State.advanceTo, advance_valveMoved, advance_setOrders]
    rfl
  unfold heardAt
  rw [time]
  generalize s.advanceTo m = u
  rfl

/-- The readings look at the station before the answer for three things only, none of which is the valve. -/
theorem takeStationReadings_before {before' : Station} (phase : before.phase = before'.phase)
    (done : before.pierceDone = before'.pierceDone) (reference : before.oilReference = before'.oilReference) :
    s.takeStationReadings i before a = s.takeStationReadings i before' a := by
  unfold State.takeStationReadings
  rw [phase, done, reference]

theorem stationQuantities_valveMoved (s : State) (view : ValveView) :
    stationQuantities i (valveMoved view before) { a with reports := [] } s = stationQuantities i before a s :=
  takeStationReadings_before rfl rfl rfl

/-- The same answer without its report, at the station whose valve has reached its place. -/
theorem stationAnswer_valveMoved (runs : s.resetPin = false) (heard : (s.node (.station i)).silent = false)
    (number : Nat) (view : ValveView) :
    exec (.stationAnswer i { a with reports := [] })
        ((s.setOrders (otherOrders (.station i) number s.loop.orders)).setStation i
          (valveMoved view (s.station i))) =
      .next (stationQuantities i (s.station i) a
        ((orderTaken s i a.moment number).onStation i (valveMoved view))).afterEvent := by
  generalize moved : (s.setOrders (otherOrders (.station i) number s.loop.orders)).setStation i
    (valveMoved view (s.station i)) = v
  have runs' : v.resetPin = false := by rw [← moved]; exact runs
  have heard' : (v.node (.station i)).silent = false := by rw [← moved]; exact heard
  have station : v.station i = valveMoved view (s.station i) := by rw [← moved, station_setStation]
  have taken : heardAt (.station i) a.moment v =
      (orderTaken s i a.moment number).onStation i (valveMoved view) := by
    rw [← moved]
    exact heardAt_valveMoved s i view _ _ _
  rw [stationAnswer_silent runs' heard' rfl, station, stationQuantities_valveMoved]
  exact congrArg (fun t : State => Host.Outcome.next (stationQuantities i (s.station i) a t).afterEvent) taken

/-- An open valve ends the evacuation at its target only (log 21). -/
theorem opened_quantities (plain : Plain s i) (phase : (s.station i).phase = .evacuate)
    (valve : (s.station i).evacValve = .opening)
    (goesOn : s.control.settings.evacTarget < a.pressure ∨ s.control.line = .halted ∨
      (s.station i).suspended = true ∨ (s.station i).awaitingVessel = true) :
    stationQuantities i before a (s.evacDone i) = s.onStation i (valveMoved .opened) := by
  rw [evacDone_opening valve]
  refine Plain.rests (plain.of_same (by rw [station_onStation]; rfl) rfl) ?_
  rintro ⟨on, -, acts⟩
  rw [station_onStation] at acts
  have same : (valveMoved .opened (s.station i)).phase = .evacuate := phase
  simp only [same, reduceCtorEq, false_and, or_false, false_or, true_and] at acts
  obtain ⟨-, going, served, low⟩ := acts
  obtain high | halted | suspended | waits := goesOn
  · exact absurd low (Nat.not_le.mpr high)
  · exact on halted
  · exact absurd (going.symm.trans suspended) (by decide)
  · exact absurd (served.symm.trans waits) (by decide)

/-- After its close the valve may be ordered open anew, and until that is done no reading acts. -/
theorem closed_quantities (plain : Plain s i) (phase : (s.station i).phase = .evacuate)
    (valve : (s.station i).evacValve = .closing) :
    stationQuantities i before a (s.evacDone i) = (s.onStation i (valveMoved .closed)).openEvac i := by
  rw [evacDone_closing valve]
  generalize made : s.onStation i (valveMoved .closed) = u
  have station : u.station i = valveMoved .closed (s.station i) := by rw [← made, station_onStation]
  have classifier : u.classifier = s.classifier := by rw [← made, onStation_classifier]
  have opens : (u.openEvac i).classifier = s.classifier ∧
      ((u.openEvac i).station i = u.station i ∨
        (u.openEvac i).station i = { u.station i with evacValve := .opening, evacOrder := some u.orderNumber }) := by
    unfold State.openEvac
    dsimp only
    split
    · exact ⟨classifier, .inr (station_onStation ..)⟩
    · exact ⟨classifier, .inl rfl⟩
  obtain ⟨same, rests | opening⟩ := opens
  · refine Plain.rests (plain.of_same (by rw [rests, station]; rfl) same) ?_
    rintro ⟨-, -, acts⟩
    rw [rests, station] at acts
    simp [valveMoved, phase] at acts
  · refine Plain.rests (plain.of_same (by rw [opening, station]; rfl) same) ?_
    rintro ⟨-, -, acts⟩
    rw [opening, station] at acts
    simp [valveMoved, phase] at acts

/-! ### PIERCE, EVACUATE and RISE_TEST (R53, R54, R59, R63, R64) -/

theorem readPierce_eq {tag : Tag} {p : Nat} (unit : (s.station i).unit = some tag) : s.readPierce i p =
    if p < s.control.settings.pierceEmpty then
      ((s.setStation i { s.station i with pierceDone := false }).onUnit tag fun r =>
        { r with measured := some .none, effective := some .none }).endPhase i .oilDrain
    else (s.setStation i { s.station i with pierceDone := false }).endPhase i .sampleWait := by
  generalize made : s.setStation i { s.station i with pierceDone := false } = u
  have eq : s.onStation i (fun x => { x with pierceDone := false }) = u := made
  have unit' : (u.station i).unit = some tag := by rw [← made, station_setStation, ← unit]
  have limit : u.limits = s.control.settings := by rw [← made]; rfl
  unfold State.readPierce
  dsimp only
  rw [eq, limit, onStationUnit_eq unit']

theorem reachTarget_eq {t : TrainId} {p : Nat} (valve : (s.station i).evacValve = .opened)
    (train : (s.station i).train = some t) (draws : (s.train t).state = .drawing) :
    s.reachTarget i p = (((s.issue .stationController (.station i) (.evacValve false)).setTrain t
      { s.train t with state := .tailing, tailEnd := some (s.now + 10000), purgeEnd := none }).setStation i
        { s.station i with
          phase := .riseTest, nextPhase := none, evacValve := .closing
          evacOrder := some s.orderNumber, riseEntry := some p
          holdEnd := some (s.now + s.control.settings.riseHold * 1000) }).watchEntry (i.val + 1)
            (s.station i).unit .riseTest := by
  generalize made : (s.issue .stationController (.station i) (.evacValve false)).setStation i
    { s.station i with evacValve := .closing, evacOrder := some s.orderNumber } = c
  have closes : s.closeEvac i = c := (closeEvac_unshut (.inr valve)).trans made
  have station : c.station i =
      { s.station i with evacValve := .closing, evacOrder := some s.orderNumber } := by
    rw [← made, station_setStation]
  have same : c.train t = s.train t := by rw [← made]; rfl
  have tails : c.tailFor i = c.setTrain t (tailing s.now (s.train t)) := by
    rw [State.tailFor, station]
    dsimp only
    rw [train]
    dsimp only
    rw [startTail_drawing (.inr (.inl (same ▸ draws))) (by simp [same, draws]), ← same, ← made]
    rfl
  generalize tailed : c.setTrain t (tailing s.now (s.train t)) = x at tails
  have station' : x.station i =
      { s.station i with evacValve := .closing, evacOrder := some s.orderNumber } := by
    rw [← tailed, ← station]
    rfl
  have now : x.now = s.now := by rw [← tailed, ← made]; rfl
  have settings : x.limits = s.control.settings := by rw [← tailed, ← made]; rfl
  unfold State.reachTarget
  dsimp only
  rw [closes, tails, enterPhase_eq, station_onStation, State.onStation, setStation_setStation, station', now,
    settings, ← tailed, ← made]
  exact congrArg (State.watchEntry · _ _ _) (setStation_setStation ((s.issue .stationController (.station i)
    (.evacValve false)).setTrain t (tailing s.now (s.train t))) i _ _)

end

end Sys2Proof.Proofs

/-!
PROOFS. Family 03: the rise test, the oil drain, and the answers of a station as a whole (O30).
-/

namespace Sys2Proof.Proofs

open Sys2Proof Sys2Proof.Machine Sys2Proof.Laws

section
variable {s : State} {i : StationId} {before : Station} {a : StationAnswer}

/-! ### RISE_TEST (R63, R64) -/

/-- The state in which a latched rise is judged: the unit's rise is written, and the test is over. -/
def riseLatched (s : State) (i : StationId) (tag : Tag) (pressure : Nat) : State :=
  (s.onUnit tag fun r => { r with rise := some pressure }).setStation i
    { s.station i with riseEntry := none, holdEnd := none }

theorem latchRise_low {tag : Tag} {entry pressure : Nat} (unit : (s.station i).unit = some tag)
    (low : (pressure : Int) - entry ≤ s.control.settings.riseLimit) :
    s.latchRise i entry pressure = (riseLatched s i tag pressure).endPhase i .oilDrain := by
  unfold State.latchRise
  dsimp only
  rw [onStationUnit_eq unit]
  exact if_pos low

theorem latchRise_high {tag : Tag} {entry pressure : Nat} {r : UnitRecord}
    (unit : (s.station i).unit = some tag) (found : s.findUnit tag = some r)
    (high : (s.control.settings.riseLimit : Int) < pressure - entry) :
    s.latchRise i entry pressure =
      if r.evacuations < s.control.settings.evacAttempts then
        (riseLatched s i tag pressure).endPhase i .trainWait
      else (((riseLatched s i tag pressure).onUnit tag fun r =>
        { r with flags := { r.flags with leakSuspect := true } }).raise .riseFailed (.station i)
          { first := pressure - entry, second := none }).endPhase i .oilDrain := by
  unfold State.latchRise
  dsimp only
  rw [onStationUnit_eq unit]
  generalize made : (s.onUnit tag fun r => { r with rise := some pressure }).onStation i
    (fun x => { x with riseEntry := none, holdEnd := none }) = u
  have latched : riseLatched s i tag pressure = u := made
  have unit' : (u.station i).unit = some tag := by
    rw [← made, station_onStation]
    exact unit
  have found' : u.findUnit tag = some { r with rise := some pressure } := by
    have written := findUnit_onUnit s tag tag (fun r => { r with rise := some pressure }) fun _ => rfl
    have tagged : (r.tag == tag) = true := List.find?_some (p := fun r : UnitRecord => r.tag == tag) found
    rw [found, Option.map_some, if_pos tagged] at written
    rw [← made]
    exact written
  have limits : u.limits = s.control.settings := by rw [← made]; rfl
  rw [limits, if_neg (Int.not_le.mpr high), unit', Option.bind_some, found', latched, onStationUnit_eq unit']
  rfl

/-- The rise entry that is taken does not bear on what is latched. -/
theorem riseLatched_entry (s : State) (i : StationId) (tag : Tag) (entry : Option Nat) (pressure : Nat) :
    riseLatched (s.setStation i { s.station i with riseEntry := entry }) i tag pressure =
      riseLatched s i tag pressure := by
  rw [riseLatched, station_setStation]
  exact setStation_setStation (s.onUnit tag fun r => { r with rise := some pressure }) i _ _

theorem readRise_eq {pressure : Nat} {h : Moment} (hold : (s.station i).holdEnd = some h) {u : State}
    (taken : u = s.setStation i { s.station i with
      riseEntry := some ((s.station i).riseEntry.getD pressure) }) :
    s.readRise i pressure =
      if h ≤ s.now then u.latchRise i ((s.station i).riseEntry.getD pressure) pressure else u := by
  have eq : s.onStation i (fun x =>
      { x with riseEntry := some ((s.station i).riseEntry.getD pressure) }) = u := taken.symm
  have hold' : (u.station i).holdEnd = some h := by rw [taken, station_setStation, ← hold]
  have now : u.now = s.now := by rw [taken, setStation_now]
  unfold State.readRise
  dsimp only
  rw [eq, hold', ← now]

/-! ### The oil drain (R65, R66) -/

theorem drainDone_open {oil : Grams} (phase : (s.station i).phase = .oilDrain)
    (on : s.control.line ≠ .halted) : s.drainDone i true oil = s.setStation i { s.station i with
      drainOrder := none, oilReference := some oil
      oilDeadline := some (s.now + s.control.settings.oilMax * 1000)
      oilReadings := [{ moment := s.now, grams := oil }] } := by
  unfold State.drainDone
  dsimp only
  rw [if_neg (by rw [station_onStation]; simp [phase, State.halted, on]), if_pos rfl, onStation_onStation]
  rfl

theorem drainDone_close {oil : Grams} (phase : (s.station i).phase = .oilDrain)
    (on : s.control.line ≠ .halted) : s.drainDone i false oil = (s.setStation i { s.station i with
      drainOrder := none, phase := .done, nextPhase := none }).watchEntry (i.val + 1)
        (s.station i).unit .done := by
  unfold State.drainDone
  dsimp only
  rw [if_neg (by rw [station_onStation]; simp [phase, State.halted, on]), if_neg (by decide), enterPhase_eq,
    station_onStation, State.onStation, setStation_setStation]
  rfl

theorem pruneReadings_young {now : Moment} {readings : List OilReading}
    (young : ∀ x ∈ readings, now < x.moment + 30000) : pruneReadings now readings = readings := by
  match readings with
  | [] => rfl
  | [_] => rfl
  | r :: r' :: rest => exact if_neg (Nat.not_le.mpr (young r' (by simp)))

/-- The latest reading that is 30 s old heads what is kept. -/
theorem pruneReadings_split {now : Moment} {x : OilReading} {xs ys : List OilReading}
    (old : x.moment + 30000 ≤ now) (before : ∀ y ∈ xs, y.moment ≤ x.moment)
    (young : ∀ y ∈ ys, now < y.moment + 30000) : pruneReadings now (xs ++ x :: ys) = x :: ys := by
  induction xs with
  | nil =>
    cases ys with
    | nil => rfl
    | cons y ys => exact if_neg (Nat.not_le.mpr (young y List.mem_cons_self))
  | cons r xs ih =>
    obtain ⟨-, rest⟩ := List.forall_mem_cons.mp before
    have kept := ih rest
    cases xs with
    | nil => exact (if_pos old).trans kept
    | cons r' xs =>
      have older : r'.moment + 30000 ≤ now :=
        (Nat.add_le_add_right (rest r' List.mem_cons_self) 30000).trans old
      exact (if_pos older).trans kept

theorem settled_young {now : Moment} {settle : Nat} {readings : List OilReading} (grams : Grams)
    (young : ∀ x ∈ readings, now < x.moment + 30000) : settled now settle readings grams = false := by
  cases readings with
  | nil => rfl
  | cons r rest =>
    have : now < r.moment + Config.settleTime := young r List.mem_cons_self
    simp [settled, this]

theorem settled_old {now : Moment} {x : OilReading} (old : x.moment + 30000 ≤ now) (settle : Nat)
    (ys : List OilReading) (grams : Grams) :
    settled now settle (x :: ys) grams = decide (grams ≤ x.grams + settle) := by
  have : x.moment + Config.settleTime ≤ now := old
  simp [settled, this]

theorem readOil_goesOn {kept : List OilReading} {oil : Grams}
    (keeps : pruneReadings s.now (s.station i).oilReadings = kept)
    (moves : settled s.now s.control.settings.oilSettle kept oil = false) :
    s.readOil i oil = s.setStation i { s.station i with
      oilReadings := kept ++ [{ moment := s.now, grams := oil }] } := by
  unfold State.readOil
  dsimp only
  rw [keeps]
  exact if_neg (by rw [State.limits, moves]; decide)

theorem readOil_settles {kept : List OilReading} {oil : Grams} {tag : Tag} {ref : Grams}
    (keeps : pruneReadings s.now (s.station i).oilReadings = kept)
    (settles : settled s.now s.control.settings.oilSettle kept oil = true)
    (unit : (s.station i).unit = some tag) (reference : (s.station i).oilReference = some ref) :
    s.readOil i oil = ((s.onUnit tag fun r => { r with oil := some (oil - ref) }).issue .stationController
      (.station i) (.drainValve false)).setStation i { s.station i with
        oilReference := none, oilDeadline := none, oilReadings := []
        drainOrder := some s.orderNumber } := by
  unfold State.readOil
  dsimp only
  rw [keeps, if_pos (by rw [State.limits, settles])]
  have ended := endDrain_eq (s := s.onStation i fun x =>
      { x with oilReadings := kept ++ [{ moment := s.now, grams := oil }] }) (i := i) (tag := tag) (ref := ref)
    (xs := kept) (x := { moment := s.now, grams := oil }) (by rw [station_onStation]; exact unit)
    (by rw [station_onStation]; exact reference) (by rw [station_onStation])
  rw [ended, station_onStation]
  exact setStation_setStation ((s.onUnit tag fun r => { r with oil := some (oil - ref) }).issue
    .stationController (.station i) (.drainValve false)) i _ _

end

end Sys2Proof.Proofs

/-!
PROOFS. Family 03: the phases that a station answer ends, assembled (O30).
-/

namespace Sys2Proof.Proofs

open Sys2Proof Sys2Proof.Machine Sys2Proof.Laws

section
variable {s : State} {i : StationId} {a : StationAnswer}

/-- While the line is HALTED an answer with nothing to report leaves the station as it stands (R76). -/
theorem stationAnswer_frozen (runs : s.resetPin = false) (heard : (s.node (.station i)).silent = false)
    (halted : s.control.line = .halted) (reports : a.reports = []) (plain : Plain s i) :
    exec (.stationAnswer i a) s = .next (heardAt (.station i) a.moment s).afterEvent := by
  have line : (heardAt (.station i) a.moment s).control.line = .halted := by rw [heardAt_control, halted]
  rw [stationAnswer_silent runs heard reports,
    ((answering_heardAt s i a.moment).plain plain).rests fun ⟨on, _⟩ => on line]

/-! ## An answer with a reading, by the phase (R53, R59, R63, R66) -/

/-- A station answer that reports no order, at a station where nothing but its reading can act. -/
structure Reads (s : State) (i : StationId) (a : StationAnswer) : Prop where
  runs : s.resetPin = false
  heard : (s.node (.station i)).silent = false
  on : s.control.line ≠ .halted
  reports : a.reports = []
  plain : Plain s i
  between : (s.station i).nextPhase = none

theorem Reads.taken (h : Reads s i a) : exec (.stationAnswer i a) s = .next
    ((heardAt (.station i) a.moment s).takeStationReadings i (s.station i) a).afterEvent := by
  rw [stationAnswer_silent h.runs h.heard h.reports,
    ((answering_heardAt s i a.moment).plain h.plain).quantities]

/-- Where the answer is taken the line is not HALTED either, and the station stands at no boundary. -/
theorem Reads.here (h : Reads s i a) :
    (heardAt (.station i) a.moment s).control.line ≠ .halted ∧
      ((heardAt (.station i) a.moment s).station i).nextPhase = none := by
  obtain ⟨n, station⟩ := (answering_heardAt s i a.moment).clock
  rw [heardAt_control, station]
  exact ⟨h.on, h.between⟩

theorem Reads.pierce {tag : Tag} (h : Reads s i a) (phase : (s.station i).phase = .pierce)
    (done : (s.station i).pierceDone = true) (unit : (s.station i).unit = some tag) {u : State}
    (taken : u = (heardAt (.station i) a.moment s).setStation i { s.station i with pierceDone := false }) :
    exec (.stationAnswer i a) s = .next (if a.pressure < s.control.settings.pierceEmpty then
      (u.onUnit tag fun r => { r with measured := some .none, effective := some .none }).endPhase i .oilDrain
      else u.endPhase i .sampleWait).afterEvent := by
  have station := (answering_heardAt s i a.moment).still (by simp [phase])
  obtain ⟨on, between⟩ := h.here
  obtain ⟨reads, -⟩ := takeStationReadings_eq (before := s.station i) (a := a) on between
  rw [station] at reads
  rw [h.taken, reads phase done done, readPierce_eq (by rw [station, unit]), station, heardAt_control, ← taken]

theorem Reads.evacuate {t : TrainId} (h : Reads s i a) (phase : (s.station i).phase = .evacuate)
    (valve : (s.station i).evacValve = .opened) (goes : (s.station i).suspended = false)
    (served : (s.station i).awaitingVessel = false) (low : a.pressure ≤ s.control.settings.evacTarget)
    (train : (s.station i).train = some t) (draws : (s.train t).state = .drawing) {u : State}
    (taken : u = heardAt (.station i) a.moment s) :
    exec (.stationAnswer i a) s = .next ((((u.issue .stationController (.station i) (.evacValve false)).setTrain t
      { s.train t with state := .tailing, tailEnd := some (u.now + 10000), purgeEnd := none }).setStation i
        { u.station i with
          phase := .riseTest, nextPhase := none, evacValve := .closing
          evacOrder := some u.orderNumber, riseEntry := some a.pressure
          holdEnd := some (u.now + s.control.settings.riseHold * 1000) }).watchEntry (i.val + 1)
            (s.station i).unit .riseTest).afterEvent := by
  have answering := answering_heardAt s i a.moment
  obtain ⟨n, station⟩ := answering.clock
  obtain ⟨on, between⟩ := h.here
  obtain ⟨-, reads, -⟩ := takeStationReadings_eq (before := s.station i) (a := a) on between
  have sameTrain : (heardAt (.station i) a.moment s).train t = s.train t :=
    congrArg (fun x => x.trains.get t) answering.arbiter
  rw [h.taken]
  rw [← taken] at reads station sameTrain ⊢
  have control : u.control = s.control := taken ▸ answering.control
  rw [station, control] at reads
  have unit : (u.station i).unit = (s.station i).unit := by rw [station]
  rw [reads phase valve goes served low, reachTarget_eq (by rw [station, valve]) (by rw [station, train])
    (by rw [sameTrain, draws]), sameTrain, control, unit]

/-- Outside EVACUATE the station stands still until its answer is taken. -/
theorem Reads.stands (h : Reads s i a) (phase : (s.station i).phase ≠ .evacuate) {u : State}
    (taken : u = heardAt (.station i) a.moment s) :
    u.station i = s.station i ∧ u.control = s.control ∧ (∀ tag, u.findUnit tag = s.findUnit tag) ∧
      exec (.stationAnswer i a) s = .next (u.takeStationReadings i (s.station i) a).afterEvent := by
  have answering := answering_heardAt s i a.moment
  rw [h.taken, ← taken]
  rw [← taken] at answering
  refine ⟨answering.still phase, answering.control, fun tag => ?_, rfl⟩
  rw [State.findUnit, answering.register]
  rfl

theorem Reads.riseTest (h : Reads s i a) (phase : (s.station i).phase = .riseTest) {u : State}
    (taken : u = heardAt (.station i) a.moment s) :
    exec (.stationAnswer i a) s = .next (u.readRise i a.pressure).afterEvent := by
  obtain ⟨station, control, -, executed⟩ := h.stands (by simp [phase]) taken
  obtain ⟨-, -, reads, -⟩ := takeStationReadings_eq (s := u) (i := i) (before := s.station i) (a := a)
    (control ▸ h.on) (station ▸ h.between)
  rw [executed, reads (station ▸ phase) phase]

theorem Reads.oilDrain (h : Reads s i a) (phase : (s.station i).phase = .oilDrain)
    (reference : (s.station i).oilReference ≠ none) {u : State}
    (taken : u = heardAt (.station i) a.moment s) :
    exec (.stationAnswer i a) s = .next (u.readOil i a.oil).afterEvent := by
  obtain ⟨station, control, -, executed⟩ := h.stands (by simp [phase]) taken
  obtain ⟨-, -, -, reads⟩ := takeStationReadings_eq (s := u) (i := i) (before := s.station i) (a := a)
    (control ▸ h.on) (station ▸ h.between)
  rw [executed, reads (station ▸ phase) (station ▸ reference) reference]

end

section
variable {s : State} {i : StationId} {before : Station} {a : StationAnswer}

/-- A reading at or after the hold end is latched (R63, R64). -/
theorem readRise_latched {tag : Tag} {hold : Moment} {entry pressure : Nat}
    (holds : (s.station i).holdEnd = some hold) (ended : hold ≤ s.now)
    (unit : (s.station i).unit = some tag) (first : (s.station i).riseEntry.getD pressure = entry) :
    ((pressure : Int) - entry ≤ s.control.settings.riseLimit →
      s.readRise i pressure = (riseLatched s i tag pressure).endPhase i .oilDrain) ∧
    ∀ r, s.findUnit tag = some r → (s.control.settings.riseLimit : Int) < pressure - entry →
      s.readRise i pressure =
        if r.evacuations < s.control.settings.evacAttempts then
          (riseLatched s i tag pressure).endPhase i .trainWait
        else (((riseLatched s i tag pressure).onUnit tag fun r =>
          { r with flags := { r.flags with leakSuspect := true } }).raise .riseFailed (.station i)
            { first := pressure - entry, second := none }).endPhase i .oilDrain := by
  have reads := readRise_eq holds (pressure := pressure) rfl
  rw [if_pos ended, first] at reads
  have unit' : ((s.setStation i { s.station i with riseEntry := some entry }).station i).unit = some tag := by
    rw [station_setStation, ← unit]
  refine ⟨fun low => ?_, fun r found high => ?_⟩
  · rw [reads, latchRise_low unit' low, riseLatched_entry]
  · rw [reads, latchRise_high unit' found high, riseLatched_entry]
    rfl

theorem drainOpen_quantities {oil : Grams} (plain : Plain s i) (phase : (s.station i).phase = .oilDrain)
    (on : s.control.line ≠ .halted) (first : before.oilReference = none) :
    stationQuantities i before a (s.drainDone i true oil) = s.setStation i { s.station i with
      drainOrder := none, oilReference := some oil
      oilDeadline := some (s.now + s.control.settings.oilMax * 1000)
      oilReadings := [{ moment := s.now, grams := oil }] } := by
  rw [drainDone_open phase on]
  refine Plain.rests (plain.of_same (by rw [station_setStation]) rfl) ?_
  rintro ⟨-, -, acts⟩
  rw [station_setStation] at acts
  simp [phase, first] at acts

theorem drainClose_quantities {oil : Grams} (plain : Plain s i) (phase : (s.station i).phase = .oilDrain)
    (on : s.control.line ≠ .halted) :
    stationQuantities i before a (s.drainDone i false oil) = (s.setStation i { s.station i with
      drainOrder := none, phase := .done, nextPhase := none }).watchEntry (i.val + 1)
        (s.station i).unit .done := by
  rw [drainDone_close phase on]
  generalize entered : (s.setStation i { s.station i with
    drainOrder := none, phase := .done, nextPhase := none }).watchEntry (i.val + 1)
      (s.station i).unit .done = v
  have station : v.station i = { s.station i with
      drainOrder := none, phase := .done, nextPhase := none } := by
    rw [← entered, station_watchEntry (by simp), station_setStation]
  have classifier : v.classifier = s.classifier := by
    rw [← entered, watchEntry_classifier]
    rfl
  refine Plain.rests (plain.of_same (by rw [station]) classifier) ?_
  rintro ⟨-, -, acts⟩
  simp [station] at acts

end

section
variable {s : State} {i : StationId} {a : StationAnswer} {o : Order}

/-! ## An answer that reports an order DONE (R52, R53, R58, R65, R66, R71) -/

/-- A station answer whose one report is that an order of the Station Controller is DONE. -/
structure Completes (s : State) (i : StationId) (a : StationAnswer) (o : Order) : Prop where
  runs : s.resetPin = false
  heard : (s.node (.station i)).silent = false
  reports : a.reports = [{ number := o.number, status := .done }]
  found : s.findOrder (.station i) o.number = some o
  issuer : o.issuer = .stationController
  plain : Plain s i

theorem Completes.taken (h : Completes s i a o) (kind : ∀ b, o.kind ≠ .sampleValve b) {u : State}
    (taken : u = orderTaken s i a.moment o.number) :
    Answering s i u ∧ exec (.stationAnswer i a) s =
      .next (stationQuantities i (s.station i) a (u.stationOrderDone i o a.oil)).afterEvent :=
  taken ▸ ⟨answering_orderTaken .., stationAnswer_completed h.runs h.heard h.reports h.found h.issuer kind⟩

theorem Completes.work (h : Completes s i a o)
    (kind : o.kind = .clamp ∨ o.kind = .pierce ∨ o.kind = .unclamp)
    (own : (s.station i).workOrder = some o.number) {u : State}
    (taken : u = orderTaken s i a.moment o.number) :
    Answering s i u ∧ exec (.stationAnswer i a) s =
      .next (stationQuantities i (s.station i) a (u.workDone i o.kind)).afterEvent := by
  obtain ⟨answering, executed⟩ := h.taken (by obtain kind | kind | kind := kind <;> simp [kind]) taken
  obtain ⟨n, station⟩ := answering.clock
  have own' : (u.station i).workOrder = some o.number := by rw [station]; exact own
  rw [executed, stationOrderDone_work (answering.plain h.plain).bare kind own']
  exact ⟨answering, rfl⟩

theorem Completes.clamp (h : Completes s i a o) (kind : o.kind = .clamp)
    (own : (s.station i).workOrder = some o.number) (phase : (s.station i).phase = .clamping) {u : State}
    (taken : u = orderTaken s i a.moment o.number) :
    (s.control.line ≠ .halted → exec (.stationAnswer i a) s =
      .next (((u.setStation i { s.station i with
        phase := .loaded, nextPhase := none, workOrder := none }).watchEntry (i.val + 1)
          (s.station i).unit .loaded).testStation i).afterEvent) ∧
    (s.control.line = .halted → exec (.stationAnswer i a) s =
      .next (u.setStation i { s.station i with workOrder := none }).afterEvent) := by
  obtain ⟨answering, executed⟩ := h.work (.inl kind) own taken
  have still := answering.still (by simp [phase])
  have plain := answering.plain h.plain
  refine ⟨fun on => ?_, fun halted => ?_⟩
  · rw [executed, kind, clampDone_quantities plain (still ▸ phase) (answering.control ▸ on), still]
  · rw [executed, kind, clampDone_halted plain (answering.control ▸ halted), still]

theorem Completes.pierce (h : Completes s i a o) (kind : o.kind = .pierce)
    (own : (s.station i).workOrder = some o.number) (phase : (s.station i).phase = .pierce)
    (first : (s.station i).pierceDone = false) {u : State} (taken : u = orderTaken s i a.moment o.number) :
    exec (.stationAnswer i a) s =
      .next (u.setStation i { s.station i with workOrder := none, pierceDone := true }).afterEvent := by
  obtain ⟨answering, executed⟩ := h.work (.inr (.inl kind)) own taken
  have still := answering.still (by simp [phase])
  rw [executed, kind, pierceDone_quantities (answering.plain h.plain) (still ▸ phase) first, still]

theorem Completes.unclamp (h : Completes s i a o) (kind : o.kind = .unclamp)
    (own : (s.station i).workOrder = some o.number) {u : State}
    (taken : u = orderTaken s i a.moment o.number) :
    exec (.stationAnswer i a) s =
      .next (u.setStation i { Station.reset with train := (s.station i).train }).afterEvent := by
  obtain ⟨answering, executed⟩ := h.work (.inr (.inr kind)) own taken
  obtain ⟨n, station⟩ := answering.clock
  rw [executed, kind, unclampDone_quantities (answering.plain h.plain), station]

/-- The station with its evacuation valve where the completed order has brought it. -/
theorem exists_valveMoved (x : Station) : ∃ y : Station,
    (x.evacValve = .opening → y = valveMoved .opened x) ∧
      (x.evacValve = .closing → y = valveMoved .closed x) := by
  by_cases valve : x.evacValve = .opening
  · exact ⟨_, fun _ => rfl, fun closing => by simp [valve] at closing⟩
  · exact ⟨_, fun opening => absurd opening valve, fun _ => rfl⟩

theorem Completes.evacValve {opens : Bool} (h : Completes s i a o) (kind : o.kind = .evacValve opens)
    (own : (s.station i).evacOrder = some o.number) {u : State}
    (taken : u = orderTaken s i a.moment o.number) :
    Answering s i u ∧ exec (.stationAnswer i a) s =
      .next (stationQuantities i (s.station i) a (u.evacDone i)).afterEvent := by
  obtain ⟨answering, executed⟩ := h.taken (by simp [kind]) taken
  obtain ⟨n, station⟩ := answering.clock
  have own' : (u.station i).evacOrder = some o.number := by rw [station]; exact own
  rw [executed, stationOrderDone_evacuation (answering.plain h.plain).bare kind own']
  exact ⟨answering, rfl⟩

/-- The open reported DONE: the pressure is taken as by a valve that stood OPEN (log 21). -/
theorem Completes.evacOpened {opens : Bool} (h : Completes s i a o) (kind : o.kind = .evacValve opens)
    (own : (s.station i).evacOrder = some o.number) (valve : (s.station i).evacValve = .opening) :
    exec (.stationAnswer i a) s = exec (.stationAnswer i { a with reports := [] })
      ((s.setOrders (otherOrders (.station i) o.number s.loop.orders)).setStation i
        (valveMoved .opened (s.station i))) ∧
    ((s.station i).phase = .evacuate → (s.control.settings.evacTarget < a.pressure ∨
        s.control.line = .halted ∨ (s.station i).suspended = true ∨ (s.station i).awaitingVessel = true) →
      exec (.stationAnswer i a) s =
        .next ((orderTaken s i a.moment o.number).onStation i (valveMoved .opened)).afterEvent) := by
  obtain ⟨answering, executed⟩ := h.evacValve kind own rfl
  rw [stationAnswer_valveMoved h.runs h.heard, executed]
  generalize orderTaken s i a.moment o.number = u at answering ⊢
  obtain ⟨n, station⟩ := answering.clock
  have valve' : (u.station i).evacValve = .opening := by rw [station]; exact valve
  refine ⟨by rw [evacDone_opening valve'], fun phase goesOn => ?_⟩
  rw [opened_quantities (answering.plain h.plain) (by rw [station]; exact phase) valve']
  rw [answering.control, station]
  exact goesOn

/-- The close reported DONE: in EVACUATE R58 is tested again, and elsewhere the readings are taken. -/
theorem Completes.evacClosed {opens : Bool} (h : Completes s i a o) (kind : o.kind = .evacValve opens)
    (own : (s.station i).evacOrder = some o.number) (valve : (s.station i).evacValve = .closing) :
    ((s.station i).phase ≠ .evacuate →
      exec (.stationAnswer i a) s = exec (.stationAnswer i { a with reports := [] })
        ((s.setOrders (otherOrders (.station i) o.number s.loop.orders)).setStation i
          (valveMoved .closed (s.station i)))) ∧
    ((s.station i).phase = .evacuate → exec (.stationAnswer i a) s =
      .next (((orderTaken s i a.moment o.number).onStation i (valveMoved .closed)).openEvac i).afterEvent) := by
  obtain ⟨answering, executed⟩ := h.evacValve kind own rfl
  rw [stationAnswer_valveMoved h.runs h.heard, executed]
  generalize orderTaken s i a.moment o.number = u at answering ⊢
  obtain ⟨n, station⟩ := answering.clock
  have valve' : (u.station i).evacValve = .closing := by rw [station]; exact valve
  refine ⟨fun phase => ?_, fun phase => ?_⟩
  · have rests : ((u.onStation i (valveMoved .closed)).station i).phase ≠ .evacuate := by
      rw [station_onStation, station]
      exact phase
    rw [evacDone_closing valve', openEvac_rests (.inl rests)]
  · rw [closed_quantities (answering.plain h.plain) (by rw [station]; exact phase) valve']

theorem Completes.drainValve {opens : Bool} (h : Completes s i a o) (kind : o.kind = .drainValve opens)
    (own : (s.station i).drainOrder = some o.number) {u : State}
    (taken : u = orderTaken s i a.moment o.number) :
    Answering s i u ∧ exec (.stationAnswer i a) s =
      .next (stationQuantities i (s.station i) a (u.drainDone i opens a.oil)).afterEvent := by
  obtain ⟨answering, executed⟩ := h.taken (by simp [kind]) taken
  obtain ⟨n, station⟩ := answering.clock
  have own' : (u.station i).drainOrder = some o.number := by rw [station]; exact own
  rw [executed, stationOrderDone_oil (answering.plain h.plain).bare kind own']
  exact ⟨answering, rfl⟩

theorem Completes.drainOpened (h : Completes s i a o) (kind : o.kind = .drainValve true)
    (own : (s.station i).drainOrder = some o.number) (phase : (s.station i).phase = .oilDrain)
    (on : s.control.line ≠ .halted) (first : (s.station i).oilReference = none) {u : State}
    (taken : u = orderTaken s i a.moment o.number) :
    exec (.stationAnswer i a) s = .next (u.setStation i { s.station i with
      drainOrder := none, oilReference := some a.oil
      oilDeadline := some (u.now + s.control.settings.oilMax * 1000)
      oilReadings := [{ moment := u.now, grams := a.oil }] }).afterEvent := by
  obtain ⟨answering, executed⟩ := h.drainValve kind own taken
  have still := answering.still (by simp [phase])
  rw [executed, drainOpen_quantities (answering.plain h.plain) (still ▸ phase) (answering.control ▸ on) first,
    still, answering.control]

theorem Completes.drainClosed (h : Completes s i a o) (kind : o.kind = .drainValve false)
    (own : (s.station i).drainOrder = some o.number) (phase : (s.station i).phase = .oilDrain)
    (on : s.control.line ≠ .halted) {u : State} (taken : u = orderTaken s i a.moment o.number) :
    exec (.stationAnswer i a) s = .next ((u.setStation i { s.station i with
      drainOrder := none, phase := .done, nextPhase := none }).watchEntry (i.val + 1)
        (s.station i).unit .done).afterEvent := by
  obtain ⟨answering, executed⟩ := h.drainValve kind own taken
  have still := answering.still (by simp [phase])
  rw [executed, drainClose_quantities (answering.plain h.plain) (still ▸ phase) (answering.control ▸ on), still]

end

section
variable {s : State} {i : StationId} {a : StationAnswer}

/-! ## The rise test and the oil drain in an answer (R63, R64, R66) -/

theorem Reads.riseLatched {tag : Tag} {hold : Moment} {entry : Nat} (h : Reads s i a)
    (phase : (s.station i).phase = .riseTest) (holds : (s.station i).holdEnd = some hold)
    (unit : (s.station i).unit = some tag) (first : (s.station i).riseEntry.getD a.pressure = entry)
    {u x : State} (taken : u = heardAt (.station i) a.moment s) (ended : hold ≤ u.now)
    (latched : x = (u.onUnit tag fun r => { r with rise := some a.pressure }).setStation i
      { s.station i with riseEntry := none, holdEnd := none }) :
    ((a.pressure : Int) - entry ≤ s.control.settings.riseLimit → exec (.stationAnswer i a) s =
      .next (x.endPhase i .oilDrain).afterEvent) ∧
    ∀ r, s.findUnit tag = some r → (s.control.settings.riseLimit : Int) < a.pressure - entry →
      exec (.stationAnswer i a) s = .next (if r.evacuations < s.control.settings.evacAttempts then
          x.endPhase i .trainWait
        else ((x.onUnit tag fun r => { r with flags := { r.flags with leakSuspect := true } }).raise .riseFailed
          (.station i) { first := a.pressure - entry, second := none }).endPhase i .oilDrain).afterEvent := by
  obtain ⟨station, control, units, -⟩ := h.stands (by simp [phase]) taken
  have executed := h.riseTest phase taken
  have latched' : x = Proofs.riseLatched u i tag a.pressure := by
    rw [latched, ← station]
    rfl
  rw [← station] at first holds unit
  rw [← control, latched', executed]
  obtain ⟨low, high⟩ := readRise_latched (pressure := a.pressure) holds ended unit first
  refine ⟨fun small => by rw [low small], fun r found large => ?_⟩
  rw [high r ((units tag).trans found) large]

theorem Reads.riseWaits {hold : Moment} {entry : Nat} (h : Reads s i a)
    (phase : (s.station i).phase = .riseTest) (holds : (s.station i).holdEnd = some hold)
    (first : (s.station i).riseEntry.getD a.pressure = entry) {u : State}
    (taken : u = heardAt (.station i) a.moment s) (early : u.now < hold) :
    exec (.stationAnswer i a) s =
      .next (u.setStation i { s.station i with riseEntry := some entry }).afterEvent := by
  obtain ⟨station, -, -, -⟩ := h.stands (by simp [phase]) taken
  have read := readRise_eq (pressure := a.pressure) (station ▸ holds) rfl
  rw [if_neg (Nat.not_le.mpr early), station, first] at read
  rw [h.riseTest phase taken, read]

/-- Before the hold end a rise entry that is there already stays as it is. -/
theorem Reads.riseStands {hold : Moment} {entry : Nat} (h : Reads s i a)
    (phase : (s.station i).phase = .riseTest) (holds : (s.station i).holdEnd = some hold)
    (first : (s.station i).riseEntry = some entry) {u : State}
    (taken : u = heardAt (.station i) a.moment s) (early : u.now < hold) :
    exec (.stationAnswer i a) s = .next u.afterEvent := by
  obtain ⟨station, -, -, -⟩ := h.stands (by simp [phase]) taken
  have same : ({ s.station i with riseEntry := some entry } : Station) = u.station i := by
    rw [← first, station]
  have entered : (s.station i).riseEntry.getD a.pressure = entry := by rw [first, Option.getD_some]
  rw [h.riseWaits phase holds entered taken early, same, setStation_station]

theorem Reads.oilGoesOn {kept : List OilReading} (h : Reads s i a) (phase : (s.station i).phase = .oilDrain)
    (reference : (s.station i).oilReference ≠ none) {u : State}
    (taken : u = heardAt (.station i) a.moment s)
    (keeps : pruneReadings u.now (s.station i).oilReadings = kept)
    (moves : settled u.now s.control.settings.oilSettle kept a.oil = false) :
    exec (.stationAnswer i a) s = .next (u.setStation i { s.station i with
      oilReadings := kept ++ [{ moment := u.now, grams := a.oil }] }).afterEvent := by
  obtain ⟨station, control, -, -⟩ := h.stands (by simp [phase]) taken
  rw [h.oilDrain phase reference taken, readOil_goesOn (station ▸ keeps) (control ▸ moves), station]

theorem Reads.oilSettles {kept : List OilReading} {tag : Tag} {ref : Grams} (h : Reads s i a)
    (phase : (s.station i).phase = .oilDrain) (reference : (s.station i).oilReference = some ref)
    (unit : (s.station i).unit = some tag) {u : State} (taken : u = heardAt (.station i) a.moment s)
    (keeps : pruneReadings u.now (s.station i).oilReadings = kept)
    (settles : settled u.now s.control.settings.oilSettle kept a.oil = true) :
    exec (.stationAnswer i a) s = .next (((u.onUnit tag fun r => { r with oil := some (a.oil - ref) }).issue
      .stationController (.station i) (.drainValve false)).setStation i { s.station i with
        oilReference := none, oilDeadline := none, oilReadings := []
        drainOrder := some u.orderNumber }).afterEvent := by
  obtain ⟨station, control, -, -⟩ := h.stands (by simp [phase]) taken
  rw [h.oilDrain phase (by simp [reference]) taken, readOil_settles (station ▸ keeps) (control ▸ settles)
    (station ▸ unit) (station ▸ reference), station]

end

/-- Settles O30: the report is taken first, and then the reading, by the phase. -/
theorem stationAnswerEndsPhases : Obligations.StationAnswerEndsPhases := by
  unfold Obligations.StationAnswerEndsPhases
  refine ⟨⟨?_, ?_⟩, ?_, ?_, ?_, ⟨?_, ?_⟩, ?_⟩
  · intro s i a o runs heard reports found issuer bare own _ first clear
    have completes : Completes s i a o := ⟨runs, heard, reports, found, issuer, bare, clear⟩
    refine ⟨orderTaken s i a.moment o.number, ((orderTaken s i a.moment o.number).setStation i
      { s.station i with phase := .loaded, nextPhase := none, workOrder := none }).watchEntry (i.val + 1)
        (s.station i).unit .loaded, rfl, fun kind phase on => ⟨rfl, ?_⟩, fun kind phase halted => ?_,
      fun kind phase => ?_, fun kind => ?_⟩
    · exact (completes.clamp kind own phase rfl).1 on
    · exact (completes.clamp kind own phase rfl).2 halted
    · exact completes.pierce kind own phase first rfl
    · exact completes.unclamp kind own rfl
  · intro s i a runs heard halted reports bare clear
    exact stationAnswer_frozen runs heard halted reports ⟨bare, clear⟩
  · intro s i a o opens runs heard _ reports found issuer kind own bare clear
    have completes : Completes s i a o := ⟨runs, heard, reports, found, issuer, bare, clear⟩
    obtain ⟨x, opened, closed⟩ := exists_valveMoved (s.station i)
    refine ⟨x, otherOrders (.station i) o.number s.loop.orders, orderTaken s i a.moment o.number, _, rfl, rfl,
      opened, closed, rfl, fun valve => ?_, fun valve => ?_, fun valve => ?_, fun valve => ?_⟩
    · rw [opened valve]
      exact (completes.evacOpened kind own valve).1
    · exact (completes.evacOpened kind own valve).2
    · rw [closed valve]
      exact (completes.evacClosed kind own valve).1
    · exact (completes.evacClosed kind own valve).2
  · intro s i a tag runs heard on reports bare clear phase between done unit
    have reads : Reads s i a := ⟨runs, heard, on, reports, ⟨bare, clear⟩, between⟩
    have executed := reads.pierce phase done unit rfl
    refine ⟨(heardAt (.station i) a.moment s).setStation i { s.station i with pierceDone := false }, rfl,
      fun low => ?_, fun high => ?_⟩
    · rw [executed, if_pos low]
    · rw [executed, if_neg (Nat.not_lt.mpr high)]
  · intro s i a t runs heard on reports bare clear phase between valve goes served low train draws
    have reads : Reads s i a := ⟨runs, heard, on, reports, ⟨bare, clear⟩, between⟩
    exact ⟨heardAt (.station i) a.moment s, _, _, rfl, rfl, rfl,
      reads.evacuate phase valve goes served low train draws rfl⟩
  · intro s i a tag r entry hold runs heard on reports bare clear phase between first holds ended unit found
    have reads : Reads s i a := ⟨runs, heard, on, reports, ⟨bare, clear⟩, between⟩
    have entered : (s.station i).riseEntry.getD a.pressure = entry := by rw [first]; rfl
    obtain ⟨low, high⟩ := reads.riseLatched phase holds unit entered rfl ended rfl
    refine ⟨_, rfl, low, fun large more => ?_, fun large spent => ?_⟩
    · rw [high r found large, if_pos more]
      rfl
    · rw [high r found large, if_neg (Nat.not_lt.mpr spent)]
      rfl
  · intro s i a hold runs heard on reports bare clear phase between holds
    have reads : Reads s i a := ⟨runs, heard, on, reports, ⟨bare, clear⟩, between⟩
    refine ⟨heardAt (.station i) a.moment s, rfl, fun entry first early => ?_, fun first early => ?_,
      fun tag first ended unit => ?_⟩
    · exact reads.riseStands phase holds first rfl early
    · exact reads.riseWaits phase holds (by rw [first]; rfl) rfl early
    · exact (reads.riseLatched (entry := a.pressure) phase holds unit (by rw [first]; rfl) rfl ended rfl).1
        (by simp)
  · intro s i a runs heard on bare phase between clear
    refine ⟨heardAt (.station i) a.moment s, rfl, fun o v reports found issuer own first taken => ?_,
      fun ref reports reference => ?_⟩
    · have completes : Completes s i a o := ⟨runs, heard, reports, found, issuer, bare, clear⟩
      have now : (heardAt (.station i) a.moment s).now = v.now := by rw [taken]; rfl
      rw [now]
      exact ⟨fun kind => completes.drainOpened kind own phase on first taken,
        fun kind => completes.drainClosed kind own phase on taken⟩
    · have reads : Reads s i a := ⟨runs, heard, on, reports, ⟨bare, clear⟩, between⟩
      refine ⟨fun young => ?_, fun xs x ys split old earlier young => ?_⟩
      · exact reads.oilGoesOn phase (by simp [reference]) rfl (pruneReadings_young young)
          (settled_young _ young)
      · have kept := pruneReadings_split old earlier young
        rw [← split] at kept
        refine ⟨fun moves => ?_, fun tag unit settles => ?_⟩
        · exact reads.oilGoesOn phase (by simp [reference]) rfl kept (by simpa [settled_old old] using moves)
        · exact reads.oilSettles phase reference unit rfl kept (by simpa [settled_old old] using settles)

end Sys2Proof.Proofs

/-!
PROOFS. Family 04: what a train does: its entries, its purge and its tail (O37).
-/

namespace Sys2Proof.Proofs

open Sys2Proof Sys2Proof.Machine Sys2Proof.Laws

section
variable {s : State} {t : TrainId} {i : StationId} {tag : Tag} {k : SlotId}

/-! ## Entries and changes of a train (R91, R92, R101) -/

theorem setTrain_setTrain (s : State) (t : TrainId) (x y : Train) :
    (s.setTrain t x).setTrain t y = s.setTrain t y := by
  simp [State.setTrain]

/-- The train's unit gets an entry at another vessel, which the train feeds from then on (R101). -/
theorem openTrainEntry_feeds {v : Vessel} (serves : (s.train t).tag = some tag)
    (vessel : (s.slot k).vessel = some v) :
    s.openTrainEntry t k =
      (s.onUnit tag fun r => r.openEntry k v.id).onTrain t fun x => { x with slot := some k } := by
  rw [State.openTrainEntry, serves, vessel]

theorem exhaustTrain_eq (serves : (s.train t).station = some i) (unit : (s.train t).tag = some tag) :
    s.exhaustTrain t = (s.raise .allocExhausted (.station i) { first := tag, second := none }).faultStation i
      (.phase .evacuate) true := by
  rw [State.exhaustTrain, serves, unit]
  rfl

/-- What precedes the entry to WAIT_VESSEL: the unit's entry is closed, and a running compressor stopped. -/
def feedingEnded (s : State) (t : TrainId) (tag : Tag) : State :=
  if (s.train t).state = .paused then s.onUnit tag UnitRecord.closeEntry
  else (s.onUnit tag UnitRecord.closeEntry).issue .pathArbiter (.train t) .compressorStop

theorem feedingEnded_paused (paused : (s.train t).state = .paused) (tag : Tag) :
    feedingEnded s t tag = s.onUnit tag UnitRecord.closeEntry := if_pos paused

theorem feedingEnded_running (runs : (s.train t).state ≠ .paused) (tag : Tag) : feedingEnded s t tag =
    (s.onUnit tag UnitRecord.closeEntry).issue .pathArbiter (.train t) .compressorStop := if_neg runs

theorem train_feedingEnded (s : State) (t : TrainId) (tag : Tag) :
    (feedingEnded s t tag).train t = s.train t := by
  unfold feedingEnded
  split <;> rfl

theorem waitForVessel_eq (serves : (s.train t).station = some i) (unit : (s.train t).tag = some tag) :
    s.waitForVessel t = (((feedingEnded s t tag).setTrain t { s.train t with state := .waitVessel }).awaitVessel
      i).raise .vesselNone (.train t) { first := tag, second := none } := by
  have waits : (feedingEnded s t tag).setTrainState t .waitVessel =
      (feedingEnded s t tag).setTrain t { s.train t with state := .waitVessel } := by
    rw [← train_feedingEnded s t tag]
    rfl
  rw [← waits]
  unfold State.waitForVessel feedingEnded
  dsimp only
  rw [serves, unit]
  simp only [beq_iff_eq]
  rfl

theorem trainExhausted_eq {r : UnitRecord} (unit : (s.train t).tag = some tag)
    (found : s.findUnit tag = some r) : s.trainExhausted t = decide (4 ≤ r.allocations.length) := by
  rw [State.trainExhausted, unit]
  exact entriesExhausted_of_found found

theorem nextVessel_eq {cls : VesselClass} (carries : (s.train t).carried = some cls) :
    s.nextVessel t = s.chooseVessel cls := by
  rw [State.nextVessel, carries]
  rfl

theorem vesselIsFull_eq {v : Vessel} (vessel : (s.slot k).vessel = some v) :
    s.vesselIsFull k = decide (v.state = .full) := by
  rw [State.vesselIsFull, vessel]
  rfl

/-! ## The end of a purge (R86) -/

/-- A purged train goes on to a slot: to PAUSED for a suspended station, else to DRAWING. -/
def purgeLeft (suspended : Bool) (t : TrainId) (i : StationId) (k : SlotId) (s : State) : State :=
  if suspended = true then
    ((s.issue .pathArbiter (.train t) (.outletOpen k)).issue .pathArbiter (.train t) .compressorStop).onTrain t
      fun y => { y with state := .paused }
  else
    ((s.issue .pathArbiter (.train t) (.outletOpen k)).onTrain t fun y =>
      { y with state := .drawing }).openEvac i

theorem leavePurge_eq (serves : (s.train t).station = some i) (feeds : (s.train t).slot = some k) :
    s.leavePurge t = purgeLeft (s.station i).suspended t i k s := by
  have outlet : s.orderOutlet t = s.issue .pathArbiter (.train t) (.outletOpen k) := by
    rw [State.orderOutlet, feeds]
    rfl
  have reports : ((s.issue .pathArbiter (.train t) (.outletOpen k)).setTrainState t .drawing).reportDrawing t =
      ((s.issue .pathArbiter (.train t) (.outletOpen k)).setTrainState t .drawing).openEvac i :=
    reportDrawing_eq (by rw [State.setTrainState, train_onTrain, ← serves]; rfl)
  unfold State.leavePurge
  rw [outlet, reports, serves]
  rfl

/-- The state at a purge end: PURGE_VALVE is ordered closed, and the purge is over. -/
def purgeEnded (s : State) (t : TrainId) : State :=
  (s.issue .pathArbiter (.train t) (.purgeValve false)).setTrain t { s.train t with purgeEnd := none }

theorem train_purgeEnded (s : State) (t : TrainId) :
    (purgeEnded s t).train t = { s.train t with purgeEnd := none } := by
  rw [purgeEnded, train_setTrain]

/-- What a purge end leads to, by the vessel that the train feeds (R86, R91, R92). -/
theorem endPurge_eq {cls : VesselClass} {v : Vessel} {r : UnitRecord}
    (unit : (s.train t).tag = some tag) (carries : (s.train t).carried = some cls) (feeds : (s.train t).slot = some k)
    (vessel : (s.slot k).vessel = some v) (found : s.findUnit tag = some r) :
    s.endPurge t =
      if v.state = .full then
        if 4 ≤ r.allocations.length then (purgeEnded s t).exhaustTrain t
        else
          match s.chooseVessel cls with
          | some k' => ((purgeEnded s t).openTrainEntry t k').leavePurge t
          | none => (purgeEnded s t).waitForVessel t
      else (purgeEnded s t).leavePurge t := by
  have train := train_purgeEnded s t
  have full : (purgeEnded s t).vesselIsFull k = decide (v.state = .full) := vesselIsFull_eq vessel
  have spent : (purgeEnded s t).trainExhausted t = decide (4 ≤ r.allocations.length) :=
    trainExhausted_eq (by rw [train]; exact unit) found
  have next : (purgeEnded s t).nextVessel t = s.chooseVessel cls := nextVessel_eq (by rw [train]; exact carries)
  have ended : (s.orderTrain t (.purgeValve false)).onTrain t (fun x => { x with purgeEnd := none }) =
      purgeEnded s t := rfl
  unfold State.endPurge
  rw [ended]
  simp only [train, feeds, full, spent, next]
  cases s.chooseVessel cls with
  | none => simp
  | some k' => simp

theorem exec_trainPurgeEnd (runs : s.resetPin = false) {d : Moment} (purges : (s.train t).state = .purging)
    (on : s.control.line ≠ .halted) (deadline : (s.train t).purgeEnd = some d) :
    exec (.trainPurgeEnd t) s = .next ((s.advanceTo d).endPurge t).afterEvent := by
  have passes : purgeEndPasses t s = (s.advanceTo d).endPurge t := by
    rw [purgeEndPasses, if_pos (by simp [purges, on, State.halted]), deadline, State.expire]
  rw [← passes]
  exact congrArg Host.Outcome.next (event_eq runs _)

/-! ### What time leaves alone -/

theorem train_advanceTo (s : State) (d : Moment) (t : TrainId) : (s.advanceTo d).train t = s.train t := by
  rw [State.advanceTo, train_advance]

theorem slot_advanceTo (s : State) (d : Moment) (k : SlotId) : (s.advanceTo d).slot k = s.slot k := by
  rw [State.advanceTo, slot_advance]

theorem findUnit_advanceTo (s : State) (d : Moment) (tag : Tag) :
    (s.advanceTo d).findUnit tag = s.findUnit tag := by
  rw [State.findUnit, State.advanceTo, advance_register]
  rfl

theorem chooseVessel_advanceTo (s : State) (d : Moment) (cls : VesselClass) :
    (s.advanceTo d).chooseVessel cls = s.chooseVessel cls := by
  unfold State.chooseVessel
  simp only [slot_advanceTo]

theorem suspended_advanceTo (s : State) (d : Moment) (i : StationId) :
    ((s.advanceTo d).station i).suspended = (s.station i).suspended := by
  rw [State.advanceTo, station_advance_eq]
  rfl

/-! ## The end of a tail (R89) -/

/-- A train whose tail has ended: it is IDLE, with the class that it carried. -/
def tailed (x : Train) : Train where
  state := .idle
  lastClass := x.carried
  carried := none
  station := none
  tag := none
  slot := none
  purgeEnd := none
  tailEnd := none

theorem endTail_eq (serves : (s.train t).station = some i) (unit : (s.train t).tag = some tag) :
    s.endTail t = ((((((s.issue .pathArbiter (.train t) .compressorStop).issue .pathArbiter (.train t)
      .outletClose).onUnit tag UnitRecord.closeEntry).setTrain t (tailed (s.train t))).onStation i fun x =>
        { x with train := none }).grantScan) := by
  unfold State.endTail
  dsimp only
  rw [serves, unit]
  rfl

theorem exec_trainTailExpiry (runs : s.resetPin = false) (t : TrainId) :
    exec (.trainTailExpiry t) s = .next (tailEndPasses t s).afterEvent :=
  congrArg Host.Outcome.next (event_eq runs _)

end

/-- Settles O37: the purge end by the vessel that the train feeds, and the tail end. -/
theorem trainExpiriesAct : Obligations.TrainExpiriesAct := by
  unfold Obligations.TrainExpiriesAct
  refine ⟨?_, fun s t runs => ⟨fun i tag d tails deadline serves unit => ?_, fun rests => ?_⟩⟩
  · intro s t i tag d k v r cls runs purges on deadline serves unit carries feeds vessel found
    have executed := exec_trainPurgeEnd runs purges on deadline
    rw [← train_advanceTo s d] at purges serves unit carries feeds ⊢
    rw [← slot_advanceTo s d] at vessel
    rw [← findUnit_advanceTo s d] at found
    simp only [← suspended_advanceTo s d, ← chooseVessel_advanceTo s d, ← slot_advanceTo s d]
    generalize s.advanceTo d = w at purges serves unit carries feeds vessel found executed ⊢
    have train := train_purgeEnded w t
    have serves' : ((purgeEnded w t).train t).station = some i := by rw [train]; exact serves
    have unit' : ((purgeEnded w t).train t).tag = some tag := by rw [train]; exact unit
    have feeds' : ((purgeEnded w t).train t).slot = some k := by rw [train]; exact feeds
    rw [endPurge_eq unit carries feeds vessel found] at executed
    refine ⟨purgeEnded w t, purgeLeft (w.station i).suspended t i, rfl,
      fun j x yes => if_pos yes, fun j x no => if_neg (Bool.eq_false_iff.mp no), fun part => ?_,
      fun full many => ?_, fun k' v' full few chosen vessel' => ?_, fun full few none => ?_⟩
    · rw [if_neg part, leavePurge_eq serves' feeds'] at executed
      exact executed
    · rw [if_pos full, if_pos many, exhaustTrain_eq serves' unit'] at executed
      exact executed
    · rw [if_pos full, if_neg (Nat.not_le.mpr few), chosen] at executed
      dsimp only at executed
      rw [openTrainEntry_feeds unit' (show ((purgeEnded w t).slot k').vessel = some v' from vessel'),
        leavePurge_eq (i := i) (k := k') (by rw [train_onTrain]; exact serves') (by rw [train_onTrain])] at executed
      exact executed
    · rw [if_pos full, if_neg (Nat.not_le.mpr few), none] at executed
      dsimp only at executed
      rw [waitForVessel_eq serves' unit', feedingEnded_running (by rw [train]; simp [purges])] at executed
      exact executed
  · refine ⟨_, _, rfl, rfl, ?_⟩
    rw [exec_trainTailExpiry runs, tailEndPasses, if_pos (by simp [tails]), deadline, State.expire]
    rw [← train_advanceTo s d] at serves unit ⊢
    rw [endTail_eq serves unit]
    rfl
  · rw [exec_trainTailExpiry runs, tailEndPasses, if_neg (by simpa using rests)]

end Sys2Proof.Proofs

/-!
PROOFS. Family 04: a vessel that enters, one that has become FULL, and what waits for a READY one (O41).
-/

namespace Sys2Proof.Proofs

open Sys2Proof Sys2Proof.Machine Sys2Proof.Laws

section
variable {s : State} {t : TrainId} {i : StationId} {tag : Tag} {k : SlotId} {cls : VesselClass}

/-! ## The commands (R107 to R109) -/

theorem vesselElsewhere_false {id : Nat} (new : ∀ j v, j ≠ k → (s.slot j).vessel = some v → v.id ≠ id) :
    s.vesselElsewhere k id = false := by
  rw [State.vesselElsewhere, List.any_eq_false]
  intro j _
  by_cases other : j = k
  · simp [other]
  · cases vessel : (s.slot j).vessel with
    | none => simp
    | some v => simp [new j v other vessel]

/-- The vessel that an accepted INSERT-VESSEL enters. -/
def insertedVessel (id : Nat) (cls : VesselClass) (tare initial fill : Nat) : Vessel where
  state := .ready
  id := id
  cls := cls
  tare := tare
  initial := initial
  fill := fill
  booked := 0

theorem doInsertVessel_accepted {slot id tare initial fill : Nat} {p : Platform} (at_ : slotOf slot = some k)
    (named : id ≠ 0) (fits : initial < fill) (vacant : (s.slot k).vessel = none)
    (new : ∀ j v, j ≠ k → (s.slot j).vessel = some v → v.id ≠ id) (heard : (s.node .bay).silent = false)
    (platform : (s.slot k).platform = some p) (present : p.present = true) :
    doInsertVessel slot id cls tare initial fill s =
      ((s.setSlot k { s.slot k with vessel := some (insertedVessel id cls tare initial fill) }).vesselReady
        cls).send [okLine .insertVessel (field "slot" (slotText k) ++ field "id" (numText id) ++
          field "class" (ascii (vesselClassWord cls)))] := by
  have stands : s.isPresent k = true := by
    rw [State.isPresent, platform]
    exact present
  simp [doInsertVessel, at_, named, Nat.not_le.mpr fits, vacant, vesselElsewhere_false new, State.isSilent,
    heard, stands, insertedVessel]

theorem vesselReady_eq (s : State) (cls : VesselClass) : s.vesselReady cls =
    if cls = .agent then ((s.resumeTrains cls).grantScan).testWaiting else (s.resumeTrains cls).grantScan := by
  simp only [State.vesselReady, beq_iff_eq]

/-- A vessel that has become FULL is reported to the block that its class belongs to (R105). -/
theorem vesselFilled_eq {v : Vessel} (vessel : (s.slot k).vessel = some v) : s.vesselFilled k =
    if v.cls = .agent then (s.raise .vesselFull (.slot k) { first := v.id, second := none }).changeDrain k
    else (s.raise .vesselFull (.slot k) { first := v.id, second := none }).changeTrains k := by
  rw [State.vesselFilled, vessel]
  simp only [beq_iff_eq]
  rfl

theorem onVessel_eq {v : Vessel} (vessel : (s.slot k).vessel = some v) (f : Vessel → Vessel) :
    s.onVessel k f = s.setSlot k { s.slot k with vessel := some (f v) } := by
  rw [State.onVessel, vessel]
  rfl

theorem doCloseVessel_eq {slot : Nat} {v : Vessel} (at_ : slotOf slot = some k)
    (vessel : (s.slot k).vessel = some v) : doCloseVessel slot s =
      (if v.state = .full then s
      else (s.setSlot k { s.slot k with vessel := some { v with state := .full } }).vesselFilled k).send
        [okLine .closeVessel (field "slot" (slotText k) ++ field "id" (numText v.id))] := by
  rw [doCloseVessel, at_]
  dsimp only
  rw [vessel]
  simp only [beq_iff_eq, onVessel_eq vessel]

/-! ## The changeover of a train (R91, R92) -/

/-- The trains in ascending order. -/
theorem forAll_trainIds (s : State) (f : State → TrainId → State) :
    forAll trainIds s f = f (f (f (f s 0) 1) 2) 3 := by
  rw [trainIds, forAll_cons, forAll_cons, forAll_cons, forAll_cons, forAll_nil]

theorem changeTrain_rests (other : (s.train t).slot ≠ some k ∨
    ((s.train t).state ≠ .drawing ∧ (s.train t).state ≠ .paused)) : s.changeTrain k t = s := by
  have not : ¬ ((s.train t).slot = some k ∧ ((s.train t).state = .drawing ∨ (s.train t).state = .paused)) := by
    tauto
  unfold State.changeTrain
  rw [if_neg (by simpa using not)]

/-- What a train that feeds a full vessel does, by its unit's entries and the vessel chosen. -/
theorem changeTrain_eq {r : UnitRecord} (feeds : (s.train t).slot = some k)
    (draws : (s.train t).state = .drawing ∨ (s.train t).state = .paused)
    (unit : (s.train t).tag = some tag) (carries : (s.train t).carried = some cls)
    (found : s.findUnit tag = some r) :
    s.changeTrain k t =
      if 4 ≤ r.allocations.length then s.exhaustTrain t
      else
        match s.chooseVessel cls with
        | some k' => (s.openTrainEntry t k').orderTrain t (.outletOpen k')
        | none => s.waitForVessel t := by
  unfold State.changeTrain
  rw [if_pos (by simpa [feeds] using draws), trainExhausted_eq unit found, nextVessel_eq carries]
  cases s.chooseVessel cls with
  | none => simp
  | some k' => simp

theorem onTrain_eq (s : State) (t : TrainId) (f : Train → Train) :
    s.onTrain t f = s.setTrain t (f (s.train t)) := rfl

theorem onTrain_setTrain (s : State) (t : TrainId) (x : Train) (f : Train → Train) :
    (s.setTrain t x).onTrain t f = s.setTrain t (f x) := by
  rw [onTrain_eq, train_setTrain, setTrain_setTrain]

theorem issue_setTrain (s : State) (t : TrainId) (x : Train) (who : Issuer) (n : Node) (kind : OrderKind) :
    (s.setTrain t x).issue who n kind = (s.issue who n kind).setTrain t x := rfl

/-! ## The resumption of a train (R92, R61) -/

theorem resumeTrain_rests (other : (s.train t).state ≠ .waitVessel ∨ (s.train t).carried ≠ some cls ∨
    s.chooseVessel cls = none) : s.resumeTrain cls t = s := by
  unfold State.resumeTrain
  dsimp only
  split
  · rename_i waits
    have none : s.chooseVessel cls = none := by
      simp only [Bool.and_eq_true, beq_iff_eq] at waits
      tauto
    rw [none]
  · rfl

/-- A station whose train has a vessel again; in STOPPED it is suspended instead (R61, R75). -/
def vesselGiven (s : State) (x : Station) : Station :=
  { x with awaitingVessel := false, suspended := x.suspended || decide (s.control.line = .stopped) }

/-- A waiting train gets the vessel chosen: it pauses with a suspended station, and else draws. -/
theorem resumeTrain_eq {v : Vessel} (waits : (s.train t).state = .waitVessel)
    (carries : (s.train t).carried = some cls) (serves : (s.train t).station = some i)
    (unit : (s.train t).tag = some tag) (chosen : s.chooseVessel cls = some k)
    (vessel : (s.slot k).vessel = some v) {u : State}
    (given : u = (s.onUnit tag fun r => r.openEntry k v.id).setStation i (vesselGiven s (s.station i))) :
    s.resumeTrain cls t =
      if s.control.line = .stopped ∨ (s.station i).suspended = true then
        (u.issue .pathArbiter (.train t) (.outletOpen k)).setTrain t
          { s.train t with state := .paused, slot := some k }
      else
        (((u.issue .pathArbiter (.train t) (.outletOpen k)).issue .pathArbiter (.train t)
          .compressorStart).setTrain t { s.train t with state := .drawing, slot := some k }).openEvac i := by
  have entered : (s.openTrainEntry t k).vesselFound i = u.setTrain t { s.train t with slot := some k } := by
    rw [openTrainEntry_feeds unit vessel, given]
    rfl
  have line : (u.setTrain t { s.train t with slot := some k }).control.line = s.control.line := by
    rw [given]
    rfl
  have station : ((u.setTrain t { s.train t with slot := some k }).station i).suspended =
      ((s.station i).suspended || decide (s.control.line = .stopped)) := by
    have same : (u.setTrain t { s.train t with slot := some k }).station i = u.station i := rfl
    rw [same, given, station_setStation, vesselGiven]
  have draws := drawAfresh_eq (s := u.setTrain t { s.train t with slot := some k }) (t := t) (k := k) (i := i)
    (by rw [train_setTrain]) (by rw [train_setTrain]; exact serves)
  have resumes : s.resumeTrain cls t =
      if (u.setTrain t { s.train t with slot := some k }).control.line == .stopped ||
          ((u.setTrain t { s.train t with slot := some k }).station i).suspended then
        ((u.setTrain t { s.train t with slot := some k }).orderTrain t (.outletOpen k)).setTrainState t .paused
      else (u.setTrain t { s.train t with slot := some k }).drawAfresh t := by
    unfold State.resumeTrain
    rw [if_pos (by simp [waits, carries]), chosen, serves]
    dsimp only
    rw [entered]
  rw [resumes, draws, line, station, State.setTrainState, State.orderTrain]
  simp only [issue_setTrain, onTrain_setTrain]
  refine if_congr ?_ rfl rfl
  simp only [Bool.or_eq_true, beq_iff_eq, decide_eq_true_eq]
  tauto

/-! ## A station that awaits a vessel (R61) -/

theorem awaitVessel_eq (s : State) (i : StationId) :
    s.awaitVessel i = (s.setStation i { s.station i with awaitingVessel := true }).closeEvac i := rfl

theorem awaitVessel_unshut (unshut : (s.station i).evacValve = .opening ∨ (s.station i).evacValve = .opened) :
    s.awaitVessel i = (s.issue .stationController (.station i) (.evacValve false)).setStation i
      { s.station i with awaitingVessel := true, evacValve := .closing, evacOrder := some s.orderNumber } := by
  rw [awaitVessel_eq, closeEvac_unshut (by rwa [station_setStation]), station_setStation]
  exact setStation_setStation (s.issue .stationController (.station i) (.evacValve false)) i _ _

theorem awaitVessel_shut (shut : (s.station i).evacValve = .closed ∨ (s.station i).evacValve = .closing) :
    s.awaitVessel i = s.setStation i { s.station i with awaitingVessel := true } := by
  rw [awaitVessel_eq, closeEvac_shut]
  rw [station_setStation]
  obtain valve | valve := shut
  · simp [valve]
  · simp [valve]

end

section
variable {s : State} {bk : BankId} {k : SlotId}

/-! ## The waiting banks (R144) -/

theorem retestDrain_tests (waits : (s.bank bk).state = .drainWait) (valve : (s.bank bk).drainValve ≠ .closing) :
    s.retestDrain bk = s.testDrain bk := by
  rw [State.retestDrain, if_pos (by simp [waits, valve])]

theorem retestDrain_rests (other : (s.bank bk).state ≠ .drainWait ∨ (s.bank bk).drainValve = .closing) :
    s.retestDrain bk = s := by
  have not : ¬ ((s.bank bk).state = .drainWait ∧ (s.bank bk).drainValve ≠ .closing) := by tauto
  rw [State.retestDrain, if_neg (by simpa using not)]

theorem bank_testDrain_other (s : State) (bk : BankId) :
    (s.testDrain bk).bank (otherBank bk) = s.bank (otherBank bk) := by
  unfold State.testDrain
  split
  · exact bank_onBank_other ..
  · split
    · rw [bank_raiseNoAgent]
      exact bank_onBank_other ..
    · rw [State.openDrain, bank_onBank_other]
      cases bk <;> rfl

theorem bank_retestDrain_other (s : State) (bk : BankId) :
    (s.retestDrain bk).bank (otherBank bk) = s.bank (otherBank bk) := by
  unfold State.retestDrain
  split
  · exact bank_testDrain_other s bk
  · rfl

theorem waitOrder_cases (s : State) : s.waitOrder = [.a, .b] ∨ s.waitOrder = [.b, .a] := by
  unfold State.waitOrder
  (repeat' split) <;> simp

theorem testWaiting_halted (halted : s.control.line = .halted) : s.testWaiting = s := by
  rw [State.testWaiting, if_pos (by simpa [State.halted] using halted)]

theorem testWaiting_on (on : s.control.line ≠ .halted) :
    s.testWaiting = forAll s.waitOrder s State.retestDrain := by
  rw [State.testWaiting, if_neg (by simpa [State.halted] using on)]

/-- Where one bank does not wait, only the other tests, whichever comes first. -/
theorem testWaiting_one (on : s.control.line ≠ .halted) (rests : (s.bank (otherBank bk)).state ≠ .drainWait) :
    s.testWaiting = s.retestDrain bk := by
  have after : (s.retestDrain bk).retestDrain (otherBank bk) = s.retestDrain bk :=
    retestDrain_rests (.inl (by rwa [bank_retestDrain_other]))
  have before : (s.retestDrain (otherBank bk)).retestDrain bk = s.retestDrain bk := by
    rw [retestDrain_rests (.inl rests)]
  rw [testWaiting_on on]
  obtain order | order := waitOrder_cases s
  all_goals
    rw [order]
    cases bk
  · exact after
  · exact before
  · exact before
  · exact after

/-! ## A full AGENT vessel (R146) -/

theorem setBank_setBank (s : State) (bk : BankId) (x y : Bank) :
    (s.setBank bk x).setBank bk y = s.setBank bk y := by
  cases bk <;> rfl

theorem changeDrain_rests (rests : s.control.line = .halted ∨ s.drainHolder = none ∨
    ∃ bk, s.drainHolder = some bk ∧ ((s.bank bk).drainSlot ≠ some k ∨ (s.bank bk).drainEnded = true)) :
    s.changeDrain k = s := by
  unfold State.changeDrain
  split
  · rfl
  · rename_i bk holds
    refine if_neg ?_
    simp only [holds, Option.some.injEq, exists_eq_left', reduceCtorEq, false_or] at rests
    simp only [State.halted, Bool.and_eq_true, beq_iff_eq, Bool.not_eq_true', Bool.eq_false_iff,
      ne_eq]
    tauto

theorem changeDrain_eq (holds : s.drainHolder = some bk) (feeds : (s.bank bk).drainSlot = some k)
    (goes : (s.bank bk).drainEnded = false) (on : s.control.line ≠ .halted) :
    s.changeDrain k =
      match s.chooseVessel .agent with
      | some j => (s.issue .condenser .condenser (.bankDrainOpen bk j)).setBank bk
          { s.bank bk with drainSlot := some j }
      | none => ((s.closeDrain bk).enterDrainWait bk).raiseNoAgent bk := by
  have bank (j : SlotId) : (s.orderBank (.bankDrainOpen bk j)).bank bk = s.bank bk := by cases bk <;> rfl
  rw [State.changeDrain, holds]
  dsimp only
  rw [if_pos (by simp [feeds, goes, on, State.halted])]
  simp only [State.onBank, bank]
  rfl

/-- A drain that has no vessel any more: its valve is ordered closed, and its bank waits. -/
theorem drainStopped_eq (s : State) (bk : BankId) :
    ((s.closeDrain bk).enterDrainWait bk).raiseNoAgent bk =
      ((s.issue .condenser .condenser (.bankDrainClose bk)).setBank bk { s.bank bk with
        drainValve := .closing, drainOrder := some s.orderNumber, state := .drainWait
        waitSince := some ((s.bank bk).waitSince.getD s.now), drainDeadline := none }).raise
          .agentVesselNone (.bank bk) { first := (s.bank bk).drained, second := none } := by
  have bank : (s.orderBank (.bankDrainClose bk)).bank bk = s.bank bk := by cases bk <;> rfl
  have now : (s.closeDrain bk).now = s.now := by rw [State.closeDrain, onBank_now]; rfl
  have waits : (s.closeDrain bk).enterDrainWait bk = (s.issue .condenser .condenser (.bankDrainClose bk)).setBank bk
      { s.bank bk with
        drainValve := .closing, drainOrder := some s.orderNumber, state := .drainWait
        waitSince := some ((s.bank bk).waitSince.getD s.now), drainDeadline := none } := by
    rw [State.enterDrainWait, now, State.closeDrain, State.onBank, State.onBank, bank_setBank, setBank_setBank, bank]
    rfl
  rw [waits, State.raiseNoAgent, bank_setBank]
  rfl

end

/-- Settles O41: the two commands, and then each operation in every case of its tests. -/
theorem vesselsEnterCloseAndChangeOver : Obligations.VesselsEnterCloseAndChangeOver := by
  unfold Obligations.VesselsEnterCloseAndChangeOver
  refine ⟨?_, ?_, ?_, ?_, ?_, ?_⟩
  · intro s slot k takes at_
    have closes : exec (.closeVessel slot) s = .next (doCloseVessel slot s).afterEvent :=
      exec_rowFor (.closeVessel slot) s takes
    have number : slotText k = numText slot := by rw [slotOf_some at_]; rfl
    refine ⟨fun id cls tare initial fill p named fits vacant new heard platform present => ?_,
      fun v vessel part => ?_, fun v vessel full => ?_⟩
    · have inserts : exec (.insertVessel slot id cls tare initial fill) s =
          .next (doInsertVessel slot id cls tare initial fill s).afterEvent :=
        exec_rowFor (.insertVessel slot id cls tare initial fill) s takes
      rw [doInsertVessel_accepted at_ named fits vacant new heard platform present, number] at inserts
      exact ⟨_, _, _, rfl, rfl, fun agent => (vesselReady_eq ..).trans (if_pos agent),
        fun other => (vesselReady_eq ..).trans (if_neg other), inserts⟩
    · rw [doCloseVessel_eq at_ vessel, if_neg part, number,
        vesselFilled_eq (v := { v with state := .full }) (by rw [slot_setSlot])] at closes
      refine ⟨_, rfl, fun agent => ?_, fun other => ?_⟩
      · rw [closes, if_pos agent]
      · rw [closes, if_neg other]
    · rw [closes, doCloseVessel_eq at_ vessel, if_pos full, number]
  · intro s k
    refine ⟨fun halted => ?_, fun on => ?_, fun t => ⟨changeTrain_rests, ?_⟩⟩
    · rw [State.changeTrains, if_pos (by simpa [State.halted] using halted)]
    · rw [State.changeTrains, if_neg (by simpa [State.halted] using on), forAll_trainIds]
    · intro i tag cls r feeds draws serves unit carries found
      rw [changeTrain_eq feeds draws unit carries found]
      refine ⟨fun many => ?_, fun k' v' few chosen vessel => ?_, fun few none => ?_⟩
      · rw [if_pos many, exhaustTrain_eq serves unit]
      · rw [if_neg (Nat.not_le.mpr few), chosen]
        dsimp only
        rw [openTrainEntry_feeds unit vessel]
        rfl
      · rw [if_neg (Nat.not_le.mpr few), none]
        dsimp only
        exact ⟨_, fun drawing => feedingEnded_running (by simp [drawing]) tag,
          fun paused => feedingEnded_paused paused tag, waitForVessel_eq serves unit⟩
  · intro s cls
    refine ⟨fun halted => ?_, fun on => ?_, fun t => ⟨resumeTrain_rests, ?_⟩⟩
    · rw [State.resumeTrains, if_pos (by simpa [State.halted] using halted)]
    · rw [State.resumeTrains, if_neg (by simpa [State.halted] using on), forAll_trainIds]
    · intro i tag k v waits carries serves unit chosen vessel
      rw [resumeTrain_eq waits carries serves unit chosen vessel rfl]
      exact ⟨_, rfl, fun pauses => if_pos pauses, fun runs on => if_neg (by simp [runs, on])⟩
  · exact fun s i => ⟨awaitVessel_unshut, awaitVessel_shut⟩
  · refine fun s => ⟨testWaiting_halted, fun on => ⟨fun x y a b first => ?_, fun x y a b first => ?_,
      testWaiting_one (bk := .a) on, testWaiting_one (bk := .b) on⟩,
      fun bk => ⟨retestDrain_tests, retestDrain_rests⟩⟩
    · rw [testWaiting_on on, waitOrder_of_waits a b, if_pos first]
      rfl
    · rw [testWaiting_on on, waitOrder_of_waits a b, if_neg (Nat.not_lt.mpr first)]
      rfl
  · intro s k
    refine ⟨fun rests => changeDrain_rests (rests.imp_right .inl), fun bk holds =>
      ⟨fun rests => changeDrain_rests (.inr (.inr ⟨bk, holds, rests⟩)), fun feeds goes on => ?_⟩⟩
    rw [changeDrain_eq holds feeds goes on]
    refine ⟨fun j chosen => ?_, fun none => ?_⟩
    · rw [chosen]
    · rw [none]
      exact drainStopped_eq s bk

end Sys2Proof.Proofs

/-!
PROOFS. Family 04: a train answer, what it books, and a train fault (O35).
-/

namespace Sys2Proof.Proofs

open Sys2Proof Sys2Proof.Machine Sys2Proof.Laws

section
variable {s : State} {t : TrainId} {tag : Tag} {k : SlotId}

/-! ## What is booked (R102, R104) -/

theorem setSlot_slot (s : State) (k : SlotId) : s.setSlot k (s.slot k) = s := by
  have same : s.slots.set k.val (s.slots.get k) k.isLt = s.slots := Vector.set_getElem_self k.isLt
  unfold State.setSlot State.slot
  rw [same]

theorem onUnit_same (s : State) (tag : Tag) {f : UnitRecord → UnitRecord} (same : ∀ r, f r = r) :
    s.onUnit tag f = s := by
  have units : (s.register.units.map fun r => if r.tag == tag then f r else r) = s.register.units := by
    simp [same]
  unfold State.onUnit
  rw [units]

theorem addToOpen_zero (l : List Allocation) : addToOpen 0 l = l := by
  induction l with
  | nil => rfl
  | cons e l ih => simp [addToOpen, ih]

theorem addToLast_zero (l : List Allocation) : addToLast 0 l = l := by
  rcases l.eq_nil_or_concat with rfl | ⟨l, e, rfl⟩
  · rfl
  · simp [addToLast_append]

/-- A delta of 0 g books nothing to a record. -/
theorem unitBook_zero (r : UnitRecord) : r.book 0 = r := by
  simp [UnitRecord.book, addToOpen_zero, addToLast_zero]

theorem vesselBook_zero (v : Vessel) : v.book 0 = v := rfl

theorem vesselBook_eq (v : Vessel) {d : Grams} (some_ : d ≠ 0) : v.book d =
    { v with
      booked := v.booked + d
      state := if v.state = .full ∨ v.fill ≤ v.booked + d + v.initial then .full else .filling } := by
  rw [Vessel.book, if_neg some_]
  cases state : v.state with
  | full => simp [Vessel.tested]
  | ready => simp [Vessel.tested]
  | filling => simp [Vessel.tested]

/-- A delta booked to a vessel, and R105 where that fills it. -/
theorem bookVessel_eq {v : Vessel} (vessel : (s.slot k).vessel = some v) {d : Grams} {w : State}
    (booked : w = s.setSlot k { s.slot k with vessel := some (v.book d) }) :
    s.bookVessel k d = if v.state ≠ .full ∧ (v.book d).state = .full then w.vesselFilled k else w := by
  have after : w.vesselIsFull k = decide ((v.book d).state = .full) :=
    vesselIsFull_eq (by rw [booked, slot_setSlot])
  have written : s.onVessel k (fun v => v.book d) = w := (onVessel_eq vessel _).trans booked.symm
  unfold State.bookVessel
  dsimp only
  rw [written, after, vesselIsFull_eq vessel]
  simp [and_comm]

theorem bookVessel_zero (s : State) (k : SlotId) : s.bookVessel k 0 = s := by
  have written : s.onVessel k (fun v => v.book 0) = s := by
    have same : { s.slot k with vessel := (s.slot k).vessel.map fun v => v.book 0 } = s.slot k := by
      cases e : s.slot k with
      | mk vessel platform => cases vessel <;> rfl
    rw [State.onVessel, same, setSlot_slot]
  unfold State.bookVessel
  dsimp only
  rw [written]
  simp

/-- The latest entry of a record: the last, where no earlier one is open. -/
theorem latestEntry_last {r : UnitRecord} {xs : List Allocation} {e : Allocation}
    (split : r.allocations = xs ++ [e]) (closed : ∀ x ∈ xs, x.isOpen = false) : r.latestEntry = some e := by
  have before : xs.find? (·.isOpen) = none := by simpa using closed
  rw [UnitRecord.latestEntry, split, List.find?_append, before, List.getLast?_concat]
  cases isOpen : e.isOpen with
  | true => simp [isOpen]
  | false => simp [isOpen]

theorem takeDelta_books {r : UnitRecord} {xs : List Allocation} {e : Allocation}
    (unit : (s.train t).tag = some tag) (books : booksMass (s.train t).state = true)
    (found : s.findUnit tag = some r) (split : r.allocations = xs ++ [e])
    (closed : ∀ x ∈ xs, x.isOpen = false) (d : Grams) :
    s.takeDelta t d = (s.onUnit tag fun r => r.book d).bookVessel e.slot d := by
  rw [State.takeDelta, unit]
  dsimp only
  rw [if_pos books, State.bookTrain, found, Option.bind_some, latestEntry_last split closed]

theorem takeDelta_discards (rests : booksMass (s.train t).state = false) (d : Grams) :
    s.takeDelta t d = s := by
  rw [State.takeDelta, rests]
  split <;> rfl

theorem takeDelta_zero (s : State) (t : TrainId) : s.takeDelta t 0 = s := by
  have books (tag : Tag) : s.bookTrain tag 0 = s := by
    unfold State.bookTrain
    split
    · rfl
    · rw [onUnit_same s tag unitBook_zero, bookVessel_zero]
  unfold State.takeDelta
  split
  · rw [books, ite_self]
  · rfl

/-! ## The answer of a train (R81, R89) -/

/-- A halt bears on no train's record, vessel or unit. -/
theorem halt_keeps (s : State) :
    s.halt.arbiter = s.arbiter ∧ s.halt.slots = s.slots ∧ s.halt.register = s.register := by
  by_cases halted : s.control.line = .halted
  · rw [halt_halted halted]
    exact ⟨rfl, rfl, rfl⟩
  · have rest := (halt_done halted).rest
    exact ⟨by rw [rest], by rw [rest], by rw [rest]⟩

theorem raise_keeps (s : State) (kind : ConditionKind) (origin : Origin) (detail : Detail) :
    (s.raise kind origin detail).arbiter = s.arbiter ∧ (s.raise kind origin detail).slots = s.slots ∧
      (s.raise kind origin detail).register = s.register := by
  unfold State.raise
  dsimp only
  split
  · exact halt_keeps _
  · exact ⟨rfl, rfl, rfl⟩

theorem train_raise (s : State) (t : TrainId) (kind : ConditionKind) (origin : Origin) (detail : Detail) :
    (s.raise kind origin detail).train t = s.train t := by
  obtain ⟨arbiter, -, -⟩ := raise_keeps s kind origin detail
  rw [State.train, arbiter]
  rfl

theorem testDischarge_high {d : Nat} (high : 2000 < d) (s : State) (t : TrainId) :
    s.testDischarge t d = s.raise .manifoldOverpressure (.train t) { first := d, second := none } :=
  if_pos high

theorem testDischarge_low {d : Nat} (low : d ≤ 2000) (s : State) (t : TrainId) : s.testDischarge t d = s :=
  if_neg (Nat.not_lt.mpr low)

theorem testDischarge_keeps (s : State) (t : TrainId) (d : Nat) :
    (s.testDischarge t d).arbiter = s.arbiter ∧ (s.testDischarge t d).slots = s.slots ∧
      (s.testDischarge t d).register = s.register := by
  unfold State.testDischarge
  split
  · exact raise_keeps ..
  · exact ⟨rfl, rfl, rfl⟩

/-- The state in which a train answer's delta is taken: the answer is heard, and the discharge tested. -/
def discharged (s : State) (t : TrainId) (a : TrainAnswer) : State :=
  (heardAt (.train t) a.moment s).testDischarge t a.discharge

theorem discharged_keeps (s : State) (t : TrainId) (a : TrainAnswer) :
    (discharged s t a).arbiter = s.arbiter ∧ (discharged s t a).slots = s.slots ∧
      (discharged s t a).register = s.register := by
  obtain ⟨arbiter, slots, register⟩ := testDischarge_keeps (heardAt (.train t) a.moment s) t a.discharge
  refine ⟨arbiter.trans ?_, slots.trans ?_, register.trans (heardAt_register ..)⟩
  · rw [heardAt, setNode_arbiter, State.advanceTo, advance_arbiter]
  · rw [heardAt, setNode_slots, State.advanceTo, advance_slots]

/-- The train of an answer that shows its compressor FAILED faults, after all else (R81, R90). -/
def compressorTaken (t : TrainId) (a : TrainAnswer) (s : State) : State :=
  if a.compressor = .failed then s.faultTrain t else s

theorem exec_trainAnswer {a : TrainAnswer} (runs : s.resetPin = false)
    (heard : (s.node (.train t)).silent = false) (reports : a.reports = []) {z : State}
    (taken : z = (discharged s t a).takeDelta t a.delta) :
    exec (.trainAnswer t a) s = .next (compressorTaken t a
      (if (s.train t).state = .tailing ∧ (z.train t).state = .tailing ∧ a.delta = 0 then z.endTail t
      else z)).afterEvent := by
  have quantities : takeTrain t a s = trainQuantities t (s.train t).state a (heardAt (.train t) a.moment s) := by
    rw [takeTrain, takeAnswer_heard heard, reports, forAll_nil]
  have executed : exec (.trainAnswer t a) s = .next (takeTrain t a s).afterEvent :=
    congrArg Host.Outcome.next (event_eq runs _)
  rw [executed, quantities, taken]
  unfold trainQuantities compressorTaken discharged
  simp only [beq_iff_eq, Bool.and_eq_true, and_assoc]

/-- An answer that ends no tail. -/
theorem exec_trainAnswer_goesOn {a : TrainAnswer} (runs : s.resetPin = false)
    (heard : (s.node (.train t)).silent = false) (reports : a.reports = [])
    (goes : (s.train t).state = .tailing → a.delta ≠ 0) {z : State}
    (taken : (discharged s t a).takeDelta t a.delta = z) :
    (a.compressor ≠ .failed → exec (.trainAnswer t a) s = .next z.afterEvent) ∧
    (a.compressor = .failed → exec (.trainAnswer t a) s = .next (z.faultTrain t).afterEvent) := by
  rw [exec_trainAnswer runs heard reports taken.symm, if_neg fun ends => goes ends.1 ends.2.2]
  exact ⟨fun works => by rw [compressorTaken, if_neg works], fun failed => by rw [compressorTaken, if_pos failed]⟩

end

/-! ## A train fault (R90) -/

/-- A train without a station, FAULTED. -/
def faultedTrain : Train where
  state := .faulted
  lastClass := none
  carried := none
  station := none
  tag := none
  slot := none
  purgeEnd := none
  tailEnd := none

section
variable {s : State} {t : TrainId} {i : StationId} {tag : Tag}

theorem faultTrain_rests (out : (s.train t).state = .faulted ∨ (s.train t).state = .outOfService) :
    s.faultTrain t = s := by
  unfold State.faultTrain
  dsimp only
  obtain state | state := out
  all_goals rw [state]

theorem train_stripTrain (s : State) (t : TrainId) : (s.stripTrain t).train t = faultedTrain := by
  rw [State.stripTrain, train_onTrain]
  rfl

theorem stripTrain_eq (unit : (s.train t).tag = some tag) :
    s.stripTrain t = ((s.onUnit tag UnitRecord.closeEntry).stopTrainOnce t).setTrain t faultedTrain := by
  rw [State.stripTrain, unit]
  rfl

/-- The fault's entry to FAULTED bears on no station, and takes no time. -/
theorem stripTrain_keeps (s : State) (t : TrainId) :
    (s.stripTrain t).stations = s.stations ∧ (s.stripTrain t).now = s.now := by
  have orders (u : State) (kind : OrderKind) :
      (u.orderTrainOnce t kind).stations = u.stations ∧ (u.orderTrainOnce t kind).now = u.now := by
    unfold State.orderTrainOnce
    split <;> exact ⟨rfl, rfl⟩
  have stops (u : State) : (u.stopTrainOnce t).stations = u.stations ∧ (u.stopTrainOnce t).now = u.now := by
    rw [State.stopTrainOnce, (orders _ _).1, (orders _ _).1, (orders _ _).1, (orders _ _).2, (orders _ _).2,
      (orders _ _).2]
    exact ⟨rfl, rfl⟩
  unfold State.stripTrain
  dsimp only
  rw [onTrain_stations, onTrain_now, (stops _).1, (stops _).2]
  split <;> exact ⟨rfl, rfl⟩

theorem station_stripTrain (s : State) (t : TrainId) (i : StationId) :
    (s.stripTrain t).station i = s.station i := by
  rw [State.station, (stripTrain_keeps s t).1]
  rfl

/-- The stop and close orders of an IDLE train's fault (R90, R94). -/
def idleStopped (s : State) (t : TrainId) : State := if s.halted then s.stopTrainAfterHalt t else s.stopTrain t

theorem train_idleStopped (s : State) (t : TrainId) : (idleStopped s t).train t = s.train t := by
  have orders (u : State) (kind : OrderKind) : (u.orderTrainAfterHalt t kind).train t = u.train t := by
    unfold State.orderTrainAfterHalt
    split <;> rfl
  unfold idleStopped
  split
  · rw [State.stopTrainAfterHalt, orders, orders, orders]
  · rfl

theorem faultTrain_idle (idle : (s.train t).state = .idle) :
    s.faultTrain t = ((idleStopped s t).setTrain t { s.train t with
      state := .faulted, lastClass := none }).raise .trainFault (.train t) { first := 0, second := none } := by
  unfold State.faultTrain
  dsimp only
  rw [idle]
  show ((idleStopped s t).onTrain t _).raise _ _ _ = _
  rw [onTrain_eq, train_idleStopped]
  rfl

theorem faultTrain_tailing (tails : (s.train t).state = .tailing) :
    s.faultTrain t = (match (s.train t).station with
      | some i => (s.stripTrain t).dropTrain i
      | none => s.stripTrain t).raise .trainFault (.train t) (trainFaultDetail (s.train t).station) := by
  cases station : (s.train t).station with
  | none => simp [State.faultTrain, tails, station]
  | some i => simp [State.faultTrain, tails, station]

theorem faultTrain_serving (serves : Tails (s.train t).state) :
    s.faultTrain t = (match (s.train t).station with
      | some i => (s.stripTrain t).stationTrainFault i
      | none => s.stripTrain t).raise .trainFault (.train t) (trainFaultDetail (s.train t).station) := by
  obtain state | state | state | state := serves
  all_goals
    cases station : (s.train t).station with
    | none => simp [State.faultTrain, state, station]
    | some i => simp [State.faultTrain, state, station]

/-! ### The station of a faulted train (R62) -/

theorem stationTrainFault_elsewhere (phase : (s.station i).phase ≠ .evacuate) :
    s.stationTrainFault i = s.dropTrain i := by
  rw [State.stationTrainFault, if_neg (by simpa using phase)]

theorem stationTrainFault_evacuate (phase : (s.station i).phase = .evacuate) :
    s.stationTrainFault i =
      ((((s.onStation i fun x => { x with train := none, awaitingVessel := false }).closeEvac i).onStation i
        fun x => { x with phase := .trainWait, nextPhase := none }).watchEntry (i.val + 1) (s.station i).unit
          .trainWait).joinRequests i ((s.station i).requestTime.getD s.now) := by
  have unit : (((s.onStation i fun x => { x with train := none, awaitingVessel := false }).closeEvac i).station
      i).unit = (s.station i).unit := by
    obtain ⟨valve, order, station⟩ :=
      station_closeEvac (s.onStation i fun x => { x with train := none, awaitingVessel := false }) i
    rw [station, station_onStation]
  rw [State.stationTrainFault, if_pos (by simpa using phase), ← unit]
  rfl

/-! ### A FAULTED train through what follows its fault -/

/-- The operations that pause a train at most leave a FAULTED one as it stands. -/
theorem faulted_of_pausedIfDrawing {x y : Train} (same : pausedIfDrawing y = pausedIfDrawing x)
    (out : x.state = .faulted) : y = x := by
  have states : (if y.state = .drawing then TrainState.paused else y.state) =
      if x.state = .drawing then .paused else x.state := congrArg Train.state same
  have state : y.state = x.state := by
    by_cases draws : y.state = .drawing
    · simp [draws, out] at states
    · simpa [draws, out] using states
  have state' : (pausedIfDrawing y).state = y.state := by simp [pausedIfDrawing, state, out]
  calc y = { pausedIfDrawing y with state := y.state } := rfl
    _ = { pausedIfDrawing x with state := x.state } := by rw [same, state]
    _ = x := rfl

theorem pausedIfDrawing_watchEntry (s : State) (t : TrainId) (rank : Nat) (tag : Option Tag) (p : PhaseName) :
    pausedIfDrawing ((s.watchEntry rank tag p).train t) = pausedIfDrawing (s.train t) :=
  watchEntry_same (fun s => pausedIfDrawing (s.train t)) (fun _ _ => rfl) (fun _ _ => rfl)
    (fun s => lineStop_same (fun s => pausedIfDrawing (s.train t)) (fun s i => by rw [stopStation_eq]; rfl)
      (pausedIfDrawing_pauseTrain · t) s) s rank tag p

theorem train_enterPhase_faulted (out : (s.train t).state = .faulted) (i : StationId) (p : StationPhase) :
    (s.enterPhase i p).train t = s.train t :=
  faulted_of_pausedIfDrawing (pausedIfDrawing_watchEntry ..) out

theorem train_startTail_faulted (out : (s.train t).state = .faulted) (u : TrainId) :
    (s.startTail u).train t = s.train t := by
  by_cases same : u = t
  · subst same
    unfold State.startTail
    rw [out]
  · have other (w : State) (f : Train → Train) : (w.onTrain u f).train t = w.train t :=
      train_onTrain_ne w u t f same
    unfold State.startTail
    split
    · exact other ..
    · exact other ..
    · exact other ..
    · exact other ..
    · rfl

/-- A station's fault leaves a FAULTED train as it stands. -/
theorem train_faultStation_faulted (out : (s.train t).state = .faulted) (i : StationId) (f : StationFault) :
    (s.faultStation i f true).train t = s.train t := by
  obtain ⟨-, -, -, -, -, -, arbiter, -⟩ := secured_left s i f
  have entered := faulted_of_pausedIfDrawing (train_entersFaulted s i f t) out
  have before : (secured s i f).train t = s.train t := by
    rw [← entered, State.train, arbiter]
    rfl
  have tails : (tailStarted (secured s i f) i true).train t = (secured s i f).train t := by
    rw [tailStarted, if_pos rfl, State.tailFor]
    split
    · exact train_startTail_faulted (before ▸ out) _
    · rfl
  have left (w : State) : ((w.leaveLists i).onStation i Station.clearWork).train t = w.train t := rfl
  rw [faultStation_steps, left, tails, before]

theorem train_openTrainEntry_ne {u : TrainId} (other : u ≠ t) (k : SlotId) :
    (s.openTrainEntry u k).train t = s.train t := by
  unfold State.openTrainEntry
  split
  · exact train_onTrain_ne _ _ _ _ other
  · rfl

theorem train_drawAfresh_ne {u : TrainId} (other : u ≠ t) : (s.drawAfresh u).train t = s.train t := by
  have outlet : (s.orderOutlet u).train t = s.train t := by
    unfold State.orderOutlet
    split <;> rfl
  have reports (w : State) : (w.reportDrawing u).train t = w.train t := by
    unfold State.reportDrawing
    split
    · exact train_openEvac ..
    · rfl
  rw [State.drawAfresh, reports, State.setTrainState, train_onTrain_ne _ _ _ _ other, ← outlet]
  rfl

theorem train_enterEvacuate_faulted (out : (s.train t).state = .faulted) (i : StationId) (u : TrainId) :
    (s.enterEvacuate i u).train t = s.train t := by
  have counted : (s.onStationUnit i UnitRecord.countEvacuation).train t = s.train t := by
    unfold State.onStationUnit
    split <;> rfl
  unfold State.enterEvacuate
  dsimp only
  rw [← counted] at out ⊢
  refine (train_enterPhase_faulted ?_ i .evacuate).trans ?_
  · exact out
  · rfl

theorem train_startPurge_ne {u : TrainId} (other : u ≠ t) : (s.startPurge u).train t = s.train t :=
  train_onTrain_ne s u t (fun x =>
    { x with state := .purging, purgeEnd := some (s.now + seconds s.limits.trainPurge) }) other

/-- A grant of another train leaves a FAULTED one as it stands. -/
theorem train_grantTrain_faulted {u : TrainId} (out : (s.train t).state = .faulted) (other : u ≠ t)
    (i : StationId) (tag : Tag) (k : SlotId) (cls : VesselClass) :
    (s.grantTrain i tag u k cls).train t = s.train t := by
  generalize held : (((s.setRequests (s.arbiter.requests.filter fun q => q.station != i)).onTrain u fun x =>
    { x with station := some i, tag := some tag, carried := some cls, slot := some k }).openTrainEntry u k) = w
  have same : w.train t = s.train t := by
    rw [← held, train_openTrainEntry_ne other, train_onTrain_ne _ _ _ _ other]
    rfl
  have entered : (w.enterEvacuate i u).train t = s.train t :=
    (train_enterEvacuate_faulted (same ▸ out) i u).trans same
  unfold State.grantTrain
  dsimp only
  rw [held]
  split
  · split
    · rw [train_pauseTrain_ne other.symm, train_drawAfresh_ne other, entered]
    · rw [train_drawAfresh_ne other, entered]
  · rw [train_startPurge_ne other, entered]

theorem grantedTrain_is_idle {risk : Bool} {cls : VesselClass} {u : TrainId}
    (taken : s.grantedTrain i risk cls = some u) : (s.train u).state = .idle := by
  have mem : u ∈ s.eligibleTrains i risk := by
    unfold State.grantedTrain at taken
    dsimp only at taken
    split at taken
    · rename_i found
      cases taken
      exact List.mem_of_find?_eq_some found
    · exact List.mem_of_head? taken
  exact ((eligible_iff ..).mp (List.mem_filter.mp mem).2).2.1

/-- A grant scan leaves a FAULTED train as it stands: it grants IDLE ones, and faults only stations. -/
theorem train_scanRequest_faulted (out : (s.train t).state = .faulted) (q : Request) :
    (s.scanRequest q).train t = s.train t := by
  unfold State.scanRequest
  split
  · rfl
  split
  · split
    · rename_i taken _
      split
      · unfold State.exhaustRequest
        dsimp only
        have raised := train_raise (s.setRequests (s.arbiter.requests.filter fun p => p.station != q.station)) t
          .allocExhausted (.station q.station) (one ‹Tag›)
        refine (train_faultStation_faulted ?_ ..).trans raised
        rw [raised]
        exact out
      · refine train_grantTrain_faulted out ?_ ..
        rintro rfl
        simp [grantedTrain_is_idle taken] at out
    · rfl
  · rfl

theorem train_grantScan_faulted (out : (s.train t).state = .faulted) : s.grantScan.train t = s.train t :=
  forAll_keeps (fun u => u.train t = s.train t) State.scanRequest
    (fun u q same => (train_scanRequest_faulted (by rw [same]; exact out) q).trans same) _ s rfl

theorem train_dropTrain (s : State) (i : StationId) (t : TrainId) : (s.dropTrain i).train t = s.train t := rfl

theorem train_stationTrainFault_faulted (out : (s.train t).state = .faulted) (i : StationId) :
    (s.stationTrainFault i).train t = s.train t := by
  by_cases phase : (s.station i).phase = .evacuate
  · have closed : ((s.onStation i fun x => { x with train := none, awaitingVessel := false }).closeEvac i).train t =
        s.train t := by
      unfold State.closeEvac
      split <;> rfl
    have entered := (train_enterPhase_faulted (closed ▸ out) i .trainWait).trans closed
    rw [State.stationTrainFault, if_pos (by simpa using phase)]
    dsimp only
    rw [State.joinRequests, train_grantScan_faulted (by rw [← entered] at out; exact out), ← entered]
    rfl
  · rw [stationTrainFault_elsewhere phase, train_dropTrain]

/-- A train fault leaves the train FAULTED, whatever the scan of its station's request grants. -/
theorem train_faultTrain (serves : Tails (s.train t).state ∨ (s.train t).state = .tailing) :
    (s.faultTrain t).train t = faultedTrain := by
  have stripped := train_stripTrain s t
  obtain serves | tails := serves
  · rw [faultTrain_serving serves, train_raise]
    split
    · exact (train_stationTrainFault_faulted (by rw [stripped]; rfl) _).trans stripped
    · exact stripped
  · rw [faultTrain_tailing tails, train_raise]
    split
    · rw [train_dropTrain, stripped]
    · exact stripped

/-! ### The orders of a fault, unless they are outstanding (R90, R94; log 50) -/

theorem orderOutstanding_iff (s : State) (n : Node) (kind : OrderKind) :
    s.orderOutstanding n kind = true ↔ ∃ o ∈ s.loop.orders, o.node = n ∧ o.kind = kind := by
  simp [State.orderOutstanding]

theorem haltOrderOutstanding_iff (s : State) (n : Node) (kind : OrderKind) :
    s.haltOrderOutstanding n kind = true ↔
      ∃ o ∈ s.loop.orders, o.node = n ∧ o.kind = kind ∧ o.cause = .halt := by
  simp [State.haltOrderOutstanding, and_assoc]

theorem orderTrainOnce_unique {once : State → OrderKind → State}
    (held : ∀ x k, (∃ o ∈ x.loop.orders, o.node = .train t ∧ o.kind = k) → once x k = x)
    (free : ∀ x k, (∀ o ∈ x.loop.orders, ¬ (o.node = .train t ∧ o.kind = k)) →
      once x k = x.issue .pathArbiter (.train t) k) (x : State) (k : OrderKind) :
    once x k = x.orderTrainOnce t k := by
  by_cases out : ∃ o ∈ x.loop.orders, o.node = .train t ∧ o.kind = k
  · rw [held x k out, State.orderTrainOnce, if_pos ((orderOutstanding_iff ..).mpr out)]
  · rw [free x k (by simpa using out), State.orderTrainOnce, if_neg ((orderOutstanding_iff ..).not.mpr out)]
    rfl

theorem orderTrainAfterHalt_unique {afterHalt : State → OrderKind → State}
    (held : ∀ x k, (∃ o ∈ x.loop.orders, o.node = .train t ∧ o.kind = k ∧ o.cause = .halt) →
      afterHalt x k = x)
    (free : ∀ x k, (∀ o ∈ x.loop.orders, ¬ (o.node = .train t ∧ o.kind = k ∧ o.cause = .halt)) →
      afterHalt x k = x.issue .pathArbiter (.train t) k) (x : State) (k : OrderKind) :
    afterHalt x k = x.orderTrainAfterHalt t k := by
  by_cases out : ∃ o ∈ x.loop.orders, o.node = .train t ∧ o.kind = k ∧ o.cause = .halt
  · rw [held x k out, State.orderTrainAfterHalt, if_pos ((haltOrderOutstanding_iff ..).mpr out)]
  · rw [free x k (by simpa using out), State.orderTrainAfterHalt,
      if_neg ((haltOrderOutstanding_iff ..).not.mpr out)]
    rfl

end

/-- Settles O35: the answer by the train's state, the fault by the train's state, and the vessel that fills. -/
theorem trainAnswerBooksOrFaults : Obligations.TrainAnswerBooksOrFaults := by
  unfold Obligations.TrainAnswerBooksOrFaults
  refine ⟨?_, ?_, ?_, ⟨?_, ?_⟩, ?_⟩
  · intro s t a runs heard reports
    obtain ⟨arbiter, slots, register⟩ := discharged_keeps s t a
    have train : (discharged s t a).train t = s.train t := by rw [State.train, arbiter]; rfl
    refine ⟨heardAt (.train t) a.moment s, discharged s t a, rfl, fun high => testDischarge_high high _ t,
      fun low => testDischarge_low low _ t, ?_, fun state => ?_⟩
    · intro tag r xs e v state unit found split closed vessel
      have books : booksMass (s.train t).state = true := by
        obtain state | state | state | ⟨state, -⟩ := state
        all_goals rw [state]; rfl
      have goes : (s.train t).state = .tailing → a.delta ≠ 0 := by
        obtain state | state | state | ⟨-, some_⟩ := state
        · simp [state]
        · simp [state]
        · simp [state]
        · exact fun _ => some_
      have taken := takeDelta_books (s := discharged s t a) (t := t) (tag := tag) (by rw [train]; exact unit)
        (by rw [train]; exact books) (by rw [State.findUnit, register]; exact found) split closed a.delta
      have slot : ((discharged s t a).onUnit tag fun r => r.book a.delta).slot e.slot = s.slot e.slot := by
        rw [State.slot, onUnit_slots, slots]
        rfl
      rw [bookVessel_eq (slot ▸ vessel) rfl, slot] at taken
      refine ⟨v.book a.delta, _, _, fun none => by rw [none, vesselBook_zero], vesselBook_eq v, rfl,
        fun part => if_neg part, fun part full => if_pos ⟨part, full⟩,
        exec_trainAnswer_goesOn runs heard reports goes taken⟩
    · have discards : booksMass (s.train t).state = false ∧ (s.train t).state ≠ .tailing := by
        obtain state | state | state | state := state
        all_goals rw [state]; exact ⟨rfl, by decide⟩
      exact exec_trainAnswer_goesOn runs heard reports (fun tails => absurd tails discards.2)
        (takeDelta_discards (by rw [train]; exact discards.1) _)
  · intro s t a i tag runs heard reports tails serves unit none
    obtain ⟨arbiter, -, -⟩ := discharged_keeps s t a
    have train : (discharged s t a).train t = s.train t := by rw [State.train, arbiter]; rfl
    have taken : discharged s t a = (discharged s t a).takeDelta t a.delta := by rw [none, takeDelta_zero]
    have executed := exec_trainAnswer runs heard reports taken
    rw [if_pos ⟨tails, by rw [train]; exact tails, none⟩,
      endTail_eq (by rw [train]; exact serves) (by rw [train]; exact unit), train] at executed
    refine ⟨heardAt (.train t) a.moment s, discharged s t a, _, _, rfl, fun high => testDischarge_high high _ t,
      fun low => testDischarge_low low _ t, rfl, rfl, fun works => ?_, fun failed => ?_⟩
    · rw [compressorTaken, if_neg works] at executed
      exact executed
    · rw [compressorTaken, if_pos failed] at executed
      exact executed
  · refine fun s t => ⟨faultTrain_rests, fun in_ service => ?_⟩
    by_cases idle : (s.train t).state = .idle
    · rw [faultTrain_idle idle, train_raise, train_setTrain]
      exact ⟨rfl, rfl, fun other => absurd idle other⟩
    · rw [train_faultTrain (by cases state : (s.train t).state <;> simp_all [Tails])]
      exact ⟨rfl, rfl, fun _ => ⟨rfl, rfl, rfl, rfl, rfl, rfl⟩⟩
  · refine fun s i => ⟨closeEvac_unshut, fun shut => closeEvac_shut ?_⟩
    obtain valve | valve := shut
    · simp [valve]
    · simp [valve]
  · intro s t once afterHalt held free heldHalt freeHalt
    have once_eq := orderTrainOnce_unique held free
    have afterHalt_eq := orderTrainAfterHalt_unique heldHalt freeHalt
    simp only [once_eq, afterHalt_eq]
    refine ⟨fun i tag serves unit => ⟨_, _, rfl, rfl, fun tails => ?_,
        fun state => ⟨fun phase => ?_, fun phase => ?_⟩⟩,
      fun idle => ⟨idleStopped s t, fun on => ?_, fun halted => ?_, faultTrain_idle idle⟩⟩
    · rw [faultTrain_tailing tails, serves, stripTrain_eq unit]
      rfl
    · rw [faultTrain_serving state, serves]
      dsimp only
      rw [stationTrainFault_elsewhere (by rw [station_stripTrain]; exact phase), stripTrain_eq unit]
      rfl
    · refine ⟨_, rfl, ?_⟩
      rw [faultTrain_serving state, serves]
      dsimp only
      rw [stationTrainFault_evacuate (by rw [station_stripTrain]; exact phase), station_stripTrain,
        (stripTrain_keeps s t).2, stripTrain_eq unit]
      rfl
    · rw [idleStopped, if_neg (by simpa [State.halted] using on)]
      rfl
    · rw [idleStopped, if_pos (by simpa [State.halted] using halted)]
      rfl
  · intro s k v vessel
    refine ⟨⟨_, rfl, fun agent => ?_, fun other => ?_⟩,
      fun d => ⟨_, rfl, fun part full => ?_, fun rests => ?_⟩⟩
    · rw [vesselFilled_eq vessel, if_pos agent]
    · rw [vesselFilled_eq vessel, if_neg other]
    · rw [bookVessel_eq vessel rfl, if_pos ⟨part, full⟩]
    · rw [bookVessel_eq vessel rfl, if_neg (by tauto)]

end Sys2Proof.Proofs

/-!
PROOFS. Family 05: the vessels: a bay answer (O38), the vessel chosen for a class (O39), the full test (O40) and
REMOVE-VESSEL (O42).
-/

namespace Sys2Proof.Proofs

open Sys2Proof Sys2Proof.Machine Sys2Proof.Laws

section
variable {s : State} {k : SlotId}

/-! ## A bay answer (R99, R106) -/

theorem hasFeeders_iff (s : State) (k : SlotId) : s.hasFeeders k = true ↔
    (∃ t, (s.train t).slot = some k) ∨ ∃ bk, (s.bank bk).drainSlot = some k := by
  simp [hasFeeders_eq]

theorem overfilled_iff (v : Vessel) (net : Grams) : overfilled v net = true ↔
    v.initial ≤ net ∧ (105 : Int) * (v.fill - v.initial) < 100 * (net - v.initial) := by
  rw [overfilled, Bool.and_eq_true, decide_eq_true_iff, decide_eq_true_iff, and_comm]
  rfl

/-- The overfill test of a slot that holds a vessel, once the bay has answered (R106). -/
theorem testOverfill_eq {v : Vessel} {p : Platform} (vessel : (s.slot k).vessel = some v)
    (platform : (s.slot k).platform = some p) :
    s.testOverfill k =
      if s.hasFeeders k && overfilled v p.net then
        s.raise .vesselOverfill (.slot k) { first := p.net - v.initial, second := none }
      else s := by
  rw [State.testOverfill, vessel, platform]
  rfl

/-- A bay answer bears on a silence no further than to end it. -/
theorem takeBay_eq (a : BayAnswer) (s : State) :
    takeBay a s = (heardAt .bay a.moment s).takeBayReadings a := by
  rw [takeBay, State.takeAnswer]
  exact ite_self _

/-- Every slot takes its own reading of the platforms, whatever the order (R99). -/
theorem slot_writePlatforms (readings : Vector Platform 12) (s : State) (k : SlotId) :
    (forAll slotIds s (State.writePlatform readings)).slot k =
      { s.slot k with platform := some (readings.get k) } := by
  obtain ⟨-, written, -⟩ := forAll_each (f := State.writePlatform readings) (Inv := fun _ => True)
    (Before := fun k t => t.slot k = s.slot k)
    (After := fun k t => t.slot k = { s.slot k with platform := some (readings.get k) })
    (fun t k _ stood => ⟨trivial, by rw [State.writePlatform, slot_setSlot, stood]⟩)
    (fun t k j _ _ ne stood => (slot_setSlot_ne _ _ _ _ (Ne.symm ne)).trans stood)
    (fun t k j _ _ ne done => (slot_setSlot_ne _ _ _ _ (Ne.symm ne)).trans done) slotIds (by decide) s
    trivial fun _ _ => rfl
  exact written k (mem_slotIds k)

theorem writePlatforms_slots (readings : Vector Platform 12) (s : State) :
    ({ forAll slotIds s (State.writePlatform readings) with slots := s.slots } : State) = s := by
  have written := forAll_setSlot slotIds s fun s k => { s.slot k with platform := some (readings.get k) }
  exact congrArg (fun t : State => { t with slots := s.slots }) written

theorem heardAt_slots (n : Node) (m : Moment) (s : State) : (heardAt n m s).slots = s.slots := by
  rw [heardAt, setNode_slots, State.advanceTo, advance_slots]

/-! ## The vessel chosen for a class (R100) -/

theorem holds_iff (x : Slot) (cls : VesselClass) (st : VesselState) :
    x.holds cls st = true ↔ ∃ v, x.vessel = some v ∧ v.cls = cls ∧ v.state = st := by
  rw [Slot.holds]
  cases x.vessel with
  | none => simp
  | some v => simp

/-- The first slot with a property is the lowest one. -/
theorem find?_slotIds {p : SlotId → Bool} (holds : p k = true) (lowest : ∀ j < k, ¬ p j = true) :
    slotIds.find? p = some k := by
  have ids : slotIds = List.finRange 12 := by decide
  rw [ids, List.find?_eq_some_iff_getElem]
  refine ⟨holds, k.val, by simp, by simp, fun j before => ?_⟩
  rw [List.getElem_finRange]
  simpa using lowest ⟨j, by omega⟩ before

theorem find?_slotIds_none {p : SlotId → Bool} (fails : ∀ j, ¬ p j = true) : slotIds.find? p = none :=
  List.find?_eq_none.mpr fun j _ => fails j

/-! ## REMOVE-VESSEL (R110 to R112) -/

theorem discrepant_iff {v : Vessel} {limits : Settings} {net : Grams} {gain : Int} {diff : Nat}
    (gained : gain = (net : Int) - v.initial) (differs : diff = (gain - v.booked).natAbs) :
    v.discrepant limits net = true ↔
      limits.discrepancyGrams < diff ∧ limits.discrepancyPercent * v.booked < 100 * diff := by
  rw [differs, gained, Vessel.discrepant, Bool.and_eq_true, decide_eq_true_iff, decide_eq_true_iff]
  rfl

/-- The state in which a removed vessel's slot is freed: a discrepancy has been reported (R111). -/
def reconciled (s : State) (k : SlotId) (v : Vessel) (net : Grams) : State :=
  if v.discrepant s.control.settings net then
    s.raise .vesselDiscrepancy (.slot k) { first := v.booked, second := some (v.gain net) }
  else s

theorem slot_reconciled (s : State) (k : SlotId) (v : Vessel) (net : Grams) :
    (reconciled s k v net).slot k = s.slot k := by
  unfold reconciled
  split
  · rw [raise_quiet (by decide)]
    rfl
  · rfl

theorem doRemoveVessel_accepted {slot : Nat} {v : Vessel} {p : Platform} (at_ : slotOf slot = some k)
    (vessel : (s.slot k).vessel = some v) (part : v.state ≠ .filling) (unfed : s.hasFeeders k = false)
    (heard : (s.node .bay).silent = false) (platform : (s.slot k).platform = some p) :
    doRemoveVessel slot s =
      ((reconciled s k v p.net).setSlot k { s.slot k with vessel := none }).send [okLine .removeVessel
        (field "slot" (slotText k) ++ field "id" (numText v.id) ++
          field "class" (ascii (vesselClassWord v.cls)) ++ field "booked" (numText v.booked) ++
          field "gain" (intText (v.gain p.net)) ++
          field "discrepant" (yesNo (v.discrepant s.control.settings p.net)))] := by
  have net : s.scaleNet k = p.net := by rw [State.scaleNet, platform]
  rw [← slot_reconciled s k v p.net, doRemoveVessel, at_]
  dsimp only
  rw [vessel]
  dsimp only
  rw [if_neg (by simpa using part), unfed, State.isSilent, heard, net]
  rfl

end

/-- Settles O38: the platforms by `slot_writePlatforms`, the test of a slot by `testOverfill_eq`. -/
theorem bayAnswerWritesAndTestsOverfill : Obligations.BayAnswerWritesAndTestsOverfill := by
  unfold Obligations.BayAnswerWritesAndTestsOverfill
  refine ⟨fun s a runs => ?_, fun s k v p vessel platform => ?_⟩
  · have slots := heardAt_slots .bay a.moment s
    have taken : exec (.bayAnswer a) s = .next (takeBay a s).afterEvent :=
      congrArg Host.Outcome.next (event_eq runs _)
    rw [takeBay_eq] at taken
    refine ⟨_, fun k => ?_, ?_, taken⟩
    · rw [slot_writePlatforms, State.slot, slots]
      rfl
    · rw [← slots]
      exact writePlatforms_slots a.platforms _
  · have tests := (Bool.and_eq_true ..).to_iff.trans (and_congr (hasFeeders_iff s k) (overfilled_iff v p.net))
    rw [testOverfill_eq vessel platform]
    refine ⟨fun fed above exceeds => if_pos (tests.mpr ⟨fed, above, exceeds⟩),
      fun rests => if_neg fun raised => ?_⟩
    obtain ⟨fed, above, exceeds⟩ := tests.mp raised
    obtain unfed | below | within := rests
    · exact unfed fed
    · exact Nat.not_lt.mpr above below
    · exact Int.not_lt.mpr within exceeds

/-- Settles O39: the FILLING vessels are searched before the READY ones, each from the lowest slot. -/
theorem vesselChoicePrefersFilling : Obligations.VesselChoicePrefersFilling := by
  unfold Obligations.VesselChoicePrefersFilling
  intro s cls is spelled
  have holds (k : SlotId) (st : VesselState) : is k st ↔ (s.slot k).holds cls st = true := by
    rw [spelled, holds_iff]
  simp only [holds]
  refine ⟨fun k filling lowest => ?_, fun k unfilled ready lowest => ?_, fun none => ?_⟩
  · rw [State.chooseVessel, find?_slotIds filling lowest]
    rfl
  · rw [State.chooseVessel, find?_slotIds_none unfilled, find?_slotIds ready lowest]
    rfl
  · rw [State.chooseVessel, find?_slotIds_none fun j => (none j).1, find?_slotIds_none fun j => (none j).2]
    rfl

/-- Settles O40: `vesselBook_eq` by the vessel's state and its fill-limit. -/
theorem bookingTestsTheFillLimit : Obligations.BookingTestsTheFillLimit := by
  unfold Obligations.BookingTestsTheFillLimit
  refine fun v d => ⟨vesselBook_zero v, fun some_ => ?_⟩
  rw [vesselBook_eq v (Nat.pos_iff_ne_zero.mp some_)]
  refine ⟨fun ready below => ?_, fun filling below => ?_, fun part full => ?_, fun full => ?_⟩
  · rw [if_neg (by simpa [ready] using below)]
  · rw [if_neg (by simpa [filling] using below), ← filling]
  · rw [if_pos (.inr full)]
  · rw [if_pos (.inl full), ← full]

/-- Settles O42: `doRemoveVessel_accepted`, by the discrepancy. -/
theorem removedVesselIsReconciled : Obligations.RemovedVesselIsReconciled := by
  unfold Obligations.RemovedVesselIsReconciled
  intro s slot k v p gain diff bad takes at_ vessel part trains banks heard platform gained differs spelled
  have unfed : s.hasFeeders k = false := by
    rw [Bool.eq_false_iff, ne_eq, hasFeeders_iff]
    rintro (⟨t, feeds⟩ | ⟨bk, feeds⟩)
    · exact trains t feeds
    · exact banks bk feeds
  have removes : exec (.removeVessel slot) s = .next (doRemoveVessel slot s).afterEvent :=
    exec_rowFor (.removeVessel slot) s takes
  have discrepant : bad ↔ v.discrepant s.control.settings p.net = true :=
    spelled.trans (discrepant_iff gained differs).symm
  have number : slotText k = numText slot := by rw [slotOf_some at_]; rfl
  have measured : v.gain p.net = gain := gained.symm
  rw [doRemoveVessel_accepted at_ vessel part unfed heard platform, number, measured] at removes
  refine ⟨reconciled s k v p.net, _, fun worse => ?_, fun sound => ?_, fun word => rfl, fun worse => ?_,
    fun sound => ?_⟩
  · rw [reconciled, if_pos (discrepant.mp worse), measured]
  · rw [reconciled, if_neg (discrepant.not.mp sound)]
  · rw [removes, discrepant.mp worse]
    rfl
  · rw [removes, Bool.eq_false_iff.mpr (discrepant.not.mp sound)]
    rfl

end Sys2Proof.Proofs

/-!
PROOFS. Family 05: a condenser answer, its temperatures and deltas, and the faults of a bank (O47).
-/

namespace Sys2Proof.Proofs

open Sys2Proof Sys2Proof.Machine Sys2Proof.Laws

/-! ## What the chamber leaves alone of the banks (R128, R129) -/

/-- The states of the two banks. -/
def bankStates (s : State) (bk : BankId) : BankState := (s.bank bk).state

section
variable {s : State} {bk : BankId}

theorem bankStates_of_condenser {t : State} (same : t.condenser = s.condenser) : bankStates t = bankStates s := by
  funext bk
  cases bk with
  | a => exact congrArg (fun c : Condenser => c.bankA.state) same
  | b => exact congrArg (fun c : Condenser => c.bankB.state) same

/-- A write that keeps a bank's state. -/
theorem bankStates_onBank (bk : BankId) (f : Bank → Bank) (keeps : ∀ x, (f x).state = x.state) :
    bankStates (s.onBank bk f) = bankStates s := by
  funext other
  by_cases same : other = bk
  · rw [same, bankStates, bank_onBank, keeps, bankStates]
  · rw [bankStates, bank_onBank_ne s f same, bankStates]

@[simp] theorem bankStates_onChamber (f : Chamber → Chamber) : bankStates (s.onChamber f) = bankStates s := rfl

@[simp] theorem bankStates_onUnit (tag : Tag) (f : UnitRecord → UnitRecord) :
    bankStates (s.onUnit tag f) = bankStates s := rfl

@[simp] theorem bankStates_orderChamber (kind : OrderKind) :
    bankStates (s.orderChamber kind) = bankStates s := rfl

@[simp] theorem bankStates_spendChamberCredit : bankStates s.spendChamberCredit = bankStates s := rfl

@[simp] theorem bankStates_enterChamberPhase (p : ChamberPhase) :
    bankStates (s.enterChamberPhase p) = bankStates s :=
  bankStates_of_condenser (watchEntry_condenser ..)

@[simp] theorem bankStates_onChamberUnit (f : UnitRecord → UnitRecord) :
    bankStates (s.onChamberUnit f) = bankStates s := by
  unfold State.onChamberUnit
  split <;> rfl

@[simp] theorem bankStates_handCabinet : bankStates s.handCabinet = bankStates s := by
  unfold State.handCabinet
  split
  · exact bankStates_onBank _ _ fun _ => rfl
  · rfl

@[simp] theorem bankStates_writeLastFoam (tag : Tag) (g : Grams) :
    bankStates (s.writeLastFoam tag g) = bankStates s := by
  unfold State.writeLastFoam
  split
  · rfl
  · exact bankStates_onBank _ _ fun _ => rfl

@[simp] theorem bankStates_recordFoam : bankStates s.recordFoam = bankStates s := by
  unfold State.recordFoam
  (repeat' split) <;> simp

/-! ### The phases that the chamber begins -/

@[simp] theorem bankStates_beginPurge (repurge : Bool) : bankStates (s.beginPurge repurge) = bankStates s := by
  simp [State.beginPurge]

@[simp] theorem bankStates_beginShred : bankStates s.beginShred = bankStates s := by
  simp [State.beginShred]

@[simp] theorem bankStates_beginClear : bankStates s.beginClear = bankStates s := by
  simp [State.beginClear]

@[simp] theorem bankStates_takeHead (tag : Tag) (rest : List Tag) :
    bankStates (s.takeHead tag rest) = bankStates s := by
  simp [State.takeHead]

@[simp] theorem bankStates_tryShred : bankStates s.tryShred = bankStates s := by
  unfold State.tryShred
  (repeat' split) <;> simp

@[simp] theorem bankStates_testChamber : bankStates s.testChamber = bankStates s := by
  unfold State.testChamber
  (repeat' split) <;> simp

@[simp] theorem bankStates_endShred : bankStates s.endShred = bankStates s := by
  unfold State.endShred State.endChamberPhase
  dsimp only
  rw [bankStates_testChamber]
  (repeat' split) <;> simp

@[simp] theorem bankStates_returnToShred : bankStates s.returnToShred = bankStates s := by
  unfold State.returnToShred
  dsimp only
  split <;> simp

@[simp] theorem bankStates_faultChamberIn (p : ChamberPhase) :
    bankStates (s.faultChamberIn p) = bankStates s := by
  unfold State.faultChamberIn
  dsimp only
  generalize (if s.chamber.phase == .idle && s.chamber.nextPhase.isNone then none else some p) = f
  rw [bankStates_onChamber]
  split <;> simp

@[simp] theorem bankStates_faultChamber : bankStates s.faultChamber = bankStates s :=
  bankStates_faultChamberIn _

@[simp] theorem bankStates_suspendChamber : bankStates s.suspendChamber = bankStates s := by
  unfold State.suspendChamber
  dsimp only
  rw [bankStates_onChamber]
  split <;> simp

@[simp] theorem bankStates_returnChamber : bankStates s.returnChamber = bankStates s := by
  unfold State.returnChamber
  dsimp only
  (repeat' split) <;> simp

/-! ### The bank that condenses, lost and come back -/

@[simp] theorem bankStates_bankLost : bankStates s.bankLost = bankStates s := by
  unfold State.bankLost
  dsimp only
  (repeat' split) <;> simp

@[simp] theorem bankStates_bankCondenses : bankStates s.bankCondenses = bankStates s := by
  unfold State.bankCondenses
  (repeat' split) <;> simp

/-- A bank that enters CONDENSING leaves the state of the other alone. -/
theorem bankStates_tryCondense_other (s : State) (bk : BankId) :
    bankStates (s.tryCondense (otherBank bk)) bk = bankStates s bk := by
  unfold State.tryCondense
  split
  · rw [State.enterCondensing, bankStates_bankCondenses, bankStates,
      bank_onBank_ne _ _ (by cases bk <;> decide)]
    rfl
  · rfl

end

section
variable {s : State} {bk : BankId}

/-! ## Orders and marks at a bank -/

theorem bank_orderBank (s : State) (kind : OrderKind) (bk : BankId) : (s.orderBank kind).bank bk = s.bank bk := by
  cases bk <;> rfl

theorem setBank_bank (s : State) (bk : BankId) : s.setBank bk (s.bank bk) = s := by
  cases bk <;> rfl

theorem halted_eq (s : State) : s.halted = decide (s.control.line = .halted) := beq_eq_decide ..

theorem bank_raise_bankFault (s : State) (origin : Origin) (detail : Detail) (bk : BankId) :
    (s.raise .bankFault origin detail).bank bk = s.bank bk := by
  rw [raise_quiet (by decide)]
  cases bk <;> rfl

/-- The end of an opening, with the number of its close (R145). -/
theorem endOpening_eq (s : State) (bk : BankId) :
    s.endOpening bk = (s.issue .condenser .condenser (.bankDrainClose bk)).setBank bk { s.bank bk with
      drainEnded := true, drainDeadline := none, drainValve := .closing, drainOrder := some s.orderNumber } := by
  cases bk <;> rfl

theorem mayEnd_iff (x : Bank) : x.mayEnd = true ↔ x.state = .drain ∧ x.drainEnded = false ∧ x.paused = false ∧
    (x.drainValve = .opening ∨ x.drainValve = .opened) := by
  simp only [Bank.mayEnd, Bank.drainOpened, Bool.and_eq_true, Bool.or_eq_true, Bool.not_eq_true', beq_iff_eq,
    and_assoc]

theorem mayEnd_of_state {x : Bank} (state : x.state ≠ .drain) : x.mayEnd = false := by
  rw [Bool.eq_false_iff, ne_eq, mayEnd_iff]
  exact fun ends => state ends.1

/-! ## Bank faults (R150) -/

/-- A bank that has entered DEFROST (R143); while HALTED it is paused with its whole time left (R155). -/
def defrosted (s : State) (x : Bank) : Bank :=
  { x with
    state := .defrost, swapPending := false, drained := 0, drainEnded := false, overrunRaised := false
    defrostDeadline := some (s.now + s.control.settings.defrostMax * 1000)
    defrostRemaining :=
      if s.control.line = .halted then some (s.control.settings.defrostMax * 1000) else none
    paused := decide (s.control.line = .halted) }

theorem enterDefrost_eq (s : State) (bk : BankId) : s.enterDefrost bk =
    if s.control.line = .halted then s.setBank bk (defrosted s (s.bank bk))
    else (s.setBank bk (defrosted s (s.bank bk))).issue .condenser .condenser (.heaterOn bk) := by
  unfold State.enterDefrost
  simp only [halted_eq, onBank_control, decide_eq_true_eq]
  rfl

theorem faultDrain_eq (s : State) (bk : BankId) :
    s.faultDrain bk = (s.raise .bankFault (.bank bk) { first := (s.bank bk).drained, second := none }).setBank bk
      { s.bank bk with faultAfterDrain := true } := by
  rw [State.faultDrain, State.onBank, bank_raise_bankFault]
  rfl

/-- The state in which a CONDENSING bank that faults has entered DEFROST, its heater not yet ordered (R150). -/
def lostToDefrost (s : State) (bk : BankId) : State :=
  (((s.raise .bankFault (.bank bk) { first := (s.bank bk).load, second := none }).issue .condenser .condenser
    (.inletValve bk false)).issue .condenser .condenser (.refrigerationStop bk)).setBank bk
      { defrosted s (s.bank bk) with faultAfterDrain := true }

theorem loseBank_eq (s : State) (bk : BankId) : s.loseBank bk =
    if s.control.line = .halted then (lostToDefrost s bk).bankLost.tryCondense (otherBank bk)
    else ((lostToDefrost s bk).issue .condenser .condenser (.heaterOn bk)).bankLost.tryCondense
      (otherBank bk) := by
  have raised (o : Origin) (d : Detail) := raise_quiet (kind := .bankFault) (by decide) s o d
  unfold State.loseBank lostToDefrost
  dsimp only
  rw [enterDefrost_eq, apply_ite State.bankLost, apply_ite (State.tryCondense · (otherBank bk)), raised, raised]
  cases bk <;> rfl

theorem faultBank_condensing (state : (s.bank bk).state = .condensing) : s.faultBank bk = s.loseBank bk := by
  rw [State.faultBank, state]

theorem faultBank_cooling (state : (s.bank bk).state = .cooling ∨ (s.bank bk).state = .cold) :
    s.faultBank bk = ((s.raise .bankFault (.bank bk) { first := (s.bank bk).load, second := none }).issue
      .condenser .condenser (.refrigerationStop bk)).setBank bk
        { s.bank bk with state := .faulted, coolDeadline := none } := by
  have stops : s.faultBank bk = ((s.raise .bankFault (.bank bk) (one (s.bank bk).load)).orderBank
      (.refrigerationStop bk)).onBank bk fun x => { x with state := .faulted, coolDeadline := none } := by
    obtain state | state := state
    · rw [State.faultBank, state]
    · rw [State.faultBank, state]
  rw [stops, State.onBank, bank_orderBank, bank_raise_bankFault]
  rfl

theorem faultBank_draining (state : (s.bank bk).state = .defrost ∨ (s.bank bk).state = .drainWait ∨
    (s.bank bk).state = .drain) : s.faultBank bk = s.faultDrain bk := by
  obtain state | state | state := state
  · rw [State.faultBank, state]
  · rw [State.faultBank, state]
  · rw [State.faultBank, state]

theorem faultBank_warm (state : (s.bank bk).state = .warm) :
    s.faultBank bk = s.raise .bankFault (.bank bk) { first := 0, second := none } := by
  rw [State.faultBank, state]
  rfl

theorem faultBank_faulted (state : (s.bank bk).state = .faulted) : s.faultBank bk = s := by
  rw [State.faultBank, state]

theorem state_loseBank (s : State) (bk : BankId) : ((s.loseBank bk).bank bk).state = .defrost := by
  have entered : bankStates (lostToDefrost s bk) bk = .defrost := by
    rw [bankStates, lostToDefrost, bank_setBank]
    rfl
  have ordered (t : State) (kind : OrderKind) : bankStates (t.issue .condenser .condenser kind) = bankStates t :=
    bankStates_of_condenser rfl
  rw [loseBank_eq]
  split
  · exact (bankStates_tryCondense_other _ bk).trans (by rw [bankStates_bankLost, entered])
  · exact (bankStates_tryCondense_other _ bk).trans (by rw [bankStates_bankLost, ordered, entered])

/-- A fault neither begins nor ends the opening of its bank's drain (R150). -/
theorem mayEnd_faultBank (s : State) (bk : BankId) :
    ((s.faultBank bk).bank bk).mayEnd = (s.bank bk).mayEnd := by
  cases state : (s.bank bk).state with
  | condensing =>
    rw [faultBank_condensing state, mayEnd_of_state (by simp [state_loseBank]), mayEnd_of_state (by simp [state])]
  | cooling =>
    rw [faultBank_cooling (.inl state), bank_setBank, mayEnd_of_state (by simp), mayEnd_of_state (by simp [state])]
  | cold =>
    rw [faultBank_cooling (.inr state), bank_setBank, mayEnd_of_state (by simp), mayEnd_of_state (by simp [state])]
  | defrost | drainWait | drain =>
    rw [faultBank_draining (by simp [state]), faultDrain_eq, bank_setBank]
    rfl
  | warm => rw [faultBank_warm state, bank_raise_bankFault]
  | faulted => rw [faultBank_faulted state]

/-! ## A failed order (R147, R150) -/

section
variable {o : Order}

theorem orderFails_condenser (node : o.node = .condenser) : s.orderFails o = s.bankOrderFailed o := by
  rw [State.orderFails, node]

theorem bankOrderFailed_close (kind : o.kind = .bankDrainClose bk) : s.bankOrderFailed o =
    if (s.bank bk).drainValve = .closing ∧ (s.bank bk).drainOrder = some o.number then s.faultDrain bk else s := by
  rw [State.bankOrderFailed, kind]
  simp only [State.awaitsDrainClose, Bool.and_eq_true, beq_iff_eq]

theorem bankOrderFailed_open {k : SlotId} (kind : o.kind = .bankDrainOpen bk k) : s.bankOrderFailed o =
    if (s.bank bk).mayEnd then (s.faultBank bk).endOpening bk else s.faultBank bk := by
  rw [State.bankOrderFailed, kind]
  dsimp only
  rw [mayEnd_faultBank]

theorem bankOrderFailed_other (kind : o.kind = .refrigerationStart bk ∨ o.kind = .refrigerationStop bk ∨
    o.kind = .heaterOn bk ∨ o.kind = .heaterOff bk ∨ ∃ opens, o.kind = .inletValve bk opens) :
    s.bankOrderFailed o = s.faultBank bk := by
  obtain kind | kind | kind | kind | ⟨opens, kind⟩ := kind
  all_goals
    rw [State.bankOrderFailed, kind]
    rfl

end

/-! ## The readings of one bank (R137, R138, R143, R147) -/

/-- A valve shown closed confirms the close that is awaited (R147). -/
def closeShown (bk : BankId) (r : BankReading) (s : State) : State :=
  if (s.bank bk).drainValve = .closing ∧ r.drainOpen = false then s.confirmClose bk else s

theorem takeBank_eq (s : State) (bk : BankId) (r : BankReading) {u : State}
    (tested : u = if r.refrigeration = .failed then s.faultBank bk else s) :
    s.takeBank bk r = closeShown bk r
      (if (u.bank bk).state = (s.bank bk).state then u.testTemperature bk r.temperature else u) := by
  subst tested
  unfold State.takeBank closeShown
  simp only [beq_iff_eq, Bool.and_eq_true, Bool.not_eq_true']

theorem takeBank_works {r : BankReading} (works : r.refrigeration ≠ .failed) :
    s.takeBank bk r = closeShown bk r (s.testTemperature bk r.temperature) := by
  rw [takeBank_eq s bk r (if_neg works).symm, if_pos rfl]

theorem takeBank_failed {r : BankReading} (failed : r.refrigeration = .failed) :
    s.takeBank bk r = closeShown bk r (if ((s.faultBank bk).bank bk).state = (s.bank bk).state then
      (s.faultBank bk).testTemperature bk r.temperature else s.faultBank bk) :=
  takeBank_eq s bk r (if_pos failed).symm

theorem testTemperature_cooled {t : Int} (state : (s.bank bk).state = .cooling) (cold : t ≤ -95) :
    s.testTemperature bk t = s.enterCold bk := by
  rw [State.testTemperature, state]
  exact if_pos cold

theorem testTemperature_thawed {t : Int} (state : (s.bank bk).state = .defrost)
    (runs : (s.bank bk).paused = false) (warm : 5 ≤ t) : s.testTemperature bk t = s.endDefrost bk := by
  rw [State.testTemperature, state]
  exact if_pos (by rw [runs]; exact decide_eq_true warm)

theorem testTemperature_rests {t : Int} (uncooled : ¬ ((s.bank bk).state = .cooling ∧ t ≤ -95))
    (frozen : ¬ ((s.bank bk).state = .defrost ∧ (s.bank bk).paused = false ∧ 5 ≤ t)) :
    s.testTemperature bk t = s := by
  unfold State.testTemperature
  split
  · rename_i state
    exact if_neg fun cold => uncooled ⟨state, cold⟩
  · rename_i state
    refine if_neg fun thawed => frozen ⟨state, ?_⟩
    rw [Bool.and_eq_true, Bool.not_eq_true'] at thawed
    exact ⟨thawed.1, of_decide_eq_true thawed.2⟩
  · rfl

/-! ## The deltas (R141, R145, R103) -/

/-- The CONDENSING bank with the inlet delta of an answer (R137, R141). -/
def loaded (s : State) (d : Grams) (x : Bank) : Bank :=
  { x with
    load := x.load + d
    swapPending := x.swapPending || decide (s.control.settings.bankSwapLoad ≤ x.load + d) }

theorem hardTest_setBank (s : State) (bk : BankId) (x : Bank) : (s.setBank bk x).hardTest bk =
    if x.swapPending = true ∧ x.hardRaised = false ∧ s.control.settings.bankHardLoad ≤ x.load then
      (s.setBank bk { x with hardRaised := true }).raise .bankLoadHard (.bank bk)
        { first := x.load, second := none }
    else s.setBank bk x := by
  rw [State.hardTest]
  simp only [bank_setBank, State.onBank, setBank_setBank, State.limits, setBank_control, Bool.and_eq_true,
    Bool.not_eq_true', decide_eq_true_eq, and_assoc]
  rfl

theorem takeInlet_none (absent : s.condensing = none) (d : Grams) : s.takeInlet d = s := by
  rw [State.takeInlet, absent]

theorem takeInlet_some (condensing : s.condensing = some bk) (d : Grams) :
    s.takeInlet d = ((s.setBank bk (loaded s d (s.bank bk))).hardTest bk).swapTest := by
  rw [State.takeInlet, condensing]
  simp only [State.setPendingIf, State.loadTrigger, State.onBank, bank_setBank, setBank_setBank, State.limits,
    setBank_control]
  rfl

/-- The origin of a drain delta that no bank is charged with: the last drain bank, else the node (R145). -/
def unattributedOrigin (s : State) : Origin :=
  (s.condenser.lastDrainBank.map Origin.bank).getD (.node .condenser)

theorem takeDrain_unheld (unheld : s.drainHolder = none) (d : Grams) : s.takeDrain d =
    if d = 0 then s
    else s.raise .unattributedDrain (unattributedOrigin s) { first := d, second := none } := by
  rw [State.takeDrain, unheld, unattributedOrigin]
  cases s.condenser.lastDrainBank <;> rfl

theorem takeDrain_some {k : SlotId} (holds : s.drainHolder = some bk) (feeds : (s.bank bk).drainSlot = some k)
    {d : Grams} (some_ : d ≠ 0) : s.takeDrain d = (s.setBank bk { s.bank bk with
      drained := (s.bank bk).drained + d
      seenNonzero := (s.bank bk).seenNonzero ||
        decide ((s.bank bk).state = .drain ∧ (s.bank bk).drainEnded = false) }).bookVessel k d := by
  have seen : (d != 0 && (s.bank bk).state == .drain && !(s.bank bk).drainEnded) =
      decide ((s.bank bk).state = .drain ∧ (s.bank bk).drainEnded = false) := by
    rw [Bool.eq_iff_iff]
    simp [some_]
  rw [State.takeDrain, holds]
  simp only [if_neg some_, State.onBank, bank_setBank, Bank.takeDelta, seen]
  rw [feeds]

/-- A delta of 0 g changes nothing in a bank. -/
theorem takeDelta_none (x : Bank) : x.takeDelta 0 = x := by
  simp [Bank.takeDelta]

theorem takeDrain_zero (holds : s.drainHolder = some bk) : s.takeDrain 0 =
    if (s.bank bk).mayEnd = true ∧ (s.bank bk).seenNonzero = true then s.endOpening bk else s := by
  have same : (s.onBank bk fun x => x.takeDelta 0) = s := by
    rw [State.onBank, takeDelta_none, setBank_bank]
  rw [State.takeDrain, holds]
  simp only [same, if_true, Bool.and_eq_true]

/-! ## The answer (R137) -/

/-- Both temperatures are written before either bank acts on its readings. -/
theorem takeCondenserReadings_eq {a : CondenserAnswer} {v : State}
    (written : v = { s with condenser := { s.condenser with
      bankA := { s.condenser.bankA with temperature := some a.bankA.temperature }
      bankB := { s.condenser.bankB with temperature := some a.bankB.temperature } } }) :
    s.takeCondenserReadings a =
      (((v.takeBank .a a.bankA).takeBank .b a.bankB).takeInlet a.inlet).takeDrain a.drain := by
  rw [written]
  rfl

theorem exec_condenserAnswer {a : CondenserAnswer} (runs : s.resetPin = false)
    (heard : (s.node .condenser).silent = false) (reports : a.reports = []) :
    exec (.condenserAnswer a) s =
      .next ((heardAt .condenser a.moment s).takeCondenserReadings a).afterEvent := by
  have taken : takeCondenser a s = (heardAt .condenser a.moment s).takeCondenserReadings a := by
    rw [takeCondenser, takeAnswer_heard heard, reports, forAll_nil]
  rw [← taken]
  exact congrArg Host.Outcome.next (event_eq runs _)

end

/-- Settles O47: the answer in its order, its readings and its deltas, and a bank fault with what brings one. -/
theorem condenserAnswerIsTakenInOrder : Obligations.CondenserAnswerIsTakenInOrder := by
  unfold Obligations.CondenserAnswerIsTakenInOrder
  refine ⟨⟨fun s a runs heard reports => ⟨heardAt .condenser a.moment s, _, rfl, rfl, ?_⟩, ?_⟩, ?_, ?_, ?_, ?_,
    fun s => rfl⟩
  · rw [exec_condenserAnswer runs heard reports, takeCondenserReadings_eq rfl]
  · exact fun s bk r works => ⟨_, testTemperature_cooled, testTemperature_thawed, testTemperature_rests,
      takeBank_works works⟩
  · refine fun s d => ⟨fun absent => takeInlet_none absent d, fun bk condensing => ⟨_, _, rfl, rfl, ?_⟩,
      fun unheld => takeDrain_unheld unheld 0, fun unheld some_ => ?_, fun bk k holds feeds => ⟨takeDrain_some holds feeds,
        fun state goes runs valve seen => ?_, fun unseen => ?_⟩⟩
    · rw [takeInlet_some condensing, hardTest_setBank]
      exact ⟨fun hard => congrArg State.swapTest (if_pos hard), fun soft => congrArg State.swapTest (if_neg soft)⟩
    · rw [takeDrain_unheld unheld, if_neg some_]
      exact ⟨fun bk last => by simp [unattributedOrigin, last], fun last => by simp [unattributedOrigin, last]⟩
    · rw [takeDrain_zero holds, if_pos ⟨(mayEnd_iff _).mpr ⟨state, goes, runs, valve⟩, seen⟩, endOpening_eq]
    · rw [takeDrain_zero holds, if_neg (by simp [unseen])]
  · refine fun s bk => ⟨fun state => ⟨lostToDefrost s bk, rfl, fun halted => ?_, fun on => ?_⟩, faultBank_cooling,
      fun state => (faultBank_draining state).trans (faultDrain_eq s bk), faultBank_warm, faultBank_faulted⟩
    · rw [faultBank_condensing state, loseBank_eq, if_pos halted]
    · rw [faultBank_condensing state, loseBank_eq, if_neg on]
  · refine fun s bk r failed => ⟨_, rfl, fun moved => ?_, fun stood g works temperature valve => ?_⟩
    · rw [takeBank_failed failed, if_neg moved, closeShown]
    · rw [takeBank_failed failed, if_pos stood, takeBank_works works, closeShown, closeShown, temperature, valve]
  · refine fun s o bk node => ⟨fun kind => ⟨fun valve number => ?_, fun other => ?_⟩,
      fun k kind => ⟨fun state goes runs valve => ⟨_, rfl, ?_⟩, fun other => ?_⟩, fun kind => ?_⟩
    · rw [orderFails_condenser node, bankOrderFailed_close kind, if_pos ⟨valve, number⟩, faultDrain_eq]
    · rw [orderFails_condenser node, bankOrderFailed_close kind, if_neg (by tauto)]
    · have ends := (mayEnd_iff _).mpr ⟨state, goes, runs, valve⟩
      rw [orderFails_condenser node, bankOrderFailed_open kind, if_pos ends, endOpening_eq, State.onBank]
      cases bk <;> rfl
    · have rests : ¬ (s.bank bk).mayEnd = true := by
        rw [mayEnd_iff]
        rintro ⟨state, goes, runs, valve⟩
        obtain other | ended | paused | shut | shut := other
        · exact other state
        · simp [goes] at ended
        · simp [runs] at paused
        · simp [shut] at valve
        · simp [shut] at valve
      rw [orderFails_condenser node, bankOrderFailed_open kind, if_neg rests]
    · rw [orderFails_condenser node, bankOrderFailed_other kind]

end Sys2Proof.Proofs

/-!
PROOFS. Family 06: the rules of the chamber, of the foam that is written and of the phases it begins (O43).
-/

namespace Sys2Proof.Proofs

open Sys2Proof Sys2Proof.Machine Sys2Proof.Laws

section
variable {s t : State}

/-! ## What the chamber reads (R119, R121, R124, R140) -/

theorem chamberMay_iff (s : State) : s.chamberMay = true ↔
    (s.control.line = .run ∨ (s.control.line = .step ∧ s.control.chamberCredit = true)) ∧
      (s.node .chamber).silent = false := by
  simp [State.chamberMay, State.isSilent]

theorem findUnit_of_register (same : t.register = s.register) (tag : Tag) :
    t.findUnit tag = s.findUnit tag := by
  rw [State.findUnit, same, State.findUnit]

theorem bank_of_condenser (same : t.condenser = s.condenser) (bk : BankId) : t.bank bk = s.bank bk := by
  cases bk with
  | a => exact congrArg Condenser.bankA same
  | b => exact congrArg Condenser.bankB same

theorem condensing_of_condenser (same : t.condenser = s.condenser) : t.condensing = s.condensing := by
  simp only [State.condensing, bank_of_condenser same]

theorem chamberInert_eq {tag : Tag} {r : UnitRecord} (unit : s.chamber.unit = some tag)
    (found : s.findUnit tag = some r) : s.chamberInert = r.inertRequired := by
  rw [State.chamberInert, unit, Option.bind_some, found]

theorem foamScale_eq {g : ChamberReadings} (readings : s.chamber.readings = some g) : s.foamScale = g.foam := by
  rw [State.foamScale, readings]

theorem oxygen_eq {g : ChamberReadings} (readings : s.chamber.readings = some g) : s.oxygen = g.o2 := by
  rw [State.oxygen, readings]

theorem mayShred_iff {bk : BankId} (condensing : s.condensing = some bk) : s.mayShred = true ↔
    (s.bank bk).window.length < 8 ∧
      ((s.bank bk).swapPending = true → (s.bank bk).load < s.control.settings.bankHardLoad) := by
  rw [State.mayShred, condensing]
  simp only [Bool.and_eq_true, decide_eq_true_eq, Bool.not_eq_true', Bool.and_eq_false_imp, decide_eq_false_iff_not,
    Nat.not_le]
  rfl

/-- A cabinet may not be shredded: no bank is CONDENSING, or it has no room, or its hard load bars it (R140). -/
theorem mayShred_false (barred : s.condensing = none ∨ ∃ bk, s.condensing = some bk ∧
    (8 ≤ (s.bank bk).window.length ∨
      (s.bank bk).swapPending = true ∧ s.control.settings.bankHardLoad ≤ (s.bank bk).load)) :
    s.mayShred = false := by
  obtain none | ⟨bk, condensing, barred⟩ := barred
  · rw [State.mayShred, none]
  · rw [Bool.eq_false_iff, ne_eq, mayShred_iff condensing]
    rintro ⟨room, light⟩
    obtain full | ⟨pending, heavy⟩ := barred
    · exact absurd room (Nat.not_lt.mpr full)
    · exact absurd (light pending) (Nat.not_lt.mpr heavy)

/-! ## A phase is entered (R175) -/

/-- The chamber in a phase, no watch tested yet. -/
def inPhase (s : State) (p : ChamberPhase) : State :=
  { s with chamber := { s.chamber with phase := p, nextPhase := none } }

theorem enterChamberPhase_eq (s : State) (p : ChamberPhase) :
    s.enterChamberPhase p = (inPhase s p).watchEntry 9 s.chamber.unit (chamberPhaseName p) := rfl

section
variable (s : State) (p : ChamberPhase)

@[simp] theorem enterChamberPhase_chamber :
    (s.enterChamberPhase p).chamber = { s.chamber with phase := p, nextPhase := none } :=
  watchEntry_chamber ..

@[simp] theorem enterChamberPhase_condenser : (s.enterChamberPhase p).condenser = s.condenser :=
  watchEntry_condenser ..

@[simp] theorem enterChamberPhase_register : (s.enterChamberPhase p).register = s.register :=
  watchEntry_register ..

@[simp] theorem enterChamberPhase_now : (s.enterChamberPhase p).now = s.now := watchEntry_now ..

@[simp] theorem enterChamberPhase_settings :
    (s.enterChamberPhase p).control.settings = s.control.settings := watchEntry_settings ..

end

theorem beginPurge_eq (s : State) (repurge : Bool) : s.beginPurge repurge =
    ((s.enterChamberPhase .purge).issue .chamberSequencer .chamber (.nitrogen true)).onChamber fun c =>
      { c with
        repurge := repurge, nitrogenOpen := true
        purgeEnd := some (s.now + s.control.settings.purgeMax * 1000) } := by
  rw [State.beginPurge, State.limits, enterChamberPhase_settings, enterChamberPhase_now]
  rfl

theorem beginClear_eq (s : State) : s.beginClear =
    (s.enterChamberPhase .clear).onChamber fun c => { c with clearEnd := some (s.now + 60000) } := by
  rw [State.beginClear]
  rfl

/-! ## The cabinet's windows (R7, R124, R140) -/

/-- The unit's cabinet stands last in the window of a bank, and the window entry last in its record. -/
def cabinetHanded (s : State) (tag : Tag) (bk : BankId) : State :=
  (s.onBank bk fun x =>
    { x with
      window := x.window ++ [{ tag := tag, foam := none }]
      swapPending := x.swapPending || decide (8 ≤ x.window.length + 1) }).onUnit tag fun r =>
        { r with windows := r.windows ++ [{ bank := bk, foam := none, share := none }] }

theorem handCabinet_eq {tag : Tag} {bk : BankId} (unit : s.chamber.unit = some tag)
    (condensing : s.condensing = some bk) : s.handCabinet = cabinetHanded s tag bk := by
  have added (x : Bank) : x.addCabinet tag =
      { x with
        window := x.window ++ [{ tag := tag, foam := none }]
        swapPending := x.swapPending || decide (8 ≤ x.window.length + 1) } := by
    simp [Bank.addCabinet, Config.windowSize]
  rw [State.handCabinet, unit, condensing]
  simp only [added]
  rfl

theorem beginShred_handed {tag : Tag} {bk : BankId} (unit : s.chamber.unit = some tag)
    (condensing : s.condensing = some bk) {u : State} (handed : u = cabinetHanded (s.enterChamberPhase .shred) tag bk) :
    s.beginShred = (u.onChamber fun c => { c with foamStart := some u.foamScale, emptyNoted := false }).issue
      .chamberSequencer .chamber .shredderStart := by
  have hands := handCabinet_eq (s := s.enterChamberPhase .shred) (tag := tag) (bk := bk)
    (by rw [enterChamberPhase_chamber, unit])
    (by rw [condensing_of_condenser (enterChamberPhase_condenser ..), condensing])
  rw [State.beginShred, hands, handed]
  rfl

theorem beginShred_eq {tag : Tag} {bk : BankId} {g : ChamberReadings} (unit : s.chamber.unit = some tag)
    (condensing : s.condensing = some bk) (readings : s.chamber.readings = some g) : s.beginShred =
      ((cabinetHanded (s.enterChamberPhase .shred) tag bk).onChamber fun c =>
        { c with foamStart := some g.foam, emptyNoted := false }).issue .chamberSequencer .chamber
          .shredderStart := by
  have scale : (cabinetHanded (s.enterChamberPhase .shred) tag bk).foamScale = g.foam :=
    foamScale_eq (by rw [cabinetHanded, onUnit_chamber, onBank_chamber, enterChamberPhase_chamber, readings])
  rw [beginShred_handed unit condensing rfl, scale]

/-! ## The boundary (R121) -/

theorem testChamber_waits (waits : s.chamberMay = false) : s.testChamber = s := by
  rw [State.testChamber, if_neg (by simp [waits])]

/-- Away from a boundary only IDLE with a unit in the feed queue begins anything. -/
theorem testChamber_takesHead {tag : Tag} {rest : List Tag} (may : s.chamberMay = true)
    (phase : s.chamber.phase = .idle) (between : s.chamber.nextPhase = none)
    (feed : s.chamber.feed = tag :: rest) : s.testChamber = s.spendChamberCredit.takeHead tag rest := by
  rw [State.testChamber, if_pos may, between, phase, feed]

/-- A chamber at a boundary ends its phase anew. -/
theorem testChamber_eq_endChamberPhase {p : ChamberPhase} (boundary : s.chamber.nextPhase = some p) :
    s.testChamber = s.endChamberPhase p := by
  have same : (s.onChamber fun c => { c with nextPhase := some p }) = s := by
    rw [State.onChamber, ← boundary]
  rw [State.endChamberPhase, same]

theorem endChamberPhase_waits (waits : s.chamberMay = false) (p : ChamberPhase) :
    s.endChamberPhase p = s.onChamber fun c => { c with nextPhase := some p } :=
  testChamber_waits (s := s.onChamber fun c => { c with nextPhase := some p }) waits

theorem endChamberPhase_purge (may : s.chamberMay = true) :
    s.endChamberPhase .purge = s.spendChamberCredit.beginPurge false :=
  if_pos may

theorem endChamberPhase_clear (may : s.chamberMay = true) :
    s.endChamberPhase .clear = s.spendChamberCredit.beginClear :=
  if_pos may

/-- R124: SHRED, or PURGE in its place. -/
theorem endChamberPhase_shred (may : s.chamberMay = true) (room : s.mayShred = true) :
    s.endChamberPhase .shred =
      if s.chamberInert = true ∧ s.control.settings.purgeO2 < s.oxygen then s.spendChamberCredit.beginPurge false
      else s.spendChamberCredit.beginShred := by
  have tried : s.endChamberPhase .shred = (s.onChamber fun c => { c with nextPhase := some .shred }).tryShred :=
    if_pos may
  have room' : (s.onChamber fun c => { c with nextPhase := some .shred }).mayShred = true := room
  rw [tried, State.tryShred, room']
  simp only [Bool.not_true, Bool.false_eq_true, if_false, Bool.and_eq_true, decide_eq_true_eq]
  rfl

theorem endChamberPhase_shred_barred (barred : s.mayShred = false) :
    s.endChamberPhase .shred = s.onChamber fun c => { c with nextPhase := some .shred } := by
  cases may : s.chamberMay with
  | false => exact endChamberPhase_waits may .shred
  | true =>
    have tried : s.endChamberPhase .shred =
        (s.onChamber fun c => { c with nextPhase := some .shred }).tryShred := if_pos may
    have barred' : (s.onChamber fun c => { c with nextPhase := some .shred }).mayShred = false := barred
    rw [tried, State.tryShred, barred']
    rfl

/-- The chamber in AIRLOCK with the head of the feed queue, its place written and no watch tested yet (R122). -/
def headTaken (s : State) (tag : Tag) (rest : List Tag) : State :=
  ({ s with chamber := { s.chamber with feed := rest, unit := some tag, phase := .airlock } } : State).onUnit tag
    fun r => { r with place := some .chamber }

theorem takeHead_eq {tag : Tag} {rest : List Tag} (between : s.chamber.nextPhase = none) :
    s.takeHead tag rest =
      (((headTaken s tag rest).watchEntry 9 (some tag) .airlock).issue .chamberSequencer .chamber
        .doorCycle).onChamber fun c =>
          { c with
            doorOrder := some ((headTaken s tag rest).watchEntry 9 (some tag) .airlock).orderNumber } := by
  have entered : (((s.onChamber fun c => { c with feed := rest, unit := some tag }).onUnit tag fun r =>
      { r with place := some .chamber }).enterChamberPhase .airlock) =
        (headTaken s tag rest).watchEntry 9 (some tag) .airlock := by
    have forgets : { s.chamber with feed := rest, unit := some tag, phase := .airlock, nextPhase := none } =
        { s.chamber with feed := rest, unit := some tag, phase := .airlock } := by
      rw [← between]
    rw [headTaken, ← forgets]
    rfl
  rw [State.takeHead, entered]
  rfl

end

/-- Settles O43: the phases that end with permission and without, and the head of the feed queue. -/
theorem chamberBeginsPhasesWithPermission : Obligations.ChamberBeginsPhasesWithPermission := by
  unfold Obligations.ChamberBeginsPhasesWithPermission
  refine ⟨?_, fun s p => testChamber_eq_endChamberPhase⟩
  rintro s may spent enter purging back may_iff rfl back_eq enter_eq rfl
  rw [← chamberMay_iff] at may_iff
  have waits (no : ¬ may) : s.chamberMay = false := Bool.eq_false_iff.mpr (may_iff.not.mp no)
  have enters (p : ChamberPhase) : s.spendChamberCredit.enterChamberPhase p = enter p := (enter_eq p).symm
  have purges : s.spendChamberCredit.beginPurge false =
      ((enter .purge).issue .chamberSequencer .chamber (.nitrogen true)).onChamber fun c =>
        { c with
          repurge := false, nitrogenOpen := true
          purgeEnd := some (s.now + s.control.settings.purgeMax * 1000) } := by
    rw [beginPurge_eq, enters]
    rfl
  refine ⟨fun p no => ?_, fun yes => ?_, fun yes => ?_, fun tag r bk g yes unit found condensing room light
    readings => ⟨fun low => ⟨_, rfl, ?_⟩, fun inert high => ?_⟩, fun barred => ?_,
    fun tag rest phase between feed => ⟨fun yes => ⟨_, _, rfl, rfl, ?_⟩,
      fun no => testChamber_waits (waits no)⟩⟩
  · rw [endChamberPhase_waits (waits no), back_eq]
    rfl
  · rw [endChamberPhase_purge (may_iff.mp yes), purges]
  · rw [endChamberPhase_clear (may_iff.mp yes), beginClear_eq, enters]
    rfl
  · have breathes : ¬ (r.inertRequired = true ∧ s.control.settings.purgeO2 < g.o2) := by
      rintro ⟨inert, high⟩
      obtain free | low := low
      · simp [free] at inert
      · exact absurd high (Nat.not_lt.mpr low)
    rw [endChamberPhase_shred (may_iff.mp yes) ((mayShred_iff condensing).mpr ⟨room, light⟩),
      chamberInert_eq unit found, oxygen_eq readings, if_neg breathes,
      beginShred_eq (s := s.spendChamberCredit) unit condensing readings, enters]
    rfl
  · rw [endChamberPhase_shred (may_iff.mp yes) ((mayShred_iff condensing).mpr ⟨room, light⟩),
      chamberInert_eq unit found, oxygen_eq readings, if_pos ⟨inert, high⟩, purges]
  · rw [endChamberPhase_shred_barred (mayShred_false barred), back_eq]
    rfl
  · rw [testChamber_takesHead (may_iff.mp yes) phase between feed]
    exact takeHead_eq (s := s.spendChamberCredit) between

end Sys2Proof.Proofs

/-!
PROOFS. Family 06: the foam of a cabinet, the chamber's faults and its two expiries (O45), withdrawal and abort (O46).
-/

namespace Sys2Proof.Proofs

open Sys2Proof Sys2Proof.Machine Sys2Proof.Laws

section
variable {s : State} {tag : Tag} {r : UnitRecord} {ws : List WindowEntry} {w : WindowEntry}

/-! ## The foam of a cabinet (R7, R125, R128, R140) -/

theorem setLastFoam_eq (g : Grams) (ws : List WindowEntry) : setLastFoam g ws =
    ws.dropLast ++ (ws.getLast?.map fun e => { e with foam := some g }).toList := by
  induction ws with
  | nil => rfl
  | cons w ws ih =>
    cases ws with
    | nil => rfl
    | cons x xs =>
      rw [setLastFoam, ih, List.dropLast_cons_cons, List.getLast?_cons_cons, List.cons_append]
      exact nofun

/-- The foam of a unit's last window entry stands in its record and in the window of a bank. -/
def foamWritten (s : State) (tag : Tag) (bk : BankId) (g : Grams) : State :=
  (s.onUnit tag fun r =>
    { r with windows := r.windows.dropLast ++
      (r.windows.getLast?.map fun e => { e with foam := some g }).toList }).onBank bk fun x =>
        { x with window := x.window.map fun c => if c.tag = tag then { c with foam := some g } else c }

theorem writeLastFoam_eq (found : s.findUnit tag = some r) (windows : r.windows = ws ++ [w]) (g : Grams) :
    s.writeLastFoam tag g = foamWritten s tag w.bank g := by
  have last : ((s.findUnit tag).bind fun r => r.windows.getLast?) = some w := by
    rw [found, Option.bind_some, windows, List.getLast?_concat]
  rw [State.writeLastFoam, last]
  simp only [setLastFoam_eq, Bank.writeFoam, beq_iff_eq]
  rfl

theorem earlierFoam_eq (windows : r.windows = ws ++ [w]) :
    r.earlierFoam = (ws.map fun e => e.foam.getD 0).sum := by
  rw [UnitRecord.earlierFoam, windows, List.dropLast_concat]

theorem shredFoam_eq {g : ChamberReadings} {start : Grams} (readings : s.chamber.readings = some g)
    (started : s.chamber.foamStart = some start) : s.shredFoam = g.foam - start := by
  rw [State.shredFoam, foamScale_eq readings, started]
  rfl

/-- The foam is written once (R128). -/
theorem recordFoam_written (unit : s.chamber.unit = some tag) (found : s.findUnit tag = some r)
    (written : ∀ w, r.windows.getLast? = some w → w.foam ≠ none) : s.recordFoam = s := by
  rw [State.recordFoam, unit]
  dsimp only
  rw [found]
  dsimp only
  cases last : r.windows.getLast? with
  | none => rfl
  | some w => exact if_neg (by simpa using written w last)

theorem recordFoam_fresh (unit : s.chamber.unit = some tag) (found : s.findUnit tag = some r)
    (windows : r.windows = ws ++ [w]) (fresh : w.foam = none) :
    s.recordFoam = foamWritten s tag w.bank (s.shredFoam - (ws.map fun e => e.foam.getD 0).sum) := by
  rw [State.recordFoam, unit]
  dsimp only
  rw [found]
  dsimp only
  rw [windows, List.getLast?_concat]
  dsimp only
  rw [fresh, if_pos (by rfl), writeLastFoam_eq found windows, earlierFoam_eq windows]

/-! ## The chamber's fault action (R130) -/

/-- The chamber has entered FAULTED; one that was IDLE takes no faulted phase. -/
def faultEntered (s : State) (p : ChamberPhase) : State :=
  (s.onChamber fun c =>
    { c with
      faultedPhase := if s.chamber.phase = .idle ∧ s.chamber.nextPhase = none then none else some p
    }).enterChamberPhase .faulted

/-- The shredder's stop is ordered, unless it is outstanding. -/
def stopOrdered (s : State) : State :=
  if s.shredderStopping then s else s.orderChamber .shredderStop

theorem shredderStopping_iff (s : State) : s.shredderStopping = true ↔
    ∃ o ∈ s.loop.orders, o.node = .chamber ∧ o.kind = .shredderStop := by
  simp [State.shredderStopping, State.orderOutstanding]

section
variable (s : State)

theorem stopOrdered_chamber : (stopOrdered s).chamber = s.chamber := by
  unfold stopOrdered
  split <;> rfl

theorem stopOrdered_register : (stopOrdered s).register = s.register := by
  unfold stopOrdered
  split <;> rfl

theorem stopOrdered_condenser : (stopOrdered s).condenser = s.condenser := by
  unfold stopOrdered
  split <;> rfl

theorem stopOrdered_outstanding :
    ∃ o ∈ (stopOrdered s).loop.orders, o.node = .chamber ∧ o.kind = .shredderStop := by
  unfold stopOrdered
  split
  · rename_i stopping
    exact (shredderStopping_iff s).mp stopping
  · exact ⟨_, List.mem_append_right _ (List.mem_singleton_self _), rfl, rfl⟩

end

theorem faultChamberIn_eq (s : State) (p : ChamberPhase) : s.faultChamberIn p =
    (stopOrdered (faultEntered s p).recordFoam).onChamber fun c =>
      { c with repurge := false, returnPhase := none, purgeEnd := none, clearEnd := none, doorOrder := none } := by
  have names : (if s.chamber.phase == .idle && s.chamber.nextPhase.isNone then none else some p) =
      if s.chamber.phase = .idle ∧ s.chamber.nextPhase = none then none else some p := by
    simp only [Bool.and_eq_true, beq_iff_eq, Option.isNone_iff_eq_none]
  rw [State.faultChamberIn, names]
  rfl

/-- A chamber after its fault action: it keeps its unit, nitrogen and foam start (R130). -/
def faultedChamber (c : Chamber) (p : ChamberPhase) : Chamber :=
  { c with
    phase := .faulted, nextPhase := none
    faultedPhase := if c.phase = .idle ∧ c.nextPhase = none then none else some p
    repurge := false, returnPhase := none, purgeEnd := none, clearEnd := none, doorOrder := none }

theorem faultChamberIn_chamber (s : State) (p : ChamberPhase) :
    (s.faultChamberIn p).chamber = faultedChamber s.chamber p := by
  rw [faultChamberIn_eq, onChamber_chamber, stopOrdered_chamber, chamber_recordFoam, faultEntered,
    enterChamberPhase_chamber]
  rfl

theorem faultChamberIn_stops (s : State) (p : ChamberPhase) :
    ∃ o ∈ (s.faultChamberIn p).loop.orders, o.node = .chamber ∧ o.kind = .shredderStop := by
  rw [faultChamberIn_eq]
  exact stopOrdered_outstanding _

theorem faultChamberIn_register (s : State) (p : ChamberPhase) :
    (s.faultChamberIn p).register = (faultEntered s p).recordFoam.register := by
  rw [faultChamberIn_eq, onChamber_register, stopOrdered_register]

theorem faultChamberIn_bank (s : State) (p : ChamberPhase) (bk : BankId) :
    (s.faultChamberIn p).bank bk = (faultEntered s p).recordFoam.bank bk :=
  bank_of_condenser (by rw [faultChamberIn_eq, onChamber_condenser, stopOrdered_condenser]) bk

section
variable (s : State) (p : ChamberPhase)

theorem faultEntered_unit : (faultEntered s p).chamber.unit = s.chamber.unit := by
  rw [faultEntered, enterChamberPhase_chamber]
  rfl

theorem faultEntered_register : (faultEntered s p).register = s.register := by
  rw [faultEntered, enterChamberPhase_register]
  rfl

theorem faultEntered_bank (bk : BankId) : (faultEntered s p).bank bk = s.bank bk :=
  bank_of_condenser (by rw [faultEntered, enterChamberPhase_condenser]; rfl) bk

end

/-- A fault leaves the register alone where the foam is written already. -/
theorem faultChamberIn_keepsFoam (p : ChamberPhase) (unit : s.chamber.unit = some tag)
    (found : s.findUnit tag = some r) (written : ∀ w, r.windows.getLast? = some w → w.foam ≠ none) :
    (s.faultChamberIn p).register = s.register := by
  rw [faultChamberIn_register, recordFoam_written ((faultEntered_unit s p).trans unit)
    ((findUnit_of_register (faultEntered_register s p) tag).trans found) written, faultEntered_register]

/-- A fault writes the foam so far to the last window entry that has none (R128, R130). -/
theorem faultChamberIn_writesFoam {g : ChamberReadings} {start last : Grams} (p : ChamberPhase)
    (unit : s.chamber.unit = some tag) (found : s.findUnit tag = some r) (windows : r.windows = ws ++ [w])
    (fresh : w.foam = none) (readings : s.chamber.readings = some g) (started : s.chamber.foamStart = some start)
    (foam : last = g.foam - start - (ws.map fun e => e.foam.getD 0).sum) :
    (s.faultChamberIn p).register = (foamWritten s tag w.bank last).register ∧
      (s.faultChamberIn p).bank w.bank = (foamWritten s tag w.bank last).bank w.bank := by
  have entered : (faultEntered s p).chamber = { s.chamber with
      faultedPhase := (faultEntered s p).chamber.faultedPhase, phase := .faulted, nextPhase := none } := by
    rw [faultEntered, enterChamberPhase_chamber]
    rfl
  have recorded := recordFoam_fresh ((faultEntered_unit s p).trans unit)
    ((findUnit_of_register (faultEntered_register s p) tag).trans found) windows fresh
  rw [shredFoam_eq (s := faultEntered s p) (by rw [entered]; exact readings) (by rw [entered]; exact started),
    ← foam] at recorded
  rw [faultChamberIn_register, faultChamberIn_bank, recorded, foamWritten, foamWritten, onBank_register,
    onBank_register, bank_onBank, bank_onBank, onUnit_register, onUnit_register, faultEntered_register]
  exact ⟨rfl, congrArg (fun x : Bank => { x with window := x.window.map fun c : Cabinet =>
    if c.tag = tag then { c with foam := some last } else c }) (faultEntered_bank s p w.bank)⟩

/-! ## Failed orders (R122, R123, R124, R126, R128, R133) -/

section
variable {o : Order} {p : ChamberPhase}

theorem orderFails_chamber (node : o.node = .chamber) : s.orderFails o = s.chamberOrderFailed o := by
  rw [State.orderFails, node]

theorem chamberOrderFailed_faulted (phase : s.chamber.phase = .faulted) : s.chamberOrderFailed o = s :=
  if_pos (by rw [phase]; rfl)

theorem chamberOrderFailed_named (on : s.chamber.phase ≠ .faulted) (named : o.chamberFault s.chamber = some p) :
    s.chamberOrderFailed o = s.faultChamberIn p := by
  rw [State.chamberOrderFailed, if_neg (by simpa using on), named]

theorem chamberOrderFailed_unnamed (on : s.chamber.phase ≠ .faulted) (unnamed : o.chamberFault s.chamber = none) :
    s.chamberOrderFailed o = if s.control.line = .halted then s.faultChamber else s := by
  rw [State.chamberOrderFailed, if_neg (by simpa using on), unnamed]
  simp only [State.halted, beq_iff_eq]

/-- An order whose failure no rule names faults the chamber in HALTED only (R133; log 23). -/
theorem chamberFault_unnamed {c : Chamber}
    (kind : o.kind = .nitrogen false ∨ o.kind = .doorLock ∨ o.kind = .nitrogen true ∧ o.cause = .halt ∨
      o.kind = .shredderStop ∧ c.phase ≠ .suspended ∧ o.cause ≠ .oxygenPause) : o.chamberFault c = none := by
  obtain kind | kind | ⟨kind, cause⟩ | ⟨kind, phase, cause⟩ := kind
  · simp [Order.chamberFault, kind]
  · simp [Order.chamberFault, kind]
  · simp [Order.chamberFault, kind, cause]
  · simp [Order.chamberFault, kind, phase, cause]

end

/-! ## A record moves on (R10) -/

theorem attributeOrClose_pending (found : s.findUnit tag = some r) (pending : ∃ w ∈ r.windows, w.share = none)
    (d : Disposition) :
    s.attributeOrClose tag d = s.onUnit tag fun r => { r with place := some .attribution } := by
  obtain ⟨w, mem, share⟩ := pending
  have open_ : r.fullyAttributed ≠ true := fun all => by
    simpa [WindowEntry.isPending, share] using List.all_eq_true.mp all w mem
  rw [State.attributeOrClose, found]
  exact if_neg open_

theorem attributeOrClose_attributed (found : s.findUnit tag = some r)
    (attributed : ∀ w ∈ r.windows, w.share ≠ none) (d : Disposition) :
    s.attributeOrClose tag d = s.closeUnit tag d := by
  have all : r.fullyAttributed = true := List.all_eq_true.mpr fun w mem => by
    simpa [WindowEntry.isPending, Option.isSome_iff_ne_none] using attributed w mem
  rw [State.attributeOrClose, found]
  exact if_pos all

/-! ## The expiries (R123, R127) -/

theorem chamber_advanceTo (s : State) (d : Moment) : (s.advanceTo d).chamber = s.chamber := by
  rw [State.advanceTo, advance_chamber]

theorem inPurge_iff (c : Chamber) : c.inPurge = true ↔ c.phase = .purge ∧ c.nextPhase = none := by
  simp [Chamber.inPurge, Chamber.atBoundary]

theorem exec_purgeTimeout (runs : s.resetPin = false) :
    exec .purgeTimeout s = .next (chamberPurgePasses s).afterEvent :=
  congrArg Host.Outcome.next (event_eq runs _)

theorem exec_clearEnd (runs : s.resetPin = false) : exec .clearEnd s = .next (clearEndPasses s).afterEvent :=
  congrArg Host.Outcome.next (event_eq runs _)

theorem chamberPurgePasses_ends {d : Moment} {g : ChamberReadings} (phase : s.chamber.phase = .purge)
    (between : s.chamber.nextPhase = none) (on : s.control.line ≠ .halted) (deadline : s.chamber.purgeEnd = some d)
    (readings : s.chamber.readings = some g) :
    chamberPurgePasses s = ((s.advanceTo d).raise .purgeTimeout .chamber
      { first := g.o2, second := none }).faultChamber := by
  have oxygen : (s.advanceTo d).oxygen = g.o2 := oxygen_eq (by rw [chamber_advanceTo, readings])
  rw [chamberPurgePasses, if_pos, deadline, State.expire, State.purgeTimedOut, oxygen]
  · rfl
  · simp [inPurge_iff, phase, between, on, State.halted]

theorem chamberPurgePasses_rests
    (rests : s.chamber.phase ≠ .purge ∨ s.chamber.nextPhase ≠ none ∨ s.control.line = .halted) :
    chamberPurgePasses s = s := by
  refine if_neg ?_
  simp only [Bool.and_eq_true, inPurge_iff, Bool.not_eq_true', halted_eq, decide_eq_false_iff_not]
  tauto

theorem clearEndPasses_ends {d : Moment} (phase : s.chamber.phase = .clear) (between : s.chamber.nextPhase = none)
    (on : s.control.line ≠ .halted) (deadline : s.chamber.clearEnd = some d) :
    clearEndPasses s = (s.advanceTo d).leaveClear.swapTest.testChamber := by
  rw [clearEndPasses, if_pos, deadline, State.expire]
  simp [Chamber.atBoundary, phase, between, on, State.halted]

theorem clearEndPasses_rests
    (rests : s.chamber.phase ≠ .clear ∨ s.chamber.nextPhase ≠ none ∨ s.control.line = .halted) :
    clearEndPasses s = s := by
  refine if_neg ?_
  simp only [Bool.and_eq_true, beq_iff_eq, Bool.not_eq_true', halted_eq, decide_eq_false_iff_not,
    Chamber.atBoundary, Option.isSome_eq_false_iff, Option.isNone_iff_eq_none]
  tauto

/-- The chamber is empty, and its unit's record not yet moved on (R127). -/
def clearLeft (s : State) (d : Moment) : State :=
  { s.advanceTo d with chamber := { s.chamber with phase := .idle, unit := none, clearEnd := none } }

theorem clearLeft_found {r : UnitRecord} (d : Moment) (found : s.findUnit tag = some r) :
    (clearLeft s d).findUnit tag = some r := by
  have register : (clearLeft s d).register = (s.advanceTo d).register := by
    unfold clearLeft
    generalize s.advanceTo d = u
    rfl
  rw [findUnit_of_register register, findUnit_advanceTo, found]

theorem leaveClear_eq {d : Moment} (unit : s.chamber.unit = some tag) (between : s.chamber.nextPhase = none) :
    (s.advanceTo d).leaveClear = (clearLeft s d).attributeOrClose tag .complete := by
  have left : ((s.advanceTo d).onChamber fun c =>
      { c with phase := .idle, nextPhase := none, unit := none, clearEnd := none }) = clearLeft s d := by
    rw [State.onChamber, chamber_advanceTo, clearLeft, ← between]
  rw [State.leaveClear, left, chamber_advanceTo, unit]

end

/-- Settles O45: the two expiries where they act and where they do not, the failed orders by the phase that their
rule names, and the fault action. -/
theorem chamberExpiriesAct : Obligations.ChamberExpiriesAct := by
  unfold Obligations.ChamberExpiriesAct
  refine ⟨⟨fun s d g runs phase between on deadline readings => ?_, fun s runs rests => ?_, ?_,
      fun s d tag r runs phase between on deadline unit found => ⟨clearLeft s d, rfl, ?_⟩,
      fun s runs rests => ?_⟩,
    fun s o node => ?_, fun s => rfl, ?_⟩
  · rw [exec_purgeTimeout runs, chamberPurgePasses_ends phase between on deadline readings]
  · rw [exec_purgeTimeout runs, chamberPurgePasses_rests rests]
  · rintro s t rfl
    exact ⟨faultChamberIn_chamber s _, faultChamberIn_stops s _,
      fun tag r unit found written => faultChamberIn_keepsFoam _ unit found written⟩
  · have found' := clearLeft_found d found
    rw [exec_clearEnd runs, clearEndPasses_ends phase between on deadline, leaveClear_eq unit between]
    exact ⟨fun pending => by rw [attributeOrClose_pending found' pending],
      fun attributed => by rw [attributeOrClose_attributed found' attributed]⟩
  · rw [exec_clearEnd runs, clearEndPasses_rests rests]
  · rw [orderFails_chamber node]
    refine ⟨chamberOrderFailed_faulted, fun on => ⟨fun kind => ?_, fun kind cause => ?_, fun kind => ?_,
      fun kind phase => ?_, fun kind phase cause => ?_, fun kind => ?_⟩⟩
    · exact chamberOrderFailed_named on (by rw [Order.chamberFault, kind])
    · exact chamberOrderFailed_named on (by simp [Order.chamberFault, kind, cause])
    · exact chamberOrderFailed_named on (by rw [Order.chamberFault, kind])
    · exact chamberOrderFailed_named on (by simp [Order.chamberFault, kind, phase])
    · exact chamberOrderFailed_named on (by simp [Order.chamberFault, kind, phase, cause])
    · rw [chamberOrderFailed_unnamed on (chamberFault_unnamed kind)]
      exact ⟨fun halted => if_pos halted, fun runs => if_neg runs⟩
  · rintro s t p rfl
    refine ⟨faultChamberIn_chamber s p, faultChamberIn_stops s p,
      fun tag r ws w g start last unit found windows fresh readings started foam => ?_⟩
    obtain ⟨register, bank⟩ := faultChamberIn_writesFoam p unit found windows fresh readings started foam
    rw [register, bank, foamWritten, onBank_register, onUnit_register, bank_onBank]
    exact ⟨by simp only [beq_iff_eq], rfl⟩

section
variable {s : State} {tag : Tag}

/-! ## WITHDRAW-FEED (R118) -/

theorem doWithdrawFeed_accepted {r : UnitRecord} (tagged : tag ≠ 0) (found : s.findInRegister tag = some r)
    (queued : r.place = some .queued) :
    doWithdrawFeed tag s =
      ((s.onChamber fun c => { c with feed := c.feed.filter (· ≠ tag) }).closeUnit tag .withdrawn).send
        [okLine .withdrawFeed (field "tag" (numText tag))] := by
  have filters (l : List Tag) : (l.filter fun x => x != tag) = l.filter (· ≠ tag) :=
    List.filter_congr fun x _ => by rw [Bool.eq_iff_iff]; simp
  rw [doWithdrawFeed, if_neg tagged, found]
  dsimp only
  rw [if_neg (by simp [queued])]
  simp only [filters]

/-! ## ABORT-CHAMBER (R131) -/

/-- The chamber closes its nitrogen and is empty, and tests for permission (R131). -/
def chamberLeft (s : State) : State :=
  ((if s.chamber.nitrogenOpen = true then s.issue .chamberSequencer .chamber (.nitrogen false)
    else s).onChamber fun c =>
      { c with
        nitrogenOpen := false, phase := .idle, nextPhase := none, unit := none
        faultedPhase := none, foamStart := none, emptyNoted := false }).testChamber

theorem chamberLeft_shut (shut : s.chamber.nitrogenOpen = false) : chamberLeft s =
    (s.onChamber fun c =>
      { c with
        phase := .idle, nextPhase := none, unit := none
        faultedPhase := none, foamStart := none, emptyNoted := false }).testChamber := by
  rw [chamberLeft, if_neg (by simp [shut]), State.onChamber, State.onChamber, ← shut]

section
variable (on : s.control.line ≠ .halted) (phase : s.chamber.phase = .faulted)
  (still : ∀ g, s.chamber.readings = some g → g.running = false)
include on phase still

theorem abortRefusals_none : s.halted = false ∧ (s.chamber.phase != .faulted || s.chamber.shredderRuns) = false := by
  have stopped : s.chamber.shredderRuns = false := by
    unfold Chamber.shredderRuns
    split
    · rename_i g readings
      exact still g readings
    · rfl
  exact ⟨by simp [halted_eq, on], by simp [phase, stopped]⟩

theorem doAbortChamber_empty (unit : s.chamber.unit = none) :
    doAbortChamber s = (chamberLeft s).send [okLine .abortChamber []] := by
  obtain ⟨runs, rests⟩ := abortRefusals_none on phase still
  rw [doAbortChamber, runs, rests, unit]
  rfl

theorem doAbortChamber_unit (unit : s.chamber.unit = some tag) :
    doAbortChamber s =
      (chamberLeft (s.abortUnit tag)).send [okLine .abortChamber (field "tag" (numText tag))] := by
  obtain ⟨runs, rests⟩ := abortRefusals_none on phase still
  rw [doAbortChamber, runs, rests, unit]
  rfl

end

/-- The record of an aborted chamber's unit has its foam and its disposition (R131). -/
def foamAborted (s : State) (tag : Tag) : State :=
  s.onUnit tag fun r =>
    { r with
      foam := some (r.windows.map fun w => w.foam.getD 0).sum
      disposition := some .chamberAborted }

theorem foamAborted_found {r : UnitRecord} (found : s.findUnit tag = some r) :
    ∃ r', (foamAborted s tag).findUnit tag = some r' ∧ r'.windows = r.windows := by
  have tagged : r.tag = tag := by simpa using List.find?_some found
  rw [foamAborted, findUnit_onUnit]
  · rw [found, Option.map_some, if_pos (by simp [tagged])]
    exact ⟨_, rfl, rfl⟩
  · exact fun _ => rfl

end

/-- Settles O46: no refusal of R118 or R131 applies, and what is left is the record's move and the chamber's. -/
theorem withdrawalAndAbortFreeTheUnit : Obligations.WithdrawalAndAbortFreeTheUnit := by
  unfold Obligations.WithdrawalAndAbortFreeTheUnit
  refine fun s takes => ⟨fun tag r tagged found queued => ?_, fun on phase still => ⟨chamberLeft,
    fun x isOpen => ?_, fun x shut => chamberLeft_shut shut, fun unit => ?_,
    fun tag r unit found => ⟨foamAborted s tag, rfl, fun pending => ?_, fun attributed => ?_⟩⟩⟩
  · refine (exec_rowFor (.withdrawFeed tag) s takes).trans ?_
    rw [perform, doWithdrawFeed_accepted tagged found queued]
    rfl
  · rw [chamberLeft, if_pos isOpen]
  · refine (exec_rowFor .abortChamber s takes).trans ?_
    rw [perform, doAbortChamber_empty on phase still unit]
  · obtain ⟨r', found', same⟩ := foamAborted_found found
    refine (exec_rowFor .abortChamber s takes).trans ?_
    rw [perform, doAbortChamber_unit on phase still unit, ← attributeOrClose_pending found' (by rwa [same])]
    rfl
  · obtain ⟨r', found', same⟩ := foamAborted_found found
    refine (exec_rowFor .abortChamber s takes).trans ?_
    rw [perform, doAbortChamber_unit on phase still unit, ← attributeOrClose_attributed found' (by rwa [same])]
    rfl

end Sys2Proof.Proofs

/-!
PROOFS. Family 06: the swap and the condenser's commands, and the chamber at a bank's coming and loss (O49).
-/

namespace Sys2Proof.Proofs

open Sys2Proof Sys2Proof.Machine Sys2Proof.Laws

section
variable {s : State} {bk : BankId}

/-! ## A bank enters CONDENSING (R139, R142) -/

/-- A bank that has entered CONDENSING (R139). -/
def condensed (x : Bank) : Bank :=
  { x with
    state := .condensing, load := 0, condensingTime := 0, swapPending := false
    hardRaised := false, window := [] }

theorem enterCondensing_eq (s : State) (bk : BankId) : s.enterCondensing bk =
    ((s.issue .condenser .condenser (.inletValve bk true)).setBank bk (condensed (s.bank bk))).bankCondenses := by
  cases bk <;> rfl

theorem tryCondense_enters (state : (s.bank bk).state = .cold) (absent : s.condensing = none)
    (on : s.control.line ≠ .halted) : s.tryCondense bk = s.enterCondensing bk :=
  if_pos (by simp [state, absent, halted_eq, on])

theorem tryCondense_rests
    (rests : (s.bank bk).state ≠ .cold ∨ s.condensing ≠ none ∨ s.control.line = .halted) :
    s.tryCondense bk = s := by
  refine if_neg ?_
  simp only [Bool.and_eq_true, beq_iff_eq, Option.isNone_iff_eq_none, Bool.not_eq_true', halted_eq,
    decide_eq_false_iff_not]
  tauto

theorem swapDue_iff (s : State) (bk : BankId) : s.swapDue bk = true ↔
    (s.bank bk).swapPending = true ∧ (s.bank (otherBank bk)).state = .cold ∧
      s.chamber.shredInProgress = false ∧ s.control.line ≠ .halted := by
  simp only [State.swapDue, Bool.and_eq_true, beq_iff_eq, Bool.not_eq_true', halted_eq, decide_eq_false_iff_not,
    and_assoc, ne_eq]

theorem swapTest_eq (condensing : s.condensing = some bk) :
    s.swapTest = if s.swapDue bk = true then s.swapBanks bk else s := by
  rw [State.swapTest, condensing]

/-- The CONDENSING bank of a swap has entered DEFROST, its heater on (R142, R143). -/
def swappedOut (s : State) (bk : BankId) : State :=
  (((s.issue .condenser .condenser (.inletValve bk false)).issue .condenser .condenser
    (.refrigerationStop bk)).setBank bk
      { s.bank bk with
        state := .defrost, swapPending := false, drained := 0, drainEnded := false
        overrunRaised := false
        defrostDeadline := some (s.now + s.control.settings.defrostMax * 1000)
        defrostRemaining := none, paused := false }).issue .condenser .condenser (.heaterOn bk)

theorem swapBanks_eq (on : s.control.line ≠ .halted) : s.swapBanks bk =
    (((swappedOut s bk).issue .condenser .condenser (.inletValve (otherBank bk) true)).setBank (otherBank bk)
      (condensed (s.bank (otherBank bk)))).bankCondenses := by
  have defrosts (x : Bank) : defrosted s x =
      { x with
        state := .defrost, swapPending := false, drained := 0, drainEnded := false, overrunRaised := false
        defrostDeadline := some (s.now + s.control.settings.defrostMax * 1000)
        defrostRemaining := none, paused := false } := by
    rw [defrosted, if_neg on, decide_eq_false on]
  have out : ((s.orderBank (.inletValve bk false)).orderBank (.refrigerationStop bk)).enterDefrost bk =
      swappedOut s bk := by
    have on' : ((s.orderBank (.inletValve bk false)).orderBank (.refrigerationStop bk)).control.line ≠ .halted := on
    rw [enterDefrost_eq, if_neg on', bank_orderBank, bank_orderBank, swappedOut, ← defrosts]
    rfl
  have other : (swappedOut s bk).bank (otherBank bk) = s.bank (otherBank bk) := by cases bk <;> rfl
  rw [State.swapBanks, out, enterCondensing_eq, other]

/-! ## BANK-SERVICE (R151, R138) -/

section
variable (state : (s.bank bk).state = .faulted) (free : (s.bank bk).drainSlot = none)
  (heard : (s.node .condenser).silent = false)
include state free heard

theorem doBankService_eq {u : State}
    (warmed : u = (s.onBank bk fun x => { x with faultAfterDrain := false }).enterWarm bk) :
    doBankService bk s = u.send [okLine .bankService
      (field "bank" (ascii (bankWord bk)) ++ field "state" (ascii (bankStateWord (u.bank bk).state)))] := by
  rw [doBankService, if_neg (by simp [state, free]), if_neg (by simp [State.isSilent, heard]), ← warmed]

theorem doBankService_cools (started : s.condenser.started = true) (on : s.control.line ≠ .halted) :
    doBankService bk s =
      ((s.issue .condenser .condenser (.refrigerationStart bk)).setBank bk { s.bank bk with
        state := .cooling, faultAfterDrain := false, coolDeadline := some (s.now + 1800000) }).send
          [okLine .bankService (field "bank" (ascii (bankWord bk)) ++ field "state" (ascii "COOLING"))] := by
  refine (doBankService_eq state free heard (u := (s.issue .condenser .condenser (.refrigerationStart bk)).setBank bk
    { s.bank bk with state := .cooling, faultAfterDrain := false, coolDeadline := some (s.now + 1800000) }) ?_).trans
      (by rw [bank_setBank]; rfl)
  rw [State.enterWarm, if_pos (by simp [started, on, State.halted])]
  cases bk <;> rfl

theorem doBankService_warms (rests : s.condenser.started = false ∨ s.control.line = .halted) :
    doBankService bk s =
      (s.setBank bk { s.bank bk with state := .warm, faultAfterDrain := false }).send
        [okLine .bankService (field "bank" (ascii (bankWord bk)) ++ field "state" (ascii "WARM"))] := by
  refine (doBankService_eq state free heard
    (u := s.setBank bk { s.bank bk with state := .warm, faultAfterDrain := false }) ?_).trans
      (by rw [bank_setBank]; rfl)
  rw [State.enterWarm, if_neg (by simpa [State.halted, or_iff_not_imp_left] using rests)]
  cases bk <;> rfl

end

/-! ## SWAP-BANKS (R152) -/

theorem doSwapBanks_eq (condensing : s.condensing = some bk) {v w : State}
    (tested : v = (s.setBank bk { s.bank bk with swapPending := true }).hardTest bk) (swapped : w = v.swapTest) :
    doSwapBanks s = w.send [okLine .swapBanks (field "bank" (ascii (bankWord bk)) ++
      field "swapped" (if (w.bank bk).state = .condensing then ascii "no" else ascii "yes"))] := by
  have pending : s.setPendingIf bk true = s.setBank bk { s.bank bk with swapPending := true } := by
    rw [State.setPendingIf, State.onBank, Bool.or_true]
  rw [doSwapBanks, condensing]
  dsimp only
  rw [pending, ← tested, ← swapped]
  by_cases stays : (w.bank bk).state = .condensing
  · simp [stays, yesNo]
  · simp [stays, yesNo]

/-! ## The chamber returns from SUSPENDED (R129) -/

section
variable {tag : Tag} {r : UnitRecord} {back : ChamberPhase}

/-- The chamber has returned to a phase, with its cabinet in the window of the bank (R129). -/
def chamberReturned (s : State) (tag : Tag) (bk : BankId) (back : ChamberPhase) : State :=
  ((cabinetHanded s tag bk).onChamber fun c =>
    { c with returnPhase := none, phase := back, nextPhase := none }).watchEntry 9 (some tag)
      (chamberPhaseName back)

theorem cabinetHanded_found (bk : BankId) (found : s.findUnit tag = some r) :
    (cabinetHanded s tag bk).findUnit tag =
      some { r with windows := r.windows ++ [{ bank := bk, foam := none, share := none }] } := by
  have tagged : r.tag = tag := by simpa using List.find?_some found
  have same : (s.onBank bk fun x =>
      { x with
        window := x.window ++ [{ tag := tag, foam := none }]
        swapPending := x.swapPending || decide (8 ≤ x.window.length + 1) }).findUnit tag = some r :=
    (findUnit_of_register (onBank_register ..) tag).trans found
  rw [cabinetHanded, findUnit_onUnit]
  · rw [same, Option.map_some, if_pos (by simp [tagged])]
  · exact fun _ => rfl

theorem cabinetHanded_chamber (s : State) (tag : Tag) (bk : BankId) :
    (cabinetHanded s tag bk).chamber = s.chamber := by
  rw [cabinetHanded, onUnit_chamber, onBank_chamber]

theorem chamberReturned_chamber (s : State) (tag : Tag) (bk : BankId) (back : ChamberPhase) :
    (chamberReturned s tag bk back).chamber =
      { s.chamber with returnPhase := none, phase := back, nextPhase := none } := by
  rw [chamberReturned, watchEntry_chamber, onChamber_chamber, cabinetHanded_chamber]

theorem chamberReturned_register (s : State) (tag : Tag) (bk : BankId) (back : ChamberPhase) :
    (chamberReturned s tag bk back).register = (cabinetHanded s tag bk).register := watchEntry_register ..

theorem chamberReturned_now (s : State) (tag : Tag) (bk : BankId) (back : ChamberPhase) :
    (chamberReturned s tag bk back).now = s.now := by
  rw [chamberReturned, watchEntry_now, onChamber_now, cabinetHanded, onUnit_now, onBank_now]

theorem chamberReturned_settings (s : State) (tag : Tag) (bk : BankId) (back : ChamberPhase) :
    (chamberReturned s tag bk back).control.settings = s.control.settings := by
  rw [chamberReturned, watchEntry_settings, onChamber_control, cabinetHanded, onUnit_control, onBank_control]

theorem handCabinet_now (s : State) : s.handCabinet.now = s.now := by
  unfold State.handCabinet
  split
  · rw [onUnit_now, onBank_now]
  · rfl

theorem handed_enters (unit : s.chamber.unit = some tag) (condensing : s.condensing = some bk)
    (back : ChamberPhase) :
    (s.onChamber fun c => { c with returnPhase := none }).handCabinet.enterChamberPhase back =
      chamberReturned s tag bk back := by
  have unit' : (cabinetHanded (s.onChamber fun c => { c with returnPhase := none }) tag bk).chamber.unit =
      some tag := by rw [cabinetHanded_chamber, onChamber_chamber, unit]
  rw [handCabinet_eq (s := s.onChamber fun c => { c with returnPhase := none }) unit condensing,
    enterChamberPhase_eq, unit']
  cases bk <;> rfl

section
variable (unit : s.chamber.unit = some tag) (condensing : s.condensing = some bk)
include unit condensing

theorem returnChamber_shred (returns : s.chamber.returnPhase = some .shred) : s.returnChamber =
    if s.chamber.emptyNoted = true then (chamberReturned s tag bk .shred).endShred
    else (chamberReturned s tag bk .shred).issue .chamberSequencer .chamber .shredderStart := by
  rw [State.returnChamber, returns]
  dsimp only
  rw [State.returnToShred, handed_enters unit condensing, chamberReturned_chamber]
  rfl

theorem returnChamber_clear (found : s.findUnit tag = some r) (returns : s.chamber.returnPhase = some .clear) :
    s.returnChamber = foamWritten ((chamberReturned s tag bk .clear).onChamber fun c =>
      { c with clearEnd := some (s.now + 60000) }) tag bk 0 := by
  have begun : (s.onChamber fun c => { c with returnPhase := none }).handCabinet.beginClear =
      (chamberReturned s tag bk .clear).onChamber fun c => { c with clearEnd := some (s.now + 60000) } := by
    rw [beginClear_eq, handed_enters unit condensing, handCabinet_now, onChamber_now]
  have found' : ((chamberReturned s tag bk .clear).onChamber fun c =>
      { c with clearEnd := some (s.now + 60000) }).findUnit tag =
        some { r with windows := r.windows ++ [{ bank := bk, foam := none, share := none }] } :=
    (findUnit_of_register ((onChamber_register ..).trans (chamberReturned_register ..)) tag).trans
      (cabinetHanded_found bk found)
  rw [State.returnChamber, returns]
  dsimp only
  rw [begun, onChamber_chamber, chamberReturned_chamber]
  dsimp only
  rw [unit]
  exact writeLastFoam_eq found' rfl 0

/-- A re-purge goes on, with its nitrogen ordered open unless it is open (R129). -/
theorem returnChamber_purge (returns : s.chamber.returnPhase = some .purge) {w : State}
    (begun : w = (chamberReturned s tag bk .purge).onChamber fun c =>
      { c with repurge := true, purgeEnd := some (s.now + s.control.settings.purgeMax * 1000) }) :
    s.returnChamber = if s.chamber.nitrogenOpen = true then w
      else (w.issue .chamberSequencer .chamber (.nitrogen true)).onChamber fun c =>
        { c with nitrogenOpen := true } := by
  rw [State.returnChamber, returns]
  dsimp only
  rw [handed_enters unit condensing, chamberReturned_chamber, chamberReturned_now, State.limits,
    chamberReturned_settings, begun]
  rfl

end

theorem bankCondenses_tests (phase : s.chamber.phase ≠ .suspended) : s.bankCondenses = s.testChamber :=
  if_neg (by simpa using phase)

theorem bankCondenses_frozen (phase : s.chamber.phase = .suspended) (halted : s.control.line = .halted) :
    s.bankCondenses = s := by
  rw [State.bankCondenses, if_pos (by rw [phase]; rfl), if_pos (by rw [halted_eq, halted]; rfl)]

theorem bankCondenses_returns (phase : s.chamber.phase = .suspended) (on : s.control.line ≠ .halted) :
    s.bankCondenses = s.returnChamber := by
  rw [State.bankCondenses, if_pos (by rw [phase]; rfl), if_neg (by simpa [State.halted] using on)]

/-! ## The condensing bank is lost (R128) -/

variable {ws : List WindowEntry} {w : WindowEntry}

theorem foamWritten_found (found : s.findUnit tag = some r) (bk : BankId) (g : Grams) :
    (foamWritten s tag bk g).findUnit tag =
      some { r with windows := r.windows.dropLast ++
        (r.windows.getLast?.map fun e => { e with foam := some g }).toList } := by
  have tagged : r.tag = tag := by simpa using List.find?_some found
  rw [foamWritten, findUnit_of_register (onBank_register ..), findUnit_onUnit]
  · rw [found, Option.map_some, if_pos (by simp [tagged])]
  · exact fun _ => rfl

/-- The foam so far adds no window entry. -/
theorem recordFoam_found (unit : s.chamber.unit = some tag) (found : s.findUnit tag = some r)
    (windows : r.windows = ws ++ [w]) :
    ∃ r', s.recordFoam.findUnit tag = some r' ∧ r'.windows.length = r.windows.length := by
  cases foam : w.foam with
  | none =>
    rw [recordFoam_fresh unit found windows foam, foamWritten_found found]
    exact ⟨_, rfl, by simp [windows]⟩
  | some g =>
    rw [recordFoam_written unit found fun x last => ?_]
    · exact ⟨r, found, rfl⟩
    · obtain rfl : w = x := by simpa [windows] using last
      simp [foam]

theorem windowsExhausted_iff (unit : s.chamber.unit = some tag) (found : s.findUnit tag = some r) :
    s.windowsExhausted = true ↔ 2 ≤ r.windows.length := by
  rw [State.windowsExhausted, unit, Option.bind_some, found]
  exact decide_eq_true_iff

theorem bankLost_rests (rests : s.chamber.shredInProgress = false) : s.bankLost = s :=
  if_neg (by simp [rests])

/-- A shred in progress loses its bank: its foam is written, and it faults, stays SUSPENDED or is suspended. -/
theorem bankLost_eq (shredding : s.chamber.shredInProgress = true) (unit : s.chamber.unit = some tag)
    (found : s.findUnit tag = some r) (windows : r.windows = ws ++ [w]) :
    s.bankLost =
      if 2 ≤ r.windows.length then s.recordFoam.faultChamber
      else if s.chamber.phase = .suspended then s.recordFoam
      else s.recordFoam.suspendChamber := by
  obtain ⟨r', found', length⟩ := recordFoam_found unit found windows
  have exhausted := windowsExhausted_iff ((congrArg Chamber.unit (chamber_recordFoam s)).trans unit) found'
  rw [length] at exhausted
  rw [State.bankLost, if_pos shredding]
  simp only [exhausted, chamber_recordFoam, beq_iff_eq]

/-- The chamber is SUSPENDED, to return to the phase it left, no watch tested yet (R128). -/
theorem suspendChamber_eq (unit : s.chamber.unit = some tag) {x : State}
    (entered : x = (s.onChamber fun c =>
      { c with returnPhase := some s.chamber.phase, phase := .suspended, nextPhase := none }).watchEntry 9
        (some tag) .suspended) :
    s.suspendChamber =
      (if s.chamber.phase = .shred ∧ s.chamber.emptyNoted = false then
        x.issue .chamberSequencer .chamber .shredderStop
      else x).onChamber fun c => { c with repurge := false, purgeEnd := none, clearEnd := none } := by
  have enters : (s.onChamber fun c => { c with returnPhase := some c.phase }).enterChamberPhase .suspended = x := by
    rw [entered, enterChamberPhase_eq, onChamber_chamber, unit]
    rfl
  rw [State.suspendChamber, enters]
  simp only [Bool.and_eq_true, beq_iff_eq, Bool.not_eq_true']
  rfl

end
end

/-- Settles O49: the swap test, the two commands, and the chamber at a bank's coming and loss. -/
theorem banksSwapAndAreServed : Obligations.BanksSwapAndAreServed := by
  unfold Obligations.BanksSwapAndAreServed
  refine ⟨?_, fun s bk takes => ⟨fun state free heard => ⟨fun started on => ?_, fun rests => ?_⟩,
      fun condensing => ⟨_, (s.setBank bk { s.bank bk with swapPending := true }).hardTest bk, _, rfl,
        fun fresh hard => ?_, fun soft => ?_, rfl, ?_⟩⟩,
    fun s bk => ⟨fun state absent on => ?_, tryCondense_rests⟩,
    fun s => ⟨bankCondenses_tests, bankCondenses_frozen, ?_⟩, ?_⟩
  · intro s bk due condensing due_iff
    rw [← swapDue_iff] at due_iff
    rw [swapTest_eq condensing]
    refine ⟨fun no => if_neg (due_iff.not.mp no), fun yes => ⟨swappedOut s bk, _, rfl, rfl, ?_⟩⟩
    have other : (swappedOut s bk).bank (otherBank bk) = s.bank (otherBank bk) := by cases bk <;> rfl
    obtain ⟨-, -, -, on⟩ := (swapDue_iff s bk).mp (due_iff.mp yes)
    rw [if_pos (due_iff.mp yes), swapBanks_eq on]
    rfl
  · exact (exec_rowFor (.bankService bk) s takes).trans
      (by rw [perform, doBankService_cools state free heard started on])
  · exact (exec_rowFor (.bankService bk) s takes).trans
      (by rw [perform, doBankService_warms state free heard rests])
  · rw [hardTest_setBank, if_pos ⟨rfl, fresh, hard⟩]
  · rw [hardTest_setBank, if_neg]
    rintro ⟨-, fresh, hard⟩
    obtain raised | light := soft
    · simp [show (s.bank bk).hardRaised = false from fresh] at raised
    · exact absurd light (Nat.not_lt.mpr hard)
  · exact (exec_rowFor .swapBanks s takes).trans (by rw [perform, doSwapBanks_eq condensing rfl rfl])
  · rw [tryCondense_enters state absent on, enterCondensing_eq]
    rfl
  · intro tag r bk back phase on unit found condensing returns
    refine ⟨cabinetHanded s tag bk, chamberReturned s tag bk back, rfl, rfl, ?_⟩
    rw [bankCondenses_returns phase on]
    refine ⟨?_, ?_, ?_, fun w => ?_⟩
    · rintro rfl noted
      rw [returnChamber_shred unit condensing returns, if_neg (by simp [noted])]
    · rintro rfl noted
      rw [returnChamber_shred unit condensing returns, if_pos noted]
    · rintro rfl
      rw [returnChamber_clear unit condensing found returns]
      rfl
    · rintro rfl begun
      rw [returnChamber_purge unit condensing returns begun]
      exact ⟨fun isOpen => if_pos isOpen, fun shut => if_neg (by simp [shut])⟩
  · intro s shredding shredding_iff
    have inProgress : shredding ↔ s.chamber.shredInProgress = true := by
      rw [shredding_iff, shredInProgress_iff, Option.isSome_iff_ne_none]
    refine ⟨fun no => bankLost_rests (Bool.eq_false_iff.mpr (inProgress.not.mp no)),
      fun tag r ws w yes unit found windows => ⟨s.recordFoam, fun written => ?_, ?_, fun two => ?_,
        fun one phase => ?_, fun x one phase entered => ?_⟩⟩
    · refine recordFoam_written unit found fun x last => ?_
      obtain rfl : w = x := by simpa [windows] using last
      exact written
    · rintro g start last fresh readings started rfl
      rw [recordFoam_fresh unit found windows fresh, shredFoam_eq readings started]
      rfl
    · rw [bankLost_eq (inProgress.mp yes) unit found windows, if_pos two]
    · rw [bankLost_eq (inProgress.mp yes) unit found windows, if_neg (by simp [windows, one]), if_pos phase]
    · have chamber := chamber_recordFoam s
      have suspended := suspendChamber_eq (s := s.recordFoam) (x := x) (by rw [chamber, unit])
        (by rw [chamber]; exact entered)
      rw [chamber] at suspended
      rw [bankLost_eq (inProgress.mp yes) unit found windows, if_neg (by simp [windows, one]), if_neg phase,
        suspended]
      exact ⟨fun stops => by rw [if_pos stops],
        fun rests => by rw [if_neg (by simpa [or_iff_not_imp_left] using rests)]⟩

end Sys2Proof.Proofs

/-!
PROOFS. Family 06: a chamber answer, the limits of its O2, EMPTY, and the ends of PURGE, AIRLOCK and SHRED (O44).
-/

namespace Sys2Proof.Proofs

open Sys2Proof Sys2Proof.Machine Sys2Proof.Laws

section
variable {s v : State} {g : ChamberReadings} {before : Chamber} {o2 : Nat} {tag : Tag} {r : UnitRecord}

/-! ## What a raised condition leaves of the chamber (R133, R163) -/

theorem halt_chamber (s : State) : ∃ isOpen, s.halt.chamber = { s.chamber with nitrogenOpen := isOpen } := by
  by_cases halted : s.control.line = .halted
  · rw [halt_halted halted]
    exact ⟨_, rfl⟩
  · rw [(halt_done halted).rest]
    exact ⟨_, rfl⟩

theorem raise_chamber (s : State) (kind : ConditionKind) (origin : Origin) (detail : Detail) : ∃ isOpen,
    (s.raise kind origin detail).chamber = { s.chamber with nitrogenOpen := isOpen } := by
  by_cases exigent : kindClass kind = .exigent
  · rw [raise_exigent exigent]
    exact halt_chamber (s.setMonitor _)
  · rw [raise_quiet exigent]
    exact ⟨_, rfl⟩

theorem raise_halted (halted : s.control.line = .halted) (kind : ConditionKind) (origin : Origin)
    (detail : Detail) : (s.raise kind origin detail).control.line = .halted := by
  have halted' (m : Monitor) : (s.setMonitor m).control.line = .halted := halted
  by_cases exigent : kindClass kind = .exigent
  · rw [raise_exigent exigent, halt_halted (halted' _), halted']
  · rw [raise_quiet exigent, halted']

theorem raise_settings (s : State) (kind : ConditionKind) (origin : Origin) (detail : Detail) :
    (s.raise kind origin detail).control.settings = s.control.settings :=
  (raise_changes kind origin detail (.refl (p := ⟨false, false⟩) s)).settings

/-! ## LEL_WARN (R120) -/

theorem warnLel_quiet (s : State) (lel : Nat) : ∃ m, s.warnLel lel = s.setMonitor m := by
  unfold State.warnLel
  split
  · exact ⟨_, raise_quiet (by decide) ..⟩
  · exact ⟨s.monitor, rfl⟩

theorem warnLel_high {lel : Nat} (high : s.control.settings.lelWarn ≤ lel) :
    s.warnLel lel = s.raise .lelWarn .chamber { first := lel, second := none } := if_pos high

theorem warnLel_low {lel : Nat} (low : lel < s.control.settings.lelWarn) : s.warnLel lel = s :=
  if_neg (Nat.not_le.mpr low)

theorem warnLel_now (s : State) (lel : Nat) : (s.warnLel lel).now = s.now := by
  obtain ⟨m, warned⟩ := warnLel_quiet s lel
  rw [warned, setMonitor_now]

/-! ## The limits of O2 (R126) -/

theorem testPause_rests (rests : v.chamber.phase ≠ .shred ∨ v.chamber.nextPhase ≠ none ∨
    v.control.line = .halted ∨ v.chamberInert = false ∨ o2 ≤ v.control.settings.pauseO2) :
    v.testPause o2 = v := by
  refine if_neg ?_
  simp only [Bool.and_eq_true, beq_iff_eq, Bool.not_eq_true', halted_eq, decide_eq_false_iff_not,
    Chamber.atBoundary, Option.isSome_eq_false_iff, Option.isNone_iff_eq_none, decide_eq_true_eq]
  rintro ⟨⟨⟨⟨⟨phase, between⟩, -⟩, inert⟩, on⟩, high⟩
  obtain other | boundary | halted | free | low := rests
  · exact other phase
  · exact boundary between
  · exact on halted
  · simp [free] at inert
  · exact absurd high (Nat.not_lt.mpr low)

theorem testPause_pauses (phase : v.chamber.phase = .shred) (between : v.chamber.nextPhase = none)
    (first : v.chamber.repurge = false) (on : v.control.line ≠ .halted) (inert : v.chamberInert = true)
    (high : v.control.settings.pauseO2 < o2) : v.testPause o2 = v.pauseShred o2 :=
  if_pos (by simp [phase, between, first, on, inert, high, halted_eq, Chamber.atBoundary, State.limits])

theorem testHigh_rests {inProgress : Bool}
    (rests : inProgress = false ∨ v.chamberInert = false ∨ o2 ≤ 80) : v.testHigh inProgress o2 = v := by
  refine if_neg ?_
  simp only [Bool.and_eq_true, decide_eq_true_eq]
  rintro ⟨⟨busy, inert⟩, high⟩
  obtain idle | free | low := rests
  · simp [idle] at busy
  · simp [free] at inert
  · exact absurd high (Nat.not_lt.mpr low)

theorem testHigh_raises (inert : v.chamberInert = true) (high : 80 < o2) :
    v.testHigh true o2 = v.raise .chamberO2High .chamber { first := o2, second := none } :=
  if_pos (by
    simp only [inert, Bool.true_and, decide_eq_true_eq]
    exact high)

/-- The high limit, in a shred in progress or not: nothing of the chamber but its nitrogen may differ. -/
theorem testHigh_keeps (v : State) (inProgress : Bool) (o2 : Nat) :
    (∃ isOpen, (v.testHigh inProgress o2).chamber = { v.chamber with nitrogenOpen := isOpen }) ∧
      (v.testHigh inProgress o2).control.settings = v.control.settings ∧
      (v.control.line = .halted → (v.testHigh inProgress o2).control.line = .halted) := by
  unfold State.testHigh
  split
  · exact ⟨raise_chamber .., raise_settings .., fun halted => raise_halted halted ..⟩
  · exact ⟨⟨_, rfl⟩, rfl, id⟩

/-- The oxygen pause: the shredder's stop, the condition, and a re-purge (R126). -/
theorem pauseShred_eq (between : v.chamber.nextPhase = none) (unit : v.chamber.unit = some tag) {w : State}
    (entered : w = (((v.issueFor .chamberSequencer .chamber .shredderStop .oxygenPause).raise .chamberO2Pause
      .chamber { first := o2, second := none }).onChamber fun c => { c with phase := .purge }).watchEntry 9
        (some tag) .purge) :
    v.pauseShred o2 = (w.issue .chamberSequencer .chamber (.nitrogen true)).onChamber fun c =>
      { c with
        repurge := true, nitrogenOpen := true
        purgeEnd := some (v.now + v.control.settings.purgeMax * 1000) } := by
  rw [raise_quiet (by decide)] at entered
  have enters : ((v.issueFor .chamberSequencer .chamber .shredderStop .oxygenPause).raise .chamberO2Pause
      .chamber (one o2)).enterChamberPhase .purge = w := by
    have forgets : { v.chamber with phase := .purge, nextPhase := none } =
        { v.chamber with phase := .purge } := by
      rw [← between]
    rw [raise_quiet (by decide), entered, enterChamberPhase_eq, ← unit, State.onChamber]
    exact congrArg (fun c : Chamber => State.watchEntry { ((v.issueFor .chamberSequencer .chamber .shredderStop
      .oxygenPause).setMonitor _) with chamber := c } 9 v.chamber.unit .purge) forgets
  rw [State.pauseShred, beginPurge_eq, enters, raise_quiet (by decide)]
  rfl

theorem pauseShred_chamber (v : State) (o2 : Nat) : (v.pauseShred o2).chamber =
    { v.chamber with
      phase := .purge, nextPhase := none, repurge := true, nitrogenOpen := true
      purgeEnd := some (v.now + v.control.settings.purgeMax * 1000) } := by
  rw [State.pauseShred, beginPurge_eq, raise_quiet (by decide), onChamber_chamber, issue_chamber,
    enterChamberPhase_chamber]
  rfl

theorem pauseShred_register (v : State) (o2 : Nat) : (v.pauseShred o2).register = v.register := by
  rw [State.pauseShred, beginPurge_eq, raise_quiet (by decide), onChamber_register, issue_register,
    enterChamberPhase_register]
  rfl

/-! ## EMPTY (R125, R133) -/

theorem takeEmpty_rests (rests : v.chamber.shredInProgress = false ∨ v.chamber.phase = .clear) :
    v.takeEmpty = v :=
  if_pos (by simpa using rests)

theorem cannotEndShred_iff (v : State) : v.cannotEndShred = true ↔
    v.control.line = .halted ∨ v.chamber.phase = .suspended ∨
      (v.chamber.phase = .purge ∧ v.chamber.repurge = true) ∨
      ∃ o ∈ v.loop.orders, o.node = .chamber ∧ o.kind = .shredderStop := by
  simp only [State.cannotEndShred, Bool.or_eq_true, Bool.and_eq_true, beq_iff_eq, State.halted,
    shredderStopping_iff, or_assoc]

theorem takeEmpty_noted (busy : v.chamber.shredInProgress = true) (phase : v.chamber.phase ≠ .clear)
    (cannot : v.cannotEndShred = true) : v.takeEmpty = v.onChamber fun c => { c with emptyNoted := true } := by
  rw [State.takeEmpty, if_neg (by simp [busy, phase]), if_pos cannot]

theorem takeEmpty_ends (phase : v.chamber.phase = .shred) (between : v.chamber.nextPhase = none)
    (on : v.control.line ≠ .halted)
    (unstopped : ∀ o ∈ v.loop.orders, o.node = .chamber → o.kind ≠ .shredderStop) :
    v.takeEmpty = v.endShred := by
  have busy : v.chamber.shredInProgress = true := (shredInProgress_iff _).mpr ⟨between, .inl phase⟩
  have can : ¬ v.cannotEndShred = true := by
    rw [cannotEndShred_iff, phase]
    rintro (halted | susp | ⟨purge, -⟩ | ⟨o, mem, node, kind⟩)
    · exact on halted
    · cases susp
    · cases purge
    · exact unstopped o mem node kind
  rw [State.takeEmpty, if_neg (by simp [busy, phase]), if_neg can, if_pos (by rw [phase]; rfl)]

/-! ## The end of PURGE (R123, R126) -/

theorem testPurgeEnd_rests (rests : v.chamber.phase ≠ .purge ∨ v.control.line = .halted ∨
    v.control.settings.purgeO2 < o2) : v.testPurgeEnd o2 = v := by
  refine if_neg ?_
  simp only [Bool.and_eq_true, beq_iff_eq, Bool.not_eq_true', halted_eq, decide_eq_false_iff_not,
    decide_eq_true_eq]
  rintro ⟨⟨⟨phase, -⟩, on⟩, low⟩
  obtain other | halted | high := rests
  · exact other phase
  · exact on halted
  · exact absurd low (Nat.not_le.mpr high)

theorem testPurgeEnd_ends (phase : v.chamber.phase = .purge) (between : v.chamber.nextPhase = none)
    (on : v.control.line ≠ .halted) (low : o2 ≤ v.control.settings.purgeO2) :
    v.testPurgeEnd o2 = v.endPurgePhase :=
  if_pos (by simp [phase, between, on, low, halted_eq, Chamber.atBoundary, State.limits])

theorem endPurgePhase_first (first : v.chamber.repurge = false) : v.endPurgePhase =
    ((v.issue .chamberSequencer .chamber (.nitrogen false)).onChamber fun c =>
      { c with nitrogenOpen := false, purgeEnd := none }).endChamberPhase .shred := by
  have stays : ((v.orderChamber (.nitrogen false)).onChamber fun c =>
      { c with nitrogenOpen := false, purgeEnd := none, repurge := false }) =
        (v.issue .chamberSequencer .chamber (.nitrogen false)).onChamber fun c =>
          { c with nitrogenOpen := false, purgeEnd := none } := by
    rw [State.onChamber, State.onChamber, ← first]
    rfl
  rw [State.endPurgePhase, first, stays]
  rfl

/-- A re-purge returns to SHRED, and with empty noted ends it at once. -/
theorem endPurgePhase_again (again : v.chamber.repurge = true) (between : v.chamber.nextPhase = none) {w : State}
    (returned : w = ((v.issue .chamberSequencer .chamber (.nitrogen false)).onChamber fun c =>
      { c with phase := .shred, nitrogenOpen := false, purgeEnd := none, repurge := false }).watchEntry 9
        v.chamber.unit .shred) :
    v.endPurgePhase =
      if v.chamber.emptyNoted = true then w.endShred
      else w.issue .chamberSequencer .chamber .shredderStart := by
  have enters : ((v.orderChamber (.nitrogen false)).onChamber fun c =>
      { c with nitrogenOpen := false, purgeEnd := none, repurge := false }).enterChamberPhase .shred = w := by
    have forgets : { v.chamber with
        phase := .shred, nitrogenOpen := false, purgeEnd := none, repurge := false, nextPhase := none } =
          { v.chamber with phase := .shred, nitrogenOpen := false, purgeEnd := none, repurge := false } := by
      rw [← between]
    rw [returned, State.onChamber]
    exact congrArg (fun c : Chamber => State.watchEntry { (v.issue .chamberSequencer .chamber
      (.nitrogen false)) with chamber := c } 9 v.chamber.unit .shred) forgets
  have noted : w.chamber.emptyNoted = v.chamber.emptyNoted := by
    rw [← enters, enterChamberPhase_chamber]
    rfl
  rw [State.endPurgePhase, again, if_pos rfl, State.returnToShred, enters, noted]
  rfl

/-! ## The answer's readings, in order (log 22) -/

/-- EMPTY, where the answer reports it. -/
def emptyTaken (g : ChamberReadings) (v : State) : State := if g.emptied = true then v.takeEmpty else v

/-- The end of a PURGE that began before the answer. -/
def purgeTested (before : Chamber) (g : ChamberReadings) (v : State) : State :=
  if before.inPurge = true then v.testPurgeEnd g.o2 else v

/-- What the readings bring once they are kept and LEL_WARN is raised. -/
def readingsActed (before : Chamber) (g : ChamberReadings) (v : State) : State :=
  purgeTested before g (emptyTaken g ((v.testPause g.o2).testHigh v.chamber.shredInProgress g.o2))

theorem takeChamberReadings_eq (s : State) (before : Chamber) (g : ChamberReadings) :
    s.takeChamberReadings before g = readingsActed before g
      ((s.onChamber fun c => { c with readings := some g }).warnLel g.lel) := by
  have same : ((s.onChamber fun c => { c with readings := some g }).warnLel g.lel).chamber.shredInProgress =
      s.chamber.shredInProgress := by
    obtain ⟨m, warned⟩ := warnLel_quiet (s.onChamber fun c => { c with readings := some g }) g.lel
    rw [warned]
    rfl
  rw [readingsActed, same]
  rfl

theorem purgeTested_outside (outside : before.phase ≠ .purge ∨ before.nextPhase ≠ none) (g : ChamberReadings)
    (v : State) : purgeTested before g v = v := by
  refine if_neg ?_
  rw [inPurge_iff]
  tauto

theorem purgeTested_inside (phase : before.phase = .purge) (between : before.nextPhase = none)
    (g : ChamberReadings) (v : State) : purgeTested before g v = v.testPurgeEnd g.o2 :=
  if_pos ((inPurge_iff _).mpr ⟨phase, between⟩)

theorem emptyTaken_not (full : g.emptied = false) (v : State) : emptyTaken g v = v :=
  if_neg (by simp [full])

theorem emptyTaken_reported (emptied : g.emptied = true) (v : State) : emptyTaken g v = v.takeEmpty :=
  if_pos emptied

/-- With no shred in progress only the end of a PURGE is tested. -/
theorem readingsActed_idle (idle : v.chamber.shredInProgress = false) :
    readingsActed before g v = purgeTested before g v := by
  have outside : v.chamber.phase ≠ .shred ∨ v.chamber.nextPhase ≠ none := by
    rw [Bool.eq_false_iff, ne_eq, shredInProgress_iff] at idle
    tauto
  have empty : emptyTaken g v = v := by
    unfold emptyTaken
    split
    · exact takeEmpty_rests (.inl idle)
    · rfl
  rw [readingsActed, testPause_rests (by tauto), testHigh_rests (.inl idle), empty]

/-- A shred in progress that its O2 does not pause. -/
theorem readingsActed_busy (busy : v.chamber.shredInProgress = true) (unpaused : v.testPause g.o2 = v) :
    readingsActed before g v = purgeTested before g (emptyTaken g (v.testHigh true g.o2)) := by
  rw [readingsActed, unpaused, busy]

/-! ## An answer without reports -/

/-- The answer's readings are kept (R119, R189). -/
def readingsKept (m : Moment) (g : ChamberReadings) (s : State) : State :=
  ({ s.advanceTo m with chamber := { s.chamber with readings := some g } } : State).setNode .chamber
    { misses := 0, silent := false, previousTaken := true }

theorem heardAt_readings (m : Moment) (g : ChamberReadings) (s : State) :
    ((heardAt .chamber m s).onChamber fun c => { c with readings := some g }) = readingsKept m g s := by
  have chamber := chamber_advanceTo s m
  unfold heardAt readingsKept
  generalize s.advanceTo m = u at chamber ⊢
  rw [← chamber]
  rfl

theorem exec_chamberAnswer {a : ChamberAnswer} (runs : s.resetPin = false)
    (heard : (s.node .chamber).silent = false) (reports : a.reports = []) (readings : a.readings = g) :
    exec (.chamberAnswer a) s =
      .next (readingsActed s.chamber g ((readingsKept a.moment g s).warnLel g.lel)).afterEvent := by
  have taken : takeChamber a s = readingsActed s.chamber g ((readingsKept a.moment g s).warnLel g.lel) := by
    rw [takeChamber, takeAnswer_heard heard, reports, forAll_nil, takeChamberReadings_eq, readings, heardAt_readings]
  rw [← taken]
  exact congrArg Host.Outcome.next (event_eq runs _)

/-- `v` is `s` with the answer's readings in its chamber, as far as the tests of the readings look. -/
structure ChamberReads (s : State) (g : ChamberReadings) (v : State) : Prop where
  chamber : v.chamber = { s.chamber with readings := some g }
  control : v.control = s.control
  register : v.register = s.register
  orders : v.loop.orders = s.loop.orders

theorem readingsKept_reads (s : State) (m : Moment) (g : ChamberReadings) :
    ChamberReads s g (readingsKept m g s) := by
  have control : (s.advanceTo m).control = s.control := advance_control ..
  have register : (s.advanceTo m).register = s.register := advance_register ..
  have loop : (s.advanceTo m).loop = s.loop := advance_loop ..
  unfold readingsKept
  generalize s.advanceTo m = u at control register loop ⊢
  exact ⟨rfl, control, register, show u.loop.orders = s.loop.orders by rw [loop]⟩

namespace ChamberReads

theorem of_written (s : State) (g : ChamberReadings) :
    ChamberReads s g { s with chamber := { s.chamber with readings := some g } } := ⟨rfl, rfl, rfl, rfl⟩

section
variable (h : ChamberReads s g v)
include h

theorem warned (lel : Nat) : ChamberReads s g (v.warnLel lel) := by
  obtain ⟨m, warned⟩ := warnLel_quiet v lel
  rw [warned]
  exact ⟨h.chamber, h.control, h.register, h.orders⟩

theorem phase : v.chamber.phase = s.chamber.phase := by rw [h.chamber]

theorem next : v.chamber.nextPhase = s.chamber.nextPhase := by rw [h.chamber]

theorem repurge : v.chamber.repurge = s.chamber.repurge := by rw [h.chamber]

theorem unit : v.chamber.unit = s.chamber.unit := by rw [h.chamber]

theorem emptyNoted : v.chamber.emptyNoted = s.chamber.emptyNoted := by rw [h.chamber]

theorem inProgress : v.chamber.shredInProgress = s.chamber.shredInProgress := by
  rw [h.chamber]
  rfl

theorem inert (unit : s.chamber.unit = some tag) (found : s.findUnit tag = some r) :
    v.chamberInert = r.inertRequired :=
  chamberInert_eq (h.unit.trans unit) ((findUnit_of_register h.register tag).trans found)

/-- O2 that neither limit of a shred minds (R126). -/
theorem breathes (unit : s.chamber.unit = some tag) (found : s.findUnit tag = some r)
    (low : r.inertRequired = false ∨ g.o2 ≤ s.control.settings.pauseO2 ∧ g.o2 ≤ 80) :
    v.testPause g.o2 = v ∧ v.testHigh true g.o2 = v := by
  have inert := h.inert unit found
  have pauses : v.control.settings.pauseO2 = s.control.settings.pauseO2 := by rw [h.control]
  obtain free | ⟨low, safe⟩ := low
  · have free := inert.trans free
    exact ⟨testPause_rests (.inr (.inr (.inr (.inl free)))), testHigh_rests (.inr (.inl free))⟩
  · exact ⟨testPause_rests (.inr (.inr (.inr (.inr (pauses ▸ low))))), testHigh_rests (.inr (.inr safe))⟩

/-- A chamber at a boundary, or in a phase that reads nothing, acts on no reading (log 22). -/
theorem acts_none (rests : s.chamber.nextPhase ≠ none ∨ s.chamber.phase = .idle ∨ s.chamber.phase = .airlock ∨
    s.chamber.phase = .faulted) : readingsActed s.chamber g v = v := by
  have idle : s.chamber.shredInProgress = false := by
    rw [Bool.eq_false_iff, ne_eq, shredInProgress_iff]
    rintro ⟨between, phase⟩
    obtain boundary | rests := rests
    · exact boundary between
    · obtain rest | rest | rest := rests
      all_goals simp [rest] at phase
  rw [readingsActed_idle (h.inProgress.trans idle), purgeTested_outside]
  obtain boundary | rest | rest | rest := rests
  · exact .inr boundary
  all_goals exact .inl (by simp [rest])

/-- The first PURGE of a unit reads only what ends it. -/
theorem acts_purge (phase : s.chamber.phase = .purge) (between : s.chamber.nextPhase = none)
    (first : s.chamber.repurge = false) : readingsActed s.chamber g v = v.testPurgeEnd g.o2 := by
  have idle : s.chamber.shredInProgress = false := by
    rw [Bool.eq_false_iff, ne_eq, shredInProgress_iff]
    simp [phase, first]
  rw [readingsActed_idle (h.inProgress.trans idle), purgeTested_inside phase between]

/-- A re-purge reads the high limit, EMPTY and what ends it. -/
theorem acts_repurge (phase : s.chamber.phase = .purge) (between : s.chamber.nextPhase = none)
    (again : s.chamber.repurge = true) :
    readingsActed s.chamber g v = (emptyTaken g (v.testHigh true g.o2)).testPurgeEnd g.o2 := by
  have busy : s.chamber.shredInProgress = true := (shredInProgress_iff _).mpr ⟨between, by simp [phase, again]⟩
  rw [readingsActed_busy (h.inProgress.trans busy) (testPause_rests (.inl (by simp [h.phase, phase]))),
    purgeTested_inside phase between]

/-- A shred in progress outside PURGE that its O2 does not pause reads the high limit and EMPTY. -/
theorem acts_shred (busy : s.chamber.shredInProgress = true) (other : s.chamber.phase ≠ .purge)
    (unpaused : v.testPause g.o2 = v) :
    readingsActed s.chamber g v = emptyTaken g (v.testHigh true g.o2) := by
  rw [readingsActed_busy (h.inProgress.trans busy) unpaused, purgeTested_outside (.inl other)]

/-- In the oxygen pause the high limit and EMPTY are tested after the re-purge has begun (R126). -/
theorem acts_paused (phase : s.chamber.phase = .shred) (between : s.chamber.nextPhase = none)
    (first : s.chamber.repurge = false) (on : s.control.line ≠ .halted) (unit : s.chamber.unit = some tag)
    (found : s.findUnit tag = some r) (inert : r.inertRequired = true)
    (high : s.control.settings.pauseO2 < g.o2) :
    readingsActed s.chamber g v = emptyTaken g ((v.pauseShred g.o2).testHigh true g.o2) := by
  have busy : s.chamber.shredInProgress = true := (shredInProgress_iff _).mpr ⟨between, .inl phase⟩
  have pauses : v.testPause g.o2 = v.pauseShred g.o2 :=
    testPause_pauses (h.phase.trans phase) (h.next.trans between) (h.repurge.trans first) (by rwa [h.control])
      ((h.inert unit found).trans inert) (by rwa [h.control])
  rw [readingsActed, pauses, h.inProgress.trans busy, purgeTested_outside (.inl (by simp [phase]))]

/-- The unit is still inert-required in the pause. -/
theorem inert_paused (unit : s.chamber.unit = some tag) (found : s.findUnit tag = some r)
    (inert : r.inertRequired = true) : (v.pauseShred g.o2).chamberInert = true :=
  (chamberInert_eq ((congrArg Chamber.unit (pauseShred_chamber v g.o2)).trans (h.unit.trans unit))
    ((findUnit_of_register ((pauseShred_register v g.o2).trans h.register) tag).trans found)).trans inert

/-- EMPTY in a shred in progress that cannot end is noted, the high limit raised or not. -/
theorem notes (busy : s.chamber.shredInProgress = true) (clear : s.chamber.phase ≠ .clear)
    (cannot : s.control.line = .halted ∨ s.chamber.phase = .suspended ∨
      s.chamber.phase = .purge ∧ s.chamber.repurge = true) :
    (v.testHigh true g.o2).takeEmpty = (v.testHigh true g.o2).onChamber fun c => { c with emptyNoted := true } := by
  obtain ⟨⟨isOpen, chamber⟩, -, halted⟩ := testHigh_keeps v true g.o2
  rw [h.chamber] at chamber
  refine takeEmpty_noted ?_ ?_ ((cannotEndShred_iff _).mpr ?_)
  · rw [chamber]
    exact busy
  · rw [chamber]
    exact clear
  · rw [chamber]
    obtain stopped | other | again := cannot
    · exact .inl (halted (h.control ▸ stopped))
    · exact .inr (.inl other)
    · exact .inr (.inr (.inl again))

/-- EMPTY in the answer that ends a re-purge is noted first, and the return ends SHRED at once (R125, R126). -/
theorem acts_repurge_emptied (phase : s.chamber.phase = .purge) (between : s.chamber.nextPhase = none)
    (again : s.chamber.repurge = true) (on : s.control.line ≠ .halted) (low : g.o2 ≤ s.control.settings.purgeO2)
    (safe : g.o2 ≤ 80) (emptied : g.emptied = true) (unit : s.chamber.unit = some tag) {w : State}
    (returned : w = ((v.issue .chamberSequencer .chamber (.nitrogen false)).onChamber fun c =>
      { c with
        phase := .shred, nitrogenOpen := false, purgeEnd := none, repurge := false
        emptyNoted := true }).watchEntry 9 (some tag) .shred) :
    readingsActed s.chamber g v = w.endShred := by
  have busy : s.chamber.shredInProgress = true := (shredInProgress_iff _).mpr ⟨between, by simp [phase, again]⟩
  have noted := h.notes busy (by simp [phase]) (.inr (.inr ⟨phase, again⟩))
  rw [testHigh_rests (.inr (.inr safe))] at noted
  obtain ⟨u, written⟩ : ∃ u, u = v.onChamber fun c => { c with emptyNoted := true } := ⟨_, rfl⟩
  have chamber : u.chamber = { v.chamber with emptyNoted := true } := by rw [written, onChamber_chamber]
  have control : u.control = s.control := by rw [written, onChamber_control, h.control]
  have between' : u.chamber.nextPhase = none := by rw [chamber, h.next, between]
  have returned' : w = ((u.issue .chamberSequencer .chamber (.nitrogen false)).onChamber fun c =>
      { c with phase := .shred, nitrogenOpen := false, purgeEnd := none, repurge := false }).watchEntry 9
        u.chamber.unit .shred := by
    rw [returned, chamber, h.unit, unit, written]
    rfl
  rw [h.acts_repurge phase between again, testHigh_rests (.inr (.inr safe)), emptyTaken_reported emptied, noted,
    ← written, testPurgeEnd_ends (by rw [chamber, h.phase, phase]) between' (by rwa [control]) (by rwa [control]),
    endPurgePhase_again (by rw [chamber, h.repurge, again]) between' returned', if_pos (by rw [chamber])]

/-- A shred in progress outside CLEAR that can neither pause, nor end, nor leave its PURGE (R126, R133). -/
theorem acts_stuck (between : s.chamber.nextPhase = none)
    (stuck : s.chamber.phase = .suspended ∧ s.chamber.returnPhase ≠ none ∨
      s.chamber.phase = .purge ∧ s.chamber.repurge = true ∧
        (s.control.settings.purgeO2 < g.o2 ∨ s.control.line = .halted) ∨
      s.chamber.phase = .shred ∧ s.control.line = .halted) :
    (g.emptied = false → readingsActed s.chamber g v = v.testHigh true g.o2) ∧
    (g.emptied = true → readingsActed s.chamber g v =
      (v.testHigh true g.o2).onChamber fun c => { c with emptyNoted := true }) := by
  obtain ⟨phase, back⟩ | ⟨phase, again, stays⟩ | ⟨phase, halted⟩ := stuck
  · have busy : s.chamber.shredInProgress = true :=
      (shredInProgress_iff _).mpr ⟨between, by simp [phase, Option.isSome_iff_ne_none, back]⟩
    rw [h.acts_shred busy (by simp [phase]) (testPause_rests (.inl (by simp [h.phase, phase])))]
    exact ⟨fun full => emptyTaken_not full _, fun emptied => by
      rw [emptyTaken_reported emptied, h.notes busy (by simp [phase]) (.inr (.inl phase))]⟩
  · have busy : s.chamber.shredInProgress = true := (shredInProgress_iff _).mpr ⟨between, by simp [phase, again]⟩
    obtain ⟨-, settings, halts⟩ := testHigh_keeps v true g.o2
    rw [h.control] at settings halts
    have rests (w : State) (control : w.control = (v.testHigh true g.o2).control) : w.testPurgeEnd g.o2 = w := by
      refine testPurgeEnd_rests (.inr ?_)
      rw [control, settings]
      exact stays.symm.imp_left halts
    rw [h.acts_repurge phase between again]
    refine ⟨fun full => ?_, fun emptied => ?_⟩
    · rw [emptyTaken_not full, rests _ rfl]
    · rw [emptyTaken_reported emptied, h.notes busy (by simp [phase]) (.inr (.inr ⟨phase, again⟩)),
        rests (State.onChamber _ _) rfl]
  · have busy : s.chamber.shredInProgress = true := (shredInProgress_iff _).mpr ⟨between, .inl phase⟩
    rw [h.acts_shred busy (by simp [phase]) (testPause_rests (.inr (.inr (.inl (by rwa [h.control])))))]
    exact ⟨fun full => emptyTaken_not full _, fun emptied => by
      rw [emptyTaken_reported emptied, h.notes busy (by simp [phase]) (.inl halted)]⟩

/-- In CLEAR only the high limit acts (R126; log 22). -/
theorem acts_clear (between : s.chamber.nextPhase = none) (phase : s.chamber.phase = .clear) :
    readingsActed s.chamber g v = v.testHigh true g.o2 := by
  have busy : s.chamber.shredInProgress = true := (shredInProgress_iff _).mpr ⟨between, by simp [phase]⟩
  obtain ⟨⟨isOpen, chamber⟩, -, -⟩ := testHigh_keeps v true g.o2
  have clear : (v.testHigh true g.o2).chamber.phase = .clear := by
    rw [chamber]
    exact h.phase.trans phase
  rw [h.acts_shred busy (by simp [phase]) (testPause_rests (.inl (by simp [h.phase, phase])))]
  unfold emptyTaken
  split
  · exact takeEmpty_rests (.inr clear)
  · rfl

end
end ChamberReads

/-- EMPTY with the pause of the same answer is noted, the high limit raised or not (R125, R126). -/
theorem takeEmpty_paused (v : State) (o2 : Nat) :
    ((v.pauseShred o2).testHigh true o2).takeEmpty =
      ((v.pauseShred o2).testHigh true o2).onChamber fun c => { c with emptyNoted := true } := by
  obtain ⟨⟨isOpen, chamber⟩, -, -⟩ := testHigh_keeps (v.pauseShred o2) true o2
  rw [pauseShred_chamber] at chamber
  refine takeEmpty_noted ((shredInProgress_iff _).mpr ?_) ?_ ((cannotEndShred_iff _).mpr ?_)
  all_goals
    rw [chamber]
    simp

/-! ## The airlock's end (R122) -/

/-- A chamber that has passed AIRLOCK, or stands before the next phase: no shred is in progress, or it is the first
of a unit that is not inert-required. -/
def Passed (v : State) : Prop :=
  (v.chamber.shredInProgress = false ∧ v.chamber.phase ≠ .shred) ∨
    (v.chamber.phase = .shred ∧ v.chamber.nextPhase = none ∧ v.control.line ≠ .halted ∧ v.chamberInert = false)

theorem watchEntry_on (on : s.control.line ≠ .halted) (rank : Nat) (tag : Option Tag) (p : PhaseName) :
    (s.watchEntry rank tag p).control.line ≠ .halted := by
  unfold State.watchEntry
  cases tag with
  | none => exact on
  | some t =>
    dsimp only
    split
    · rw [raise_quiet (by decide)]
      split
      · rw [lineStop_control]
        exact nofun
      · exact on
    · exact on

theorem passed_boundary (phase : s.chamber.phase ≠ .shred) (p : ChamberPhase) :
    Passed (s.onChamber fun c => { c with nextPhase := some p }) :=
  .inl ⟨rfl, phase⟩

theorem passed_purge (phase : s.chamber.phase ≠ .shred) : Passed (s.endChamberPhase .purge) := by
  cases may : s.chamberMay with
  | false =>
    rw [endChamberPhase_waits may]
    exact passed_boundary phase .purge
  | true =>
    have begun : (s.endChamberPhase .purge).chamber.phase = .purge ∧
        (s.endChamberPhase .purge).chamber.repurge = false := by
      rw [endChamberPhase_purge may, beginPurge_eq, onChamber_chamber, issue_chamber, enterChamberPhase_chamber]
      exact ⟨rfl, rfl⟩
    refine .inl ⟨?_, by simp [begun.1]⟩
    rw [Bool.eq_false_iff, ne_eq, shredInProgress_iff]
    simp [begun]

/-- SHRED begun by a unit that is not inert-required. -/
theorem passed_beginShred (on : s.control.line ≠ .halted) (unit : s.chamber.unit = some tag)
    (found : s.findUnit tag = some r) (free : r.inertRequired = false) (room : s.mayShred = true) :
    Passed s.beginShred := by
  cases condensing : s.condensing with
  | none =>
    rw [mayShred_false (.inl condensing)] at room
    cases room
  | some bk =>
    have entered : (s.enterChamberPhase .shred).findUnit tag = some r :=
      (findUnit_of_register (enterChamberPhase_register ..) tag).trans found
    have handed := cabinetHanded_found bk entered
    have chamber := cabinetHanded_chamber (s.enterChamberPhase .shred) tag bk
    have control : (cabinetHanded (s.enterChamberPhase .shred) tag bk).control =
        (s.enterChamberPhase .shred).control := by
      rw [cabinetHanded, onUnit_control, onBank_control]
    have on' : (cabinetHanded (s.enterChamberPhase .shred) tag bk).control.line ≠ .halted := by
      rw [control]
      exact watchEntry_on (s := inPhase s .shred) on 9 s.chamber.unit .shred
    rw [enterChamberPhase_chamber] at chamber
    rw [beginShred_handed unit condensing rfl]
    generalize cabinetHanded (s.enterChamberPhase .shred) tag bk = u at handed chamber on'
    have inert := chamberInert_eq (s := u) (by rw [chamber, unit]) handed
    refine .inr ⟨?_, ?_, on', inert.trans free⟩
    · exact congrArg Chamber.phase chamber
    · exact congrArg Chamber.nextPhase chamber

theorem passed_shred (phase : s.chamber.phase ≠ .shred) (on : s.control.line ≠ .halted)
    (unit : s.chamber.unit = some tag) (found : s.findUnit tag = some r) (free : r.inertRequired = false) :
    Passed (s.endChamberPhase .shred) := by
  cases may : s.chamberMay with
  | false =>
    rw [endChamberPhase_waits may]
    exact passed_boundary phase .shred
  | true =>
    cases room : s.mayShred with
    | false =>
      rw [endChamberPhase_shred_barred room]
      exact passed_boundary phase .shred
    | true =>
      rw [endChamberPhase_shred may room, if_neg (by simp [chamberInert_eq unit found, free])]
      exact passed_beginShred (s := s.spendChamberCredit) on unit found free room

theorem endChamberPhase_settings (s : State) (p : ChamberPhase) :
    (s.endChamberPhase p).control.settings = s.control.settings :=
  (endChamberPhase_changes p (.refl (p := ⟨false, false⟩) s)).settings

namespace ChamberReads

section
variable (h : ChamberReads s g v) (passed : Passed s) (outside : before.phase ≠ .purge)
include h passed outside

/-- After the airlock only EMPTY can act, and in SHRED only (R125, R189). -/
theorem acts_passed : readingsActed before g v = if s.chamber.phase = .shred then emptyTaken g v else v := by
  obtain ⟨idle, phase⟩ | ⟨phase, between, -, free⟩ := passed
  · rw [readingsActed_idle (h.inProgress.trans idle), purgeTested_outside (.inl outside), if_neg phase]
  · have busy : s.chamber.shredInProgress = true := (shredInProgress_iff _).mpr ⟨between, .inl phase⟩
    have free' : v.chamberInert = false := by
      have units (tag : Tag) : v.findUnit tag = s.findUnit tag := findUnit_of_register h.register tag
      rw [← free, State.chamberInert, h.unit, funext units, State.chamberInert]
    rw [readingsActed_busy (h.inProgress.trans busy) (testPause_rests (by simp [free'])),
      purgeTested_outside (.inl outside), testHigh_rests (by simp [free']), if_pos phase]

theorem passed_ends (phase : s.chamber.phase = .shred) (emptied : g.emptied = true)
    (unstopped : ∀ o ∈ s.loop.orders, o.node = .chamber → o.kind ≠ .shredderStop) :
    readingsActed before g v = v.endShred := by
  obtain ⟨-, other⟩ | ⟨-, between, on, -⟩ := id passed
  · exact absurd phase other
  · rw [h.acts_passed passed outside, if_pos phase, emptyTaken_reported emptied,
      takeEmpty_ends (h.phase.trans phase) (h.next.trans between) (by rwa [h.control]) (by rwa [h.orders])]

theorem passed_notes (phase : s.chamber.phase = .shred) (emptied : g.emptied = true)
    (stopping : ∃ o ∈ s.loop.orders, o.node = .chamber ∧ o.kind = .shredderStop) :
    readingsActed before g v = v.onChamber fun c => { c with emptyNoted := true } := by
  obtain ⟨-, other⟩ | ⟨-, between, -, -⟩ := id passed
  · exact absurd phase other
  · have busy : s.chamber.shredInProgress = true := (shredInProgress_iff _).mpr ⟨between, .inl phase⟩
    rw [h.acts_passed passed outside, if_pos phase, emptyTaken_reported emptied,
      takeEmpty_noted (h.inProgress.trans busy) (by simp [h.phase, phase])
        ((cannotEndShred_iff _).mpr (by rw [h.orders]; exact .inr (.inr (.inr stopping))))]

end
end ChamberReads

/-- An order of the chamber's is reported DONE in an answer, and nothing more is taken yet (R193). -/
def reportTaken (s : State) (m : Moment) (number : Nat) : State :=
  (heardAt .chamber m s).setOrders (otherOrders .chamber number s.loop.orders)

section
variable (s : State) (m : Moment) (number : Nat)

theorem reportTaken_chamber : (reportTaken s m number).chamber = s.chamber := by
  rw [reportTaken, setOrders_chamber, heardAt, setNode_chamber, chamber_advanceTo]

theorem reportTaken_control : (reportTaken s m number).control = s.control := by
  rw [reportTaken, setOrders_control, heardAt_control]

theorem reportTaken_findUnit (tag : Tag) : (reportTaken s m number).findUnit tag = s.findUnit tag :=
  findUnit_of_register (by rw [reportTaken, setOrders_register, heardAt_register]) tag

end

/-- The DOOR_CYCLE of the chamber is reported DONE, and nothing more is taken yet. -/
def doorReported (s : State) (m : Moment) (number : Nat) : State :=
  (reportTaken s m number).onChamber fun c => { c with doorOrder := none }

section
variable (s : State) (m : Moment) (number : Nat)

theorem doorReported_chamber : (doorReported s m number).chamber = { s.chamber with doorOrder := none } := by
  rw [doorReported, onChamber_chamber, reportTaken_chamber]

theorem doorReported_control : (doorReported s m number).control = s.control := by
  rw [doorReported, onChamber_control, reportTaken_control]

theorem doorReported_findUnit (tag : Tag) : (doorReported s m number).findUnit tag = s.findUnit tag := by
  rw [← reportTaken_findUnit s m number, doorReported, findUnit_of_register (onChamber_register ..)]

end

theorem removeOrder_reported {n : Nat} {o : Order} (m : Moment) (found : s.findOrder .chamber n = some o) :
    (heardAt .chamber m s).removeOrder o = reportTaken s m n := by
  obtain ⟨node, number⟩ := findOrder_is found
  rw [removeOrder_eq, heardAt_orders, node, number, reportTaken]

/-- AIRLOCK ends, but for a frozen chamber: PURGE is next for an inert-required unit, else SHRED (R122, R133). -/
def airlockLeft (s : State) (r : UnitRecord) : State :=
  if s.control.line = .halted then s
  else s.endChamberPhase (if r.inertRequired = true then .purge else .shred)

theorem airlockLeft_settings (s : State) (r : UnitRecord) :
    (airlockLeft s r).control.settings = s.control.settings := by
  unfold airlockLeft
  split
  · rfl
  · exact endChamberPhase_settings ..

theorem passed_airlockLeft (phase : s.chamber.phase = .airlock) (unit : s.chamber.unit = some tag)
    (found : s.findUnit tag = some r) : Passed (airlockLeft s r) := by
  have other : s.chamber.phase ≠ .shred := by simp [phase]
  unfold airlockLeft
  split
  · refine .inl ⟨?_, other⟩
    rw [Bool.eq_false_iff, ne_eq, shredInProgress_iff]
    simp [phase]
  · rename_i on
    cases inert : r.inertRequired with
    | true => exact passed_purge other
    | false => exact passed_shred other on unit found inert

theorem chamberOrderDone_door {o : Order} (kind : o.kind = .doorCycle) (door : s.chamber.doorOrder = some o.number)
    (phase : s.chamber.phase = .airlock) {u : State} (recorded : u = s.onChamber fun c => { c with doorOrder := none })
    (unit : s.chamber.unit = some tag) (found : s.findUnit tag = some r) :
    s.chamberOrderDone o = airlockLeft u r := by
  have inert : u.chamberInert = r.inertRequired := by
    rw [recorded]
    exact chamberInert_eq (s := s.onChamber fun c => { c with doorOrder := none }) unit found
  rw [State.chamberOrderDone, kind]
  dsimp only
  rw [if_pos (by simp [door, phase]), ← recorded, halted_eq, State.endAirlock, inert, airlockLeft]
  simp only [decide_eq_true_eq]

/-- An answer that reports the DOOR_CYCLE DONE: the report, and then the readings (R189). -/
theorem exec_chamberAnswer_door {a : ChamberAnswer} {o : Order} {u : State} (runs : s.resetPin = false)
    (heard : (s.node .chamber).silent = false) (readings : a.readings = g)
    (reports : a.reports = [{ number := o.number, status := .done }])
    (found : s.findOrder .chamber o.number = some o) (kind : o.kind = .doorCycle)
    (door : s.chamber.doorOrder = some o.number) (phase : s.chamber.phase = .airlock)
    (unit : s.chamber.unit = some tag) (record : s.findUnit tag = some r)
    (recorded : u = doorReported s a.moment o.number) (left : v = airlockLeft u r) :
    exec (.chamberAnswer a) s = .next (readingsActed s.chamber g
      (({ v with chamber := { v.chamber with readings := some g } } : State).warnLel g.lel)).afterEvent := by
  have chamber := reportTaken_chamber s a.moment o.number
  have done : ((heardAt .chamber a.moment s).removeOrder o).chamberOrderDone o = v := by
    rw [removeOrder_reported a.moment found, chamberOrderDone_door kind (by rw [chamber, door])
      (by rw [chamber, phase]) recorded (by rw [chamber, unit]) ((reportTaken_findUnit ..).trans record), left]
  have taken : takeChamber a s = readingsActed s.chamber g
      (({ v with chamber := { v.chamber with readings := some g } } : State).warnLel g.lel) := by
    rw [takeChamber, reports, takeAnswer_done heard a.moment found rfl, done, takeChamberReadings_eq, readings]
    rfl
  rw [← taken]
  exact congrArg Host.Outcome.next (event_eq runs _)

/-! ## SHRED ends (R125) -/

theorem endShred_eq {ws : List WindowEntry} {w : WindowEntry} {start foam last : Grams}
    (unit : s.chamber.unit = some tag) (found : s.findUnit tag = some r) (windows : r.windows = ws ++ [w])
    (readings : s.chamber.readings = some g) (started : s.chamber.foamStart = some start)
    (shredded : foam = g.foam - start) (rest : last = foam - (ws.map fun e => e.foam.getD 0).sum) :
    s.endShred = ((foamWritten (s.onUnit tag fun r => { r with foam := some foam }) tag w.bank last).onChamber fun c =>
      { c with foamStart := none }).endChamberPhase .clear := by
  have tagged : r.tag = tag := by simpa using List.find?_some found
  have wrote : s.onChamberUnit (fun r => { r with foam := some foam }) =
      s.onUnit tag fun r => { r with foam := some foam } := by
    rw [State.onChamberUnit, unit]
  have found' : (s.onUnit tag fun r => { r with foam := some foam }).findUnit tag =
      some { r with foam := some foam } := by
    rw [findUnit_onUnit]
    · rw [found, Option.map_some, if_pos (by simp [tagged])]
    · exact fun _ => rfl
  have earlier : ({ r with foam := some foam } : UnitRecord).earlierFoam = (ws.map fun e => e.foam.getD 0).sum :=
    earlierFoam_eq (r := { r with foam := some foam }) windows
  rw [State.endShred, shredFoam_eq readings started, ← shredded, wrote, onUnit_chamber, unit]
  dsimp only
  rw [found']
  dsimp only
  rw [earlier, ← rest, writeLastFoam_eq found' windows]

end
/-- Settles O44: the answer without reports by the chamber's phase, the answer that ends AIRLOCK, and SHRED's end. -/
theorem chamberAnswerActsOnItsReadings : Obligations.ChamberAnswerActsOnItsReadings := by
  unfold Obligations.ChamberAnswerActsOnItsReadings
  refine ⟨fun s a g runs heard reports readings => ?_, ⟨?_, ?_⟩, ?_, ?_⟩
  · have acts := exec_chamberAnswer runs heard reports readings
    have kept := readingsKept_reads s a.moment g
    have v := kept.warned g.lel
    have now := warnLel_now (readingsKept a.moment g s) g.lel
    refine ⟨readingsKept a.moment g s, _, rfl, fun high => warnLel_high (by rwa [kept.control]),
      fun low => warnLel_low (by rwa [kept.control]), fun rests => by rw [acts, v.acts_none rests],
      fun between on phase first => ?_, fun between on phase again low safe full => ⟨_, rfl, ?_⟩,
      fun tag r between on phase first unit found => ⟨fun inert high full => ⟨_, _, rfl, rfl, ?_⟩,
        fun low => ?_⟩⟩
    · rw [acts, v.acts_purge phase between first]
      refine ⟨fun high => ?_, fun low => ?_⟩
      · rw [testPurgeEnd_rests (.inr (.inr (by rwa [v.control])))]
      · rw [testPurgeEnd_ends (v.phase.trans phase) (v.next.trans between) (by rwa [v.control])
          (by rwa [v.control]), endPurgePhase_first (v.repurge.trans first)]
    · rw [acts, v.acts_repurge phase between again, testHigh_rests (.inr (.inr safe)), emptyTaken_not full,
        testPurgeEnd_ends (v.phase.trans phase) (v.next.trans between) (by rwa [v.control]) (by rwa [v.control]),
        endPurgePhase_again (v.repurge.trans again) (v.next.trans between) rfl, v.emptyNoted, v.unit]
      exact ⟨fun fresh => by rw [if_neg (by simp [fresh])], fun noted => by rw [if_pos noted]⟩
    · have paused := pauseShred_eq (o2 := g.o2) (v.next.trans between) (v.unit.trans unit) rfl
      rw [now, v.control] at paused
      rw [acts, v.acts_paused phase between first on unit found inert high, emptyTaken_not full, ← paused]
      exact ⟨fun safe => by rw [testHigh_rests (.inr (.inr safe))],
        fun above => by rw [testHigh_raises (v.inert_paused unit found inert) above]⟩
    · have busy : s.chamber.shredInProgress = true := (shredInProgress_iff _).mpr ⟨between, .inl phase⟩
      obtain ⟨unpaused, safe⟩ := v.breathes unit found low
      rw [acts, v.acts_shred busy (by simp [phase]) unpaused, safe]
      refine ⟨fun full => by rw [emptyTaken_not full], fun unstopped emptied => ?_⟩
      rw [emptyTaken_reported emptied, takeEmpty_ends (v.phase.trans phase) (v.next.trans between)
        (by rwa [v.control]) (by rwa [v.orders])]
  · intro s a g o tag r runs heard readings reports found kind door phase between first unit record
    obtain ⟨u, recorded⟩ : ∃ u, u = doorReported s a.moment o.number := ⟨_, rfl⟩
    have acts := exec_chamberAnswer_door runs heard readings reports found kind door phase unit record recorded rfl
    have control : u.control = s.control := by rw [recorded, doorReported_control]
    have chamber : u.chamber = { s.chamber with doorOrder := none } := by rw [recorded, doorReported_chamber]
    have record' : u.findUnit tag = some r := by rw [recorded, doorReported_findUnit, record]
    have passed : Passed (airlockLeft u r) :=
      passed_airlockLeft (by rw [chamber, phase]) (by rw [chamber, unit]) record'
    have settings : (airlockLeft u r).control.settings = s.control.settings := by rw [airlockLeft_settings, control]
    have outside : s.chamber.phase ≠ .purge := by simp [phase]
    generalize left : airlockLeft u r = v at acts passed settings
    have x := (ChamberReads.of_written v g).warned g.lel
    rw [airlockLeft, control] at left
    refine ⟨u, v, _, ({ v with chamber := { v.chamber with readings := some g } } : State).warnLel g.lel, recorded,
      fun halted => ?_, fun on inert => ?_, fun on free => ?_, rfl, fun high => ?_, fun low => ?_, fun rests => ?_,
      fun emptied shreds unstopped => ?_, fun emptied shreds stopping => ?_⟩
    · rw [← left, if_pos halted]
    · rw [← left, if_neg on, if_pos inert]
    · rw [← left, if_neg on, if_neg (by simp [free])]
    · exact warnLel_high (settings ▸ high)
    · exact warnLel_low (settings ▸ low)
    · rw [acts, x.acts_passed passed outside]
      obtain full | other := rests
      · rw [emptyTaken_not full, ite_self]
      · rw [if_neg other]
    · rw [acts, x.passed_ends passed outside shreds emptied unstopped]
    · rw [acts, x.passed_notes passed outside shreds emptied stopping]
  · intro s a g tag r runs heard reports readings low emptied on between unit found
    have acts := exec_chamberAnswer runs heard reports readings
    have u := readingsKept_reads s a.moment g
    rw [warnLel_low (by rwa [u.control])] at acts
    refine ⟨readingsKept a.moment g s, rfl, fun phase first => ⟨fun low stopping => ?_, fun inert high => ?_⟩,
      fun phase again low safe => ⟨_, rfl, ?_⟩⟩
    · have busy : s.chamber.shredInProgress = true := (shredInProgress_iff _).mpr ⟨between, .inl phase⟩
      obtain ⟨unpaused, safe⟩ := u.breathes unit found low
      rw [acts, u.acts_shred busy (by simp [phase]) unpaused, safe, emptyTaken_reported emptied,
        takeEmpty_noted (u.inProgress.trans busy) (by simp [u.phase, phase])
          ((cannotEndShred_iff _).mpr (by rw [u.orders]; exact .inr (.inr (.inr stopping))))]
    · have paused := pauseShred_eq (o2 := g.o2) (u.next.trans between) (u.unit.trans unit) rfl
      rw [u.control] at paused
      refine ⟨_, _, ((readingsKept a.moment g s).pauseShred g.o2).testHigh true g.o2, rfl, rfl, fun safe => ?_,
        fun above => ?_, ?_⟩
      · rw [← paused, testHigh_rests (.inr (.inr safe))]
      · rw [← paused, testHigh_raises (u.inert_paused unit found inert) above]
      · rw [acts, u.acts_paused phase between first on unit found inert high, emptyTaken_reported emptied,
          takeEmpty_paused]
    · rw [acts, u.acts_repurge_emptied phase between again on low safe emptied unit rfl]
  · intro s a g tag r runs heard reports readings low between unit found
    have acts := exec_chamberAnswer runs heard reports readings
    have u := readingsKept_reads s a.moment g
    rw [warnLel_low (by rwa [u.control])] at acts
    refine ⟨readingsKept a.moment g s, (readingsKept a.moment g s).testHigh true g.o2, rfl, fun inert above => ?_,
      fun safe => ?_, fun phase => ?_, fun stuck => ?_, fun phase first halted => ?_⟩
    · rw [testHigh_raises ((u.inert unit found).trans inert) above]
    · rw [testHigh_rests (by rw [u.inert unit found]; exact .inr safe)]
    · rw [acts, u.acts_clear between phase]
    · obtain ⟨full, noted⟩ := u.acts_stuck between stuck
      exact ⟨fun e => by rw [acts, full e], fun e => by rw [acts, noted e]⟩
    · rw [acts, u.acts_purge phase between first, testPurgeEnd_rests (.inr (.inl (by rwa [u.control])))]
  · intro s tag r ws w g start foam last unit found windows readings started shredded rest
    rw [endShred_eq unit found windows readings started shredded rest]
    rfl

end Sys2Proof.Proofs

/-!
PROOFS. Family 07: nothing is due between two events (O5).
-/

namespace Sys2Proof.Proofs

open Sys2Proof Sys2Proof.Machine Sys2Proof.Laws

/-! ## What is due at the end of an event (R142, R172, R173) -/

section
variable {s t : State} {bk : BankId}

/-- What R142, R172 and R173 test, a state has in common with another: the banks, the chamber, what Line Control
keeps of the step, and of each station what bears on its credit and its rest. -/
structure SameDues (s t : State) : Prop where
  bankState : ∀ bk, (t.bank bk).state = (s.bank bk).state
  swapPending : ∀ bk, (t.bank bk).swapPending = (s.bank bk).swapPending
  chamber : t.chamber = s.chamber
  line : t.control.line = s.control.line
  credits : t.control.credits = s.control.credits
  chamberCredit : t.control.chamberCredit = s.control.chamberCredit
  holders : t.control.holders = s.control.holders
  chamberHolder : t.control.chamberHolder = s.control.chamberHolder
  keepsCredit : ∀ i, (t.station i).keepsCredit = (s.station i).keepsCredit
  atRest : ∀ i, (t.station i).atRest = (s.station i).atRest

theorem SameDues.condensing (same : SameDues s t) : t.condensing = s.condensing := by
  simp only [State.condensing, same.bankState]

theorem SameDues.swapDue (same : SameDues s t) (bk : BankId) : t.swapDue bk = s.swapDue bk := by
  simp only [State.swapDue, State.halted, same.bankState, same.swapPending, same.chamber, same.line]

theorem SameDues.nothingDue (same : SameDues s t) (h : s.nothingDue) : t.nothingDue := by
  simpa only [State.nothingDue, State.noSwapDue, State.creditsKept, State.stepOver, State.noCredits,
    State.holdersAtRest, same.condensing, same.swapDue, same.chamber, same.line, same.credits, same.chamberCredit,
    same.holders, same.chamberHolder, same.keepsCredit, same.atRest] using h

theorem keepsCredit_clock (x : Station) (clock : Moment) :
    ({ x with clock := clock } : Station).keepsCredit = x.keepsCredit := rfl

theorem atRest_clock (x : Station) (clock : Moment) : ({ x with clock := clock } : Station).atRest = x.atRest := rfl

/-- Time bears on nothing that is tested at the end of an event. -/
theorem sameDues_advance (s : State) (dt : Moment) : SameDues s (s.advance dt) where
  bankState := bankState_advance s dt
  swapPending bk := by rw [bank_advance]
  chamber := advance_chamber s dt
  line := by rw [advance_control]
  credits := by rw [advance_control]
  chamberCredit := by rw [advance_control]
  holders := by rw [advance_control]
  chamberHolder := by rw [advance_control]
  keepsCredit i := by rw [station_advance, keepsCredit_clock]
  atRest i := by rw [station_advance, atRest_clock]

/-! ## The end of an event -/

/-- There are two banks. -/
theorem eq_otherBank {other : BankId} (ne : other ≠ bk) : other = otherBank bk := by
  cases bk with
  | a => cases other with
    | a => exact absurd rfl ne
    | b => rfl
  | b => cases other with
    | a => rfl
    | b => exact absurd rfl ne

/-- A swap leaves the bank that it takes out in DEFROST, and so no swap back to it is due (R142). -/
theorem noSwapDue_swapBanks (on : s.control.line ≠ .halted) : (s.swapBanks bk).noSwapDue := by
  have states : bankStates (s.swapBanks bk) = bankStates
      (((swappedOut s bk).issue .condenser .condenser (.inletValve (otherBank bk) true)).setBank (otherBank bk)
        (condensed (s.bank (otherBank bk)))) := by
    rw [swapBanks_eq on, bankStates_bankCondenses]
  have out : ((s.swapBanks bk).bank bk).state = .defrost := by
    refine (congrFun states bk).trans ?_
    cases bk <;> rfl
  intro next condensing
  have enters : ((s.swapBanks bk).bank next).state = .condensing := by simpa using List.find?_some condensing
  have ne : next ≠ bk := by
    rintro rfl
    rw [out] at enters
    cases enters
  have other : otherBank next = bk := by rw [eq_otherBank ne, otherBank_otherBank]
  rw [Bool.eq_false_iff, ne_eq, swapDue_iff, other, out]
  rintro ⟨-, cold, -⟩
  cases cold

theorem noSwapDue_swapTest (s : State) : s.swapTest.noSwapDue := by
  cases condensing : s.condensing with
  | none =>
    rw [State.swapTest, condensing]
    intro bk held
    simp [condensing] at held
  | some bk =>
    rw [swapTest_eq condensing]
    split
    · rename_i due
      obtain ⟨-, -, -, on⟩ := (swapDue_iff s bk).mp due
      exact noSwapDue_swapBanks on
    · rename_i rests
      intro other held
      obtain rfl : bk = other := by simpa [condensing] using held
      simpa using rests

/-- The withdrawal changes the credits, which bear on no swap. -/
theorem noSwapDue_withdrawCredits (h : s.noSwapDue) : s.withdrawCredits.noSwapDue := h

theorem creditsKept_withdrawCredits (s : State) : s.withdrawCredits.creditsKept := by
  refine ⟨fun i held => ?_, fun held => ?_⟩
  · exact (List.mem_filter.mp held).2
  · exact ((Bool.and_eq_true _ _).mp held).2

/-- The line stop that ends a step leaves no credit, and the line in STOPPED (R171, R173). -/
theorem nothingDue_stopped (line : s.control.line = .step) (swap : s.noSwapDue)
    (control : t.control = { s.control.clearStep with line := .stopped }) (condenser : t.condenser = s.condenser)
    (chamber : t.chamber = s.chamber) : t.nothingDue := by
  have bank := bank_of_condenser condenser
  refine ⟨fun bk condensing => ?_, ⟨fun i held => ?_, fun held => ?_⟩, fun ended => ?_⟩
  · have due := swap bk (by simpa only [State.condensing, bank] using condensing)
    rw [Bool.eq_false_iff, ne_eq, swapDue_iff] at due ⊢
    rw [bank, bank, chamber]
    exact fun ⟨pending, cold, rests, _⟩ => due ⟨pending, cold, rests, by simp [line]⟩
  · rw [control] at held
    cases held
  · rw [control] at held
    cases held
  · obtain ⟨step, -⟩ := ended
    rw [control] at step
    cases step

theorem nothingDue_stepEnded (line : s.control.line = .step) (swap : s.noSwapDue) :
    (s.lineStop.raise .stepDone .line { first := 0, second := none }).nothingDue := by
  rw [raise_quiet (by decide)]
  exact nothingDue_stopped line swap (by rw [setMonitor_control, lineStop_control])
    (by rw [setMonitor_condenser, lineStop_condenser]) (by rw [setMonitor_chamber, lineStop_chamber])

/-- What every event ends with leaves nothing due (R142, R172, R173). -/
theorem nothingDue_settleBlocks (s : State) : s.settleBlocks.nothingDue := by
  have swap : s.swapTest.withdrawCredits.noSwapDue := noSwapDue_withdrawCredits (noSwapDue_swapTest s)
  rw [State.settleBlocks]
  by_cases ended : s.swapTest.withdrawCredits.stepOver
  · rw [testStepEnd_of_over ended]
    exact nothingDue_stepEnded ended.1 swap
  · rw [testStepEnd_of_notOver ended]
    exact ⟨swap, creditsKept_withdrawCredits _, ended⟩

/-- A hold that ends is settled as an event of its own (R21, R187). -/
theorem nothingDue_endHeld (h : s.nothingDue) : s.endHeld.nothingDue := by
  unfold State.endHeld
  split
  · split
    · exact h
    · exact nothingDue_settleBlocks _
  · exact h

theorem nothingDue_afterEvent (s : State) : s.afterEvent.nothingDue :=
  nothingDue_endHeld (nothingDue_endHeld (nothingDue_settleBlocks s))

theorem nothingDue_event (f : State → State) (h : s.nothingDue) : (event f s).nothingDue := by
  unfold event
  split
  · exact h
  · exact nothingDue_afterEvent _

/-! ## A step -/

/-- Every row but the two of the RESET pin is an event. -/
theorem exec_event (c : Instr) (assert : c ≠ .resetPinAsserted) (release : c ≠ .powerOnReset) :
    ∃ f : State → State, ∀ s, exec c s = .next (event f s) := by
  cases c
  case resetPinAsserted => exact absurd rfl assert
  case powerOnReset => exact absurd rfl release
  all_goals exact ⟨_, fun _ => rfl⟩

theorem exec_nothingDue {c : Instr} (h : s.nothingDue) (next : exec c s = .next t) : t.nothingDue := by
  by_cases assert : c = .resetPinAsserted
  · subst assert
    cases next
    exact h
  by_cases release : c = .powerOnReset
  · subst release
    cases next
    exact nothingDue_reset
  obtain ⟨f, executes⟩ := exec_event c assert release
  rw [executes] at next
  cases next
  exact nothingDue_event f h

end

/-- Settles O5: every event ends with the three tests, and the time of an empty queue bears on none of them. -/
theorem nothingIsDueBetweenEvents : Obligations.NothingIsDueBetweenEvents := by
  unfold Obligations.NothingIsDueBetweenEvents
  intro s t h next
  unfold step at next
  split at next
  · cases next
    unfold State.idle
    split
    · exact h
    · exact (sameDues_advance s 1).nothingDue h
  · rename_i c rest _
    exact exec_nothingDue (s := s.setPending rest) h next

end Sys2Proof.Proofs

/-!
PROOFS. Family 07: the BANK line (O16), the expiries of a bank (O48), and the settings (O56).
-/

namespace Sys2Proof.Proofs

open Sys2Proof Sys2Proof.Machine Sys2Proof.Laws

/-! ## The BANK line (R153, R198) -/

/-- Settles O16: the BANK line, field by field. -/
theorem queryCondenserAnswersTheBank : Obligations.QueryCondenserAnswersTheBank := by
  unfold Obligations.QueryCondenserAnswersTheBank
  intro s bk x takes bank
  subst bank
  have executed := exec_rowFor (.queryCondenser bk) s takes
  rw [perform, doQueryCondenser, State.bankFields, okLine_eq] at executed
  simp only [beq_iff_eq, List.append_assoc] at executed ⊢
  exact executed

/-! ## The expiries of a bank (R138, R141, R143, R145) -/

section
variable {s : State} {bk : BankId}

theorem expire_at (s : State) (d : Moment) (f : State → State) : s.expire (some d) f = f (s.advanceTo d) := rfl

/-- A temperature that has been read is the detail of the conditions that show it (R138, R143). -/
theorem temperatureDetail_of_read {t : Int} (read : (s.bank bk).temperature = some t) (m : Moment) :
    (s.advanceTo m).temperatureDetail bk = t := by
  rw [State.temperatureDetail, State.advanceTo, bank_advance, read, Option.getD_some]

theorem coolDeadlinePasses_eq {d : Moment} {t : Int} (state : (s.bank bk).state = .cooling)
    (deadline : (s.bank bk).coolDeadline = some d) (read : (s.bank bk).temperature = some t) :
    coolDeadlinePasses bk s =
      (((s.advanceTo d).raise .bankCoolTimeout (.bank bk) { first := t, second := none }).issue .condenser .condenser
        (.refrigerationStop bk)).onBank bk fun x => { x with state := .faulted, coolDeadline := none } := by
  rw [coolDeadlinePasses, if_pos (by simp [state]), deadline, expire_at, State.coolTimedOut,
    temperatureDetail_of_read read]
  rfl

theorem maxTimePasses_eq (state : (s.bank bk).state = .condensing) :
    maxTimePasses bk s =
      ((s.advance (s.control.settings.bankMaxTime * 1000 - (s.bank bk).condensingTime)).onBank bk fun x =>
        { x with swapPending := true }).swapTest := by
  rw [maxTimePasses, if_pos (by simp [state]), State.maxTimeReached, State.setPendingIf]
  simp only [Bool.or_true]
  rfl

theorem defrostDeadlinePasses_eq {d : Moment} {t : Int} (state : (s.bank bk).state = .defrost)
    (runs : (s.bank bk).paused = false) (first : (s.bank bk).overrunRaised = false)
    (deadline : (s.bank bk).defrostDeadline = some d) (read : (s.bank bk).temperature = some t) :
    defrostDeadlinePasses bk s =
      ((s.advanceTo d).onBank bk fun x => { x with overrunRaised := true }).raise .defrostOverrun (.bank bk)
        { first := t, second := none } := by
  rw [defrostDeadlinePasses, if_pos (by simp [state, runs, first]), deadline, expire_at, State.overrunDefrost,
    temperatureDetail_of_read read]
  rfl

theorem endOpening_onBank (s : State) (bk : BankId) :
    s.endOpening bk = (s.issue .condenser .condenser (.bankDrainClose bk)).onBank bk fun x => { x with
      drainEnded := true, drainDeadline := none, drainValve := .closing, drainOrder := some s.orderNumber } := by
  cases bk <;> rfl

theorem drainDeadlinePasses_eq {d : Moment} (ends : (s.bank bk).mayEnd = true)
    (deadline : (s.bank bk).drainDeadline = some d) :
    drainDeadlinePasses bk s = (s.advanceTo d).endOpening bk := by
  rw [drainDeadlinePasses, if_pos ends, deadline, expire_at]

end

/-- Settles O48: each expiry is an event, and its effect that of its deadline. -/
theorem bankExpiriesAct : Obligations.BankExpiriesAct := by
  unfold Obligations.BankExpiriesAct
  intro s bk runs
  refine ⟨fun d t state deadline read => ?_, fun state => ?_, fun d t state on first deadline read => ?_,
    fun d state goes on valve deadline => ⟨_, rfl, ?_⟩⟩
  · rw [← coolDeadlinePasses_eq state deadline read]
    exact congrArg Host.Outcome.next (event_eq runs _)
  · rw [← maxTimePasses_eq state]
    exact congrArg Host.Outcome.next (event_eq runs _)
  · rw [← defrostDeadlinePasses_eq state on first deadline read]
    exact congrArg Host.Outcome.next (event_eq runs _)
  · have passes : exec (.drainDeadline bk) s = .next (drainDeadlinePasses bk s).afterEvent :=
      congrArg Host.Outcome.next (event_eq runs _)
    rw [passes, drainDeadlinePasses_eq ((mayEnd_iff _).mpr ⟨state, goes, on, valve⟩) deadline, endOpening_onBank]

/-! ## The settings (R178, R179) -/

/-- A setting is a field of its own: a write of one is read by its own name only. -/
theorem readSetting_writeSetting (c : Settings) (name other : SettingName) (v : Nat) :
    readSetting (writeSetting c name v) other = if other = name then v else readSetting c other := by
  cases name <;> cases other <;> rfl

section
variable {s : State} {name : SettingName} {v : Nat}

/-- The state with one setting replaced. -/
def settingWritten (s : State) (name : SettingName) (v : Nat) : State :=
  s.setControl { s.control with settings := writeSetting s.control.settings name v }

theorem doSetLimit_accepted (stopped : s.control.line = .stopped)
    (low : settingLow s.control.settings name ≤ v) (high : v ≤ settingHigh s.control.settings name) :
    doSetLimit name v s = ((settingWritten s name v).settingChanged name).send [okLine .setLimit
      (field "name" (ascii (settingWord name)) ++ field "value" (numText v))] := by
  rw [doSetLimit, stopped]
  exact if_pos (by simp [State.limits, low, high])

theorem testTriggers_none (absent : s.condensing = none) : s.testTriggers = s := by
  rw [State.testTriggers, absent]

theorem testTriggers_some {bk : BankId} (condensing : s.condensing = some bk) :
    s.testTriggers = (s.setBank bk { s.bank bk with
      swapPending := (s.bank bk).swapPending ||
        decide (s.control.settings.bankSwapLoad ≤ (s.bank bk).load) ||
        decide (s.control.settings.bankMaxTime * 1000 ≤ (s.bank bk).condensingTime) ||
        decide (8 ≤ (s.bank bk).window.length) }).swapTest := by
  rw [State.testTriggers, condensing]
  simp only [State.setPendingIf, State.anyTrigger, State.onBank, Bool.or_assoc]
  rfl

theorem testHardLoad_eq {bk : BankId} (condensing : s.condensing = some bk) :
    s.testHardLoad =
      if (s.bank bk).swapPending = true ∧ (s.bank bk).hardRaised = false ∧
          s.control.settings.bankHardLoad ≤ (s.bank bk).load then
        (s.setBank bk { s.bank bk with hardRaised := true }).raise .bankLoadHard (.bank bk)
          { first := (s.bank bk).load, second := none }
      else s := by
  have tested := hardTest_setBank s bk (s.bank bk)
  rw [setBank_bank] at tested
  rw [State.testHardLoad, condensing]
  exact tested

theorem testHardLoad_rests (rests : ∀ bk, s.condensing = some bk → (s.bank bk).swapPending = false ∨
    (s.bank bk).hardRaised = true ∨ (s.bank bk).load < s.control.settings.bankHardLoad) : s.testHardLoad = s := by
  cases condensing : s.condensing with
  | none => rw [State.testHardLoad, condensing]
  | some bk =>
    rw [testHardLoad_eq condensing, if_neg]
    rintro ⟨pending, fresh, hard⟩
    obtain off | raised | light := rests bk condensing
    · simp [pending] at off
    · simp [fresh] at raised
    · exact absurd light (Nat.not_lt.mpr hard)

end

/-- Settles O56: the one setting, the Condenser's tests of it, and the table of R178. -/
theorem setLimitReplacesOneSetting : Obligations.SetLimitReplacesOneSetting := by
  unfold Obligations.SetLimitReplacesOneSetting
  refine ⟨fun s name v takes stopped low high => ⟨settingWritten s name v,
      (settingWritten s name v).settingChanged name, rfl, fun load time hard => ?_, ?_, ?_, ?_⟩,
    fun c name other v => ⟨?_, fun ne => ?_⟩,
    fun c name => ?_⟩
  · cases name with
    | bankSwapLoad => exact absurd rfl load
    | bankMaxTime => exact absurd rfl time
    | bankHardLoad => exact absurd rfl hard
    | _ => rfl
  · intro tested
    have changed : (settingWritten s name v).settingChanged name = (settingWritten s name v).testTriggers := by
      obtain rfl | rfl := tested <;> rfl
    rw [changed]
    exact ⟨fun absent => testTriggers_none (s := settingWritten s name v) absent,
      fun bk condensing => testTriggers_some (s := settingWritten s name v) condensing⟩
  · rintro rfl
    refine ⟨fun bk condensing pending fresh hard => ?_, testHardLoad_rests (s := settingWritten s .bankHardLoad v)⟩
    exact (testHardLoad_eq (s := settingWritten s .bankHardLoad v) condensing).trans
      (if_pos ⟨pending, fresh, hard⟩)
  · exact (exec_rowFor (.setLimit name v) s takes).trans (by rw [perform, doSetLimit_accepted stopped low high])
  · rw [readSetting_writeSetting, if_pos rfl]
  · rw [readSetting_writeSetting, if_neg ne]
  · cases name <;> rfl

end Sys2Proof.Proofs

/-!
PROOFS. Family 07: the shares of a drain (O51).
-/

namespace Sys2Proof.Proofs

open Sys2Proof Sys2Proof.Machine Sys2Proof.Laws

section
variable {d : Grams} {ws : List Cabinet}

/-! ## The remainder added at its place -/

theorem addAt_eq_modify (g n : Nat) (xs : List Nat) : addAt g n xs = xs.modify n (· + g) := by
  induction xs generalizing n with
  | nil => cases n <;> rfl
  | cons x xs ih =>
    cases n with
    | zero => rfl
    | succ n => rw [addAt, ih, List.modify_succ_cons]

theorem sum_addAt (g n : Nat) (xs : List Nat) (at_ : n < xs.length) : (addAt g n xs).sum = xs.sum + g := by
  induction xs generalizing n with
  | nil => cases at_
  | cons x xs ih =>
    cases n with
    | zero => exact Nat.add_right_comm ..
    | succ n =>
      rw [addAt, List.sum_cons, ih n (Nat.lt_of_succ_lt_succ at_), List.sum_cons]
      exact (Nat.add_assoc ..).symm

/-! ## The floor shares (R148, R149) -/

/-- What is read of each item of a list, by the items' places. -/
theorem map_eq_map_range {α : Type} {xs : List α} {f : α → Nat} {g : Nat → Nat}
    (same : ∀ i x, xs[i]? = some x → g i = f x) : xs.map f = (List.range xs.length).map g := by
  refine List.ext_getElem (by simp) fun i low _ => ?_
  have at_ : i < xs.length := by simpa using low
  rw [List.getElem_map, List.getElem_map, List.getElem_range]
  exact (same i _ (List.getElem?_eq_getElem at_)).symm

/-- The floors of the parts of `d` by weight do not exceed it. -/
theorem sum_floors_mul_le (d total : Nat) (ws : List Cabinet) :
    (ws.map fun w => d * w.foam.getD 0 / total).sum * total ≤ d * windowTotal ws := by
  induction ws with
  | nil => simp [windowTotal]
  | cons w ws ih =>
    have first := Nat.div_mul_le_self (d * w.foam.getD 0) total
    simp only [windowTotal, List.map_cons, List.sum_cons] at ih ⊢
    rw [Nat.add_mul, Nat.mul_add]
    exact Nat.add_le_add first ih

theorem sum_floorShares_le (d : Grams) (ws : List Cabinet) : (floorShares d ws).sum ≤ d := by
  unfold floorShares
  split
  · rw [List.map_const', List.sum_replicate, smul_eq_mul]
    exact Nat.mul_div_le d ws.length
  · rename_i some
    exact Nat.le_of_mul_le_mul_right (sum_floors_mul_le d (windowTotal ws) ws) (Nat.pos_of_ne_zero some)

theorem length_floorShares (d : Grams) (ws : List Cabinet) : (floorShares d ws).length = ws.length := by
  unfold floorShares
  split <;> simp

theorem length_shares (d : Grams) (ws : List Cabinet) : (shares d ws).length = ws.length := by
  rw [shares, addAt_eq_modify, List.length_modify, length_floorShares]

/-! ## The place of the remainder (R148, R149) -/

/-- The fold of a maximum is above its start and every item, and is one of them. -/
theorem foldl_max_spec (m : Nat) (ws : List Cabinet) {top : Nat}
    (fold : top = ws.foldl (fun m w => max m (w.foam.getD 0)) m) :
    m ≤ top ∧ (∀ w ∈ ws, w.foam.getD 0 ≤ top) ∧ (top = m ∨ ∃ w ∈ ws, w.foam.getD 0 = top) := by
  induction ws generalizing m with
  | nil => exact ⟨fold.ge, List.forall_mem_nil _, .inl fold⟩
  | cons w ws ih =>
    obtain ⟨start, items, one⟩ := ih (max m (w.foam.getD 0)) fold
    refine ⟨(le_max_left ..).trans start, List.forall_mem_cons.mpr ⟨(le_max_right ..).trans start, items⟩, ?_⟩
    obtain first | ⟨x, mem, e⟩ := one
    · obtain le | le := Nat.le_total (w.foam.getD 0) m
      · exact .inl (first.trans (max_eq_left le))
      · exact .inr ⟨w, List.mem_cons_self, (first.trans (max_eq_right le)).symm⟩
    · exact .inr ⟨x, List.mem_cons_of_mem _ mem, e⟩

theorem foam_le_largestFoam {w : Cabinet} (mem : w ∈ ws) : w.foam.getD 0 ≤ largestFoam ws :=
  (foldl_max_spec 0 ws rfl).2.1 w mem

/-- A window that is not empty has an entry with the largest foam. -/
theorem exists_largestFoam (some : ws ≠ []) : ∃ w ∈ ws, w.foam.getD 0 = largestFoam ws := by
  obtain ⟨-, items, zero | one⟩ := foldl_max_spec 0 ws rfl
  · obtain ⟨w, mem⟩ := List.exists_mem_of_ne_nil ws some
    exact ⟨w, mem, Nat.le_antisymm (items w mem) (zero.trans_le (Nat.zero_le _))⟩
  · exact one

theorem remainderPlace_lt (some : ws ≠ []) : remainderPlace ws < ws.length := by
  obtain ⟨w, mem, top⟩ := exists_largestFoam some
  exact List.findIdx_lt_length_of_exists ⟨w, mem, by simpa using top⟩

/-- The remainder goes to the earliest entry with the largest foam. -/
theorem remainderPlace_iff {foam : Nat → Nat} (foams : ∀ i w, ws[i]? = some w → foam i = w.foam.getD 0)
    {i : Nat} (at_ : i < ws.length) :
    remainderPlace ws = i ↔ (∀ j < i, foam j < foam i) ∧ ∀ j < ws.length, foam j ≤ foam i := by
  have foam_at (j : Nat) (low : j < ws.length) : ws[j].foam.getD 0 = foam j :=
    (foams j _ (List.getElem?_eq_getElem low)).symm
  have bound (j : Nat) (low : j < ws.length) : foam j ≤ largestFoam ws :=
    foam_at j low ▸ foam_le_largestFoam (List.getElem_mem low)
  have largest : foam i = largestFoam ws ↔ ∀ j < ws.length, foam j ≤ foam i := by
    refine ⟨fun top j low => top ▸ bound j low, fun all => Nat.le_antisymm (bound i at_) ?_⟩
    obtain ⟨w, mem, top⟩ := exists_largestFoam (List.ne_nil_of_length_pos (Nat.zero_lt_of_lt at_))
    obtain ⟨j, low, rfl⟩ := List.getElem_of_mem mem
    rw [← top, foam_at]
    exact all j low
  rw [remainderPlace, List.findIdx_eq at_, beq_iff_eq, foam_at i at_, ← largest, and_comm]
  refine and_congr_left fun top => forall_congr' fun j => forall_congr' fun first => ?_
  have low := Nat.lt_trans first at_
  have := bound j low
  rw [beq_eq_false_iff_ne, foam_at j low]
  omega

end

/-- Settles O51: the floors with the remainder added at its place. -/
theorem sharesDivideTheDrain : Obligations.SharesDivideTheDrain := by
  unfold Obligations.SharesDivideTheDrain
  intro d ws foam total floor foams totals floors some
  have total_eq : total = windowTotal ws := by rw [totals, windowTotal, map_eq_map_range foams]
  have floorShares_eq : floorShares d ws = (List.range ws.length).map floor := by
    unfold floorShares
    rw [← total_eq]
    split
    · rename_i none
      exact map_eq_map_range fun i w _ => by rw [floors, if_pos none]
    · rename_i some
      exact map_eq_map_range fun i w at_ => by rw [floors, if_neg some, foams i w at_]
  have shares_eq := addAt_eq_modify (d - (floorShares d ws).sum) (remainderPlace ws) (floorShares d ws)
  rw [← shares] at shares_eq
  have place : remainderPlace ws < (floorShares d ws).length := by
    rw [length_floorShares]
    exact remainderPlace_lt some
  refine ⟨length_shares d ws, ?_, fun i at_ => ?_⟩
  · rw [shares, sum_addAt _ _ _ place]
    exact Nat.add_sub_of_le (sum_floorShares_le d ws)
  · rw [← remainderPlace_iff foams at_, shares_eq, floorShares_eq, List.getElem?_modify]
    simp only [List.getElem?_map, List.getElem?_range at_, Option.map_some, Option.map_eq_map]
    exact ⟨fun here => by rw [if_pos here], fun elsewhere => by rw [if_neg elsewhere]⟩

end Sys2Proof.Proofs

/-!
PROOFS. Family 07: how a bank's drain begins and ends, and how its shares are written (O50).
-/

namespace Sys2Proof.Proofs

open Sys2Proof Sys2Proof.Machine Sys2Proof.Laws

section
variable {s : State} {bk : BankId}

/-! ## The tests of R144 -/

/-- A bank in DRAIN_WAIT; one that waits already keeps the moment since which it does (R144; log 26). -/
def drainAwaited (s : State) (bk : BankId) : State :=
  s.setBank bk { s.bank bk with
    state := .drainWait, drainDeadline := none, waitSince := some ((s.bank bk).waitSince.getD s.now) }

theorem testDrain_held (held : (s.bank (otherBank bk)).drainSlot ≠ none) : s.testDrain bk = drainAwaited s bk :=
  if_pos (Option.isSome_iff_ne_none.mpr held)

section
variable (free : (s.bank (otherBank bk)).drainSlot = none)
include free

theorem testDrain_noVessel (none : s.chooseVessel .agent = none) :
    s.testDrain bk = (drainAwaited s bk).raise .agentVesselNone (.bank bk)
      { first := (s.bank bk).drained, second := Option.none } := by
  have drained : ((drainAwaited s bk).bank bk).drained = (s.bank bk).drained := by rw [drainAwaited, bank_setBank]
  rw [State.testDrain, if_neg (by simp [free]), none, ← drained]
  rfl

theorem testDrain_opens {k : SlotId} (chosen : s.chooseVessel .agent = some k) :
    s.testDrain bk = (s.issue .condenser .condenser (.bankDrainOpen bk k)).setBank bk { s.bank bk with
      state := .drain, drainSlot := some k, drainValve := .opening, drainDeadline := some (s.now + 120000)
      seenNonzero := false, waitSince := none, drainOrder := none } := by
  rw [State.testDrain, if_neg (by simp [free]), chosen]
  cases bk <;> rfl

end

/-- A quantity that banks, orders and the pending list do not bear on, the tests of R144 leave alone. -/
theorem testDrain_same {β : Type} (q : State → β) (bank : ∀ s bk x, q (State.setBank s bk x) = q s)
    (issue : ∀ s who n kind, q (State.issue s who n kind) = q s) (monitor : ∀ s m, q (State.setMonitor s m) = q s)
    (s : State) (bk : BankId) : q (s.testDrain bk) = q s := by
  unfold State.testDrain
  split
  · exact bank ..
  · split
    · rw [State.raiseNoAgent, raise_quiet (by decide), monitor]
      exact bank ..
    · exact (bank ..).trans (issue ..)

theorem testWaiting_same {β : Type} (q : State → β) (bank : ∀ s bk x, q (State.setBank s bk x) = q s)
    (issue : ∀ s who n kind, q (State.issue s who n kind) = q s) (monitor : ∀ s m, q (State.setMonitor s m) = q s)
    (s : State) : q s.testWaiting = q s := by
  unfold State.testWaiting
  split
  · rfl
  · refine forAll_same q _ (fun s bk => ?_) _ s
    unfold State.retestDrain
    split
    · exact testDrain_same q bank issue monitor s bk
    · rfl

/-- A bank that does not wait, the tests of the waiting banks leave alone. -/
theorem bank_testWaiting (rests : (s.bank bk).state ≠ .drainWait) : s.testWaiting.bank bk = s.bank bk := by
  by_cases halted : s.control.line = .halted
  · rw [testWaiting_halted halted]
  · have one := testWaiting_one (bk := otherBank bk) halted (by rwa [otherBank_otherBank])
    have other := bank_retestDrain_other s (otherBank bk)
    rw [otherBank_otherBank] at other
    rw [one, other]

/-! ## A share written to its record (R7, R148) -/

theorem setShare_first (bk : BankId) (g : Grams) {ws ys : List WindowEntry} {e : WindowEntry}
    (served : ∀ x ∈ ws, x.bank ≠ bk ∨ x.share ≠ none) (bank : e.bank = bk) (waits : e.share = none) :
    setShare bk g (ws ++ e :: ys) = ws ++ { e with share := some g } :: ys := by
  induction ws with
  | nil => exact if_pos (by simp [bank, waits])
  | cons w ws ih =>
    obtain ⟨first, rest⟩ := List.forall_mem_cons.mp served
    rw [List.cons_append, setShare, if_neg, ih rest, List.cons_append]
    simpa [Option.isNone_iff_eq_none, imp_iff_not_or] using first

/-- A record with the share of the window entry between `ws` and `ys` written. -/
def shareTaken (r : UnitRecord) (ws : List WindowEntry) (e : WindowEntry) (ys : List WindowEntry) (g : Grams)
    (estimated : Bool) : UnitRecord :=
  { r with
    windows := ws ++ { e with share := some g } :: ys
    agent := r.agent + g
    flags := { r.flags with
      estimated := r.flags.estimated || (estimated || decide (2 ≤ r.windows.length)) } }

theorem takeShare_eq {r : UnitRecord} {ws ys : List WindowEntry} {e : WindowEntry}
    (windows : r.windows = ws ++ e :: ys) (served : ∀ x ∈ ws, x.bank ≠ bk ∨ x.share ≠ none)
    (bank : e.bank = bk) (waits : e.share = none) (g : Grams) (estimated : Bool) :
    r.takeShare bk g estimated = shareTaken r ws e ys g estimated := by
  have awaits : r.awaitsShare bk = true := by simp [UnitRecord.awaitsShare, windows, bank, waits]
  rw [UnitRecord.takeShare, if_pos awaits, shareTaken, windows, setShare_first bk g served bank waits, Bool.or_assoc]
  rfl

theorem tag_takeShare (r : UnitRecord) (bk : BankId) (g : Grams) (estimated : Bool) :
    (r.takeShare bk g estimated).tag = r.tag := (recordKept_takeShare r bk g estimated).1

theorem place_takeShare (r : UnitRecord) (bk : BankId) (g : Grams) (estimated : Bool) :
    (r.takeShare bk g estimated).place = r.place := by
  unfold UnitRecord.takeShare
  split <;> rfl

theorem fullyAttributed_shareTaken (r : UnitRecord) (ws : List WindowEntry) (e : WindowEntry)
    (ys : List WindowEntry) (g : Grams) (estimated : Bool) :
    (shareTaken r ws e ys g estimated).fullyAttributed = true ↔ ∀ x ∈ ws ++ ys, x.share ≠ none := by
  rw [List.forall_mem_append]
  simp [UnitRecord.fullyAttributed, shareTaken, WindowEntry.isPending, Option.isSome_iff_ne_none]

/-! ## The records after a share (R10, R148) -/

theorem onUnit_none {tag : Tag} (absent : s.findUnit tag = none) (f : UnitRecord → UnitRecord) :
    s.onUnit tag f = s := by
  have others : ∀ r ∈ s.register.units, (r.tag == tag) = false := by
    simpa [State.findUnit] using absent
  have kept : (s.register.units.map fun r => if r.tag == tag then f r else r) = s.register.units :=
    (List.map_congr_left fun r mem => by rw [others r mem]; rfl).trans (List.map_id _)
  rw [State.onUnit, kept]

/-- The state with the record of a tag replaced. -/
def recordReplaced (s : State) (tag : Tag) (r : UnitRecord) : State :=
  { s with register := { s.register with units := s.register.units.map fun x => if x.tag = tag then r else x } }

/-- Where tags are distinct, a write to a tag's record is a write of that record. -/
theorem onUnit_found {tag : Tag} {r : UnitRecord} (found : s.findUnit tag = some r)
    (nodup : (s.register.units.map (·.tag)).Nodup) (f : UnitRecord → UnitRecord) :
    s.onUnit tag f = recordReplaced s tag (f r) := by
  have member : r ∈ s.register.units := List.mem_of_find?_eq_some found
  have tagged : r.tag = tag := by simpa using List.find?_some found
  have same : (s.register.units.map fun x => if x.tag == tag then f x else x) =
      s.register.units.map fun x => if x.tag = tag then f r else x := by
    refine List.map_congr_left fun x mem => ?_
    by_cases own : x.tag = tag
    · rw [List.inj_on_of_nodup_map nodup mem member (own.trans tagged.symm)]
      simp only [beq_iff_eq]
    · simp only [beq_iff_eq]
      rw [if_neg own, if_neg own]
  rw [State.onUnit, same]
  rfl

theorem closeUnit_units (s : State) (tag : Tag) (d : Disposition) :
    (s.closeUnit tag d).register.units = s.register.units.filter fun x => x.tag != tag := by
  unfold State.closeUnit
  split
  · rename_i absent
    exact (List.filter_eq_self.mpr (by simpa [State.findUnit] using absent)).symm
  · unfold State.placeClosed
    simp only [raise_quiet (show kindClass .closedLogFull ≠ .exigent by decide)]
    (repeat' split) <;> rfl

theorem findUnit_closeUnit_ne {tag other : Tag} (ne : other ≠ tag) (d : Disposition) :
    (s.closeUnit tag d).findUnit other = s.findUnit other := by
  rw [State.findUnit, closeUnit_units, List.find?_filter, State.findUnit]
  congr 1
  funext r
  by_cases own : r.tag = other
  · simp [own, ne]
  · simp [own]

section
variable {zero : Bool} {w : Cabinet} {g : Grams}

theorem findUnit_shareTaken (s : State) (bk : BankId) (zero : Bool) (w : Cabinet) (g : Grams) (tag : Tag) :
    (s.onUnit w.tag fun r => r.takeShare bk g (zero || w.foam.isNone)).findUnit tag =
      (s.findUnit tag).map fun r =>
        if r.tag == w.tag then r.takeShare bk g (zero || w.foam.isNone) else r :=
  findUnit_onUnit s w.tag tag _ fun r => tag_takeShare r bk g _

theorem writeShare_none (absent : s.findUnit w.tag = none) : s.writeShare bk zero (w, g) = s := by
  rw [State.writeShare, onUnit_none absent]
  dsimp only
  rw [absent]

/-- A share closes its record where that stands in ATTRIBUTION and is left fully attributed (R10, R148). -/
theorem writeShare_found {r : UnitRecord} (found : s.findUnit w.tag = some r) :
    s.writeShare bk zero (w, g) =
      if r.place = some .attribution ∧
          (r.takeShare bk g (zero || w.foam.isNone)).fullyAttributed = true then
        (s.onUnit w.tag fun r => r.takeShare bk g (zero || w.foam.isNone)).closeUnit w.tag .complete
      else s.onUnit w.tag fun r => r.takeShare bk g (zero || w.foam.isNone) := by
  have tagged : r.tag = w.tag := by simpa using List.find?_some found
  have taken := findUnit_shareTaken s bk zero w g w.tag
  rw [found, Option.map_some, if_pos (by simp [tagged])] at taken
  rw [State.writeShare]
  dsimp only
  rw [taken]
  simp only [place_takeShare, tag_takeShare, tagged, Bool.and_eq_true, beq_iff_eq]

theorem findUnit_writeShare_ne {tag : Tag} (ne : tag ≠ w.tag) :
    (s.writeShare bk zero (w, g)).findUnit tag = s.findUnit tag := by
  have kept : (s.onUnit w.tag fun r => r.takeShare bk g (zero || w.foam.isNone)).findUnit tag =
      s.findUnit tag := by
    rw [findUnit_shareTaken]
    cases found : s.findUnit tag with
    | none => rfl
    | some r =>
      have tagged : r.tag = tag := by simpa using List.find?_some found
      rw [Option.map_some, if_neg (by simp [tagged, ne])]
  cases found : s.findUnit w.tag with
  | none => rw [writeShare_none found]
  | some r =>
    rw [writeShare_found found]
    split
    · rw [findUnit_closeUnit_ne ne, kept]
    · exact kept

theorem findUnit_writeShare_self {r : UnitRecord} (found : s.findUnit w.tag = some r)
    (place : r.place ≠ some .attribution) :
    (s.writeShare bk zero (w, g)).findUnit w.tag = some (r.takeShare bk g (zero || w.foam.isNone)) := by
  have tagged : r.tag = w.tag := by simpa using List.find?_some found
  rw [writeShare_found found, if_neg fun closes => place closes.1, findUnit_shareTaken, found, Option.map_some,
    if_pos (by simp [tagged])]

theorem findUnit_writeShares_ne {tag : Tag} (bk : BankId) (zero : Bool) (zs : List (Cabinet × Grams))
    (others : ∀ z ∈ zs, z.1.tag ≠ tag) (s : State) :
    (forAll zs s (State.writeShare bk zero)).findUnit tag = s.findUnit tag := by
  induction zs generalizing s with
  | nil => rfl
  | cons z zs ih =>
    obtain ⟨first, rest⟩ := List.forall_mem_cons.mp others
    rw [forAll_cons, ih rest]
    exact findUnit_writeShare_ne first.symm

/-- Each record that is not in ATTRIBUTION takes the share of its own window entry, once. -/
theorem findUnit_writeShares (bk : BankId) (zero : Bool) {zs : List (Cabinet × Grams)} (mem : (w, g) ∈ zs)
    (nodup : (zs.map fun z => z.1.tag).Nodup) {r : UnitRecord} (place : r.place ≠ some .attribution)
    (s : State) (found : s.findUnit w.tag = some r) :
    (forAll zs s (State.writeShare bk zero)).findUnit w.tag =
      some (r.takeShare bk g (zero || w.foam.isNone)) := by
  induction zs generalizing s with
  | nil => cases mem
  | cons z zs ih =>
    obtain ⟨apart, rest⟩ := List.nodup_cons.mp nodup
    rw [forAll_cons]
    obtain rfl | later := List.mem_cons.mp mem
    · rw [findUnit_writeShares_ne bk zero zs fun z' other e => apart (List.mem_map.mpr ⟨z', other, e⟩)]
      exact findUnit_writeShare_self found place
    · have ne : w.tag ≠ z.1.tag := fun e => apart (List.mem_map.mpr ⟨(w, g), later, e⟩)
      exact ih later rest _ ((findUnit_writeShare_ne ne).trans found)

end

/-! ## The apportionment (R148, R149) -/

theorem apportion_empty (window : (s.bank bk).window = []) :
    s.apportion bk = if (s.bank bk).drained = 0 then s
      else s.raise .unattributedDrain (.bank bk) { first := (s.bank bk).drained, second := none } := by
  rw [State.apportion, window]
  rfl

theorem apportion_some (window : (s.bank bk).window ≠ []) :
    s.apportion bk = forAll ((s.bank bk).window.zip (shares (s.bank bk).drained (s.bank bk).window)) s
      (State.writeShare bk (windowTotal (s.bank bk).window == 0)) :=
  if_neg (by simpa using window)

theorem windowTotal_eq_zero (ws : List Cabinet) :
    (windowTotal ws == 0) = true ↔ ∀ c ∈ ws, c.foam.getD 0 = 0 := by
  rw [beq_iff_eq, windowTotal, List.sum_eq_zero_iff_forall_eq_nat, List.forall_mem_map]

/-- A quantity that the register and the pending list do not bear on, the apportionment leaves alone. -/
theorem apportion_same {β : Type} (q : State → β) (register : ∀ (s : State) u, q { s with register := u } = q s)
    (monitor : ∀ s m, q (State.setMonitor s m) = q s) (s : State) (bk : BankId) : q (s.apportion bk) = q s := by
  have closes (s : State) (tag : Tag) (d : Disposition) : q (s.closeUnit tag d) = q s := by
    unfold State.closeUnit State.placeClosed
    simp only [raise_quiet (show kindClass .closedLogFull ≠ .exigent by decide)]
    (repeat' split) <;> simp only [register, monitor]
  have writes (zero : Bool) (s : State) (z : Cabinet × Grams) : q (s.writeShare bk zero z) = q s := by
    have taken := register s
      (s.onUnit z.1.tag fun r => r.takeShare bk z.2 (zero || z.1.foam.isNone)).register
    cases found : s.findUnit z.1.tag with
    | none => rw [writeShare_none (w := z.1) found]
    | some r =>
      rw [writeShare_found (w := z.1) found]
      split
      · exact (closes ..).trans taken
      · exact taken
  by_cases window : (s.bank bk).window = []
  · rw [apportion_empty window, raise_quiet (by decide)]
    split
    · rfl
    · exact monitor ..
  · rw [apportion_some window]
    exact forAll_same q _ (writes _) _ s

/-- Each record in the chamber takes the share of its last window entry (R148, R149). -/
theorem findUnit_apportion {w : Cabinet} {g : Grams} {r : UnitRecord} {ws : List WindowEntry} {e : WindowEntry}
    (mem : (w, g) ∈ (s.bank bk).window.zip (shares (s.bank bk).drained (s.bank bk).window))
    (nodup : ((s.bank bk).window.map (·.tag)).Nodup) (found : s.findUnit w.tag = some r)
    (place : r.place = some .chamber) (windows : r.windows = ws ++ [e])
    (served : ∀ x ∈ ws, x.share ≠ none) (bank : e.bank = bk) (waits : e.share = none) :
    (s.apportion bk).findUnit w.tag = some (shareTaken r ws e [] g
      (windowTotal (s.bank bk).window == 0 || w.foam.isNone)) := by
  have some_ : (s.bank bk).window ≠ [] := List.ne_nil_of_mem (List.of_mem_zip mem).1
  have tags : (((s.bank bk).window.zip (shares (s.bank bk).drained (s.bank bk).window)).map fun z =>
      z.1.tag).Nodup := by
    have firsts := List.map_fst_zip (l₁ := (s.bank bk).window) (length_shares (s.bank bk).drained _).ge
    rw [← firsts, List.map_map] at nodup
    exact nodup
  rw [apportion_some some_, findUnit_writeShares bk _ mem tags (by simp [place]) s found,
    takeShare_eq windows (fun x mem => .inr (served x mem)) bank waits]

/-! ## The close confirmed (R147) -/

/-- The bank's valve is CLOSED and awaits no order. -/
def valveShut (s : State) (bk : BankId) : State :=
  s.setBank bk { s.bank bk with drainValve := .closed, drainOrder := none }

theorem confirmClose_shut (wait : (s.bank bk).state ≠ .drainWait)
    (rests : (s.bank bk).state ≠ .drain ∨ (s.bank bk).drainEnded = false) :
    s.confirmClose bk = valveShut s bk := by
  rw [State.confirmClose, bank_onBank]
  cases state : (s.bank bk).state with
  | drainWait => exact absurd state wait
  | drain => exact if_neg (by simpa [state] using rests)
  | _ => rfl

theorem confirmClose_waits (state : (s.bank bk).state = .drainWait) :
    s.confirmClose bk = ((valveShut s bk).dropDrainSlot bk).testWaiting := by
  rw [State.confirmClose, bank_onBank, state]
  rfl

theorem confirmClose_ends (state : (s.bank bk).state = .drain) (ended : (s.bank bk).drainEnded = true) :
    s.confirmClose bk = (valveShut s bk).finishDrain bk := by
  rw [State.confirmClose, bank_onBank, state]
  exact if_pos ended

theorem valveShut_unheld (free : (s.bank bk).drainSlot = none) :
    (valveShut s bk).dropDrainSlot bk = valveShut s bk :=
  if_neg (by rw [valveShut, bank_setBank]; simp [free])

theorem valveShut_held (held : (s.bank bk).drainSlot ≠ none) :
    (valveShut s bk).dropDrainSlot bk =
      ({ s with condenser := { s.condenser with lastDrainBank := some bk } } : State).setBank bk
        { s.bank bk with drainValve := .closed, drainOrder := none, drainSlot := none } := by
  rw [State.dropDrainSlot, if_pos]
  · cases bk <;> rfl
  · rw [valveShut, bank_setBank]
    exact Option.isSome_iff_ne_none.mpr held

/-- A quantity that banks and the last drain bank do not bear on, the shut valve and the slot given up leave
alone. -/
theorem dropDrainSlot_same {β : Type} (q : State → β) (bank : ∀ s bk x, q (State.setBank s bk x) = q s)
    (last : ∀ s bk, q (State.setLastDrain s bk) = q s) (s : State) (bk : BankId) :
    q ((valveShut s bk).dropDrainSlot bk) = q s := by
  unfold State.dropDrainSlot
  split
  · exact (last ..).trans ((bank ..).trans (bank ..))
  · exact bank ..

/-! ## The end of a drain (R147) -/

/-- The drain is over: the slot is given up, the shares are written, and the window and the load are gone. -/
def drainLeft (s : State) (bk : BankId) : State :=
  (((valveShut s bk).dropDrainSlot bk).apportion bk).onBank bk fun x =>
    { x with window := [], load := 0, drainEnded := false }

/-- The bank whose drain is over goes to FAULTED, to COOLING or to WARM. -/
def drainMoved (s : State) (bk : BankId) : State :=
  if ((drainLeft s bk).bank bk).faultAfterDrain then (drainLeft s bk).onBank bk fun x => { x with state := .faulted }
  else (drainLeft s bk).enterWarm bk

theorem finishDrain_eq (s : State) (bk : BankId) :
    (valveShut s bk).finishDrain bk = (drainMoved s bk).testWaiting := rfl

/-- A quantity that the register, banks, the last drain bank and the pending list do not bear on, the end of a
drain leaves alone. -/
theorem drainLeft_same {β : Type} (q : State → β) (bank : ∀ s bk x, q (State.setBank s bk x) = q s)
    (last : ∀ s bk, q (State.setLastDrain s bk) = q s)
    (register : ∀ (s : State) u, q { s with register := u } = q s)
    (monitor : ∀ s m, q (State.setMonitor s m) = q s) (s : State) (bk : BankId) : q (drainLeft s bk) = q s :=
  (bank ..).trans ((apportion_same q register monitor ..).trans (dropDrainSlot_same q bank last s bk))

theorem drainMoved_same {β : Type} (q : State → β) (bank : ∀ s bk x, q (State.setBank s bk x) = q s)
    (issue : ∀ s who n kind, q (State.issue s who n kind) = q s) (s : State) (bk : BankId) :
    q (drainMoved s bk) = q (drainLeft s bk) := by
  unfold drainMoved State.enterWarm
  split
  · exact bank ..
  · dsimp only
    split
    · exact (bank ..).trans ((issue ..).trans (bank ..))
    · exact bank ..

theorem setLastDrain_bank (s : State) (last bk : BankId) : (s.setLastDrain last).bank bk = s.bank bk := by
  cases bk <;> rfl

theorem bank_unheld (s : State) (bk : BankId) : ((valveShut s bk).dropDrainSlot bk).bank bk =
    { s.bank bk with drainValve := .closed, drainOrder := none, drainSlot := none } := by
  rw [bank_dropDrainSlot, valveShut, bank_setBank]

theorem bank_apportion (s : State) (bk other : BankId) : (s.apportion bk).bank other = s.bank other :=
  bank_of_condenser (apportion_same (·.condenser) (fun _ _ => rfl) (fun _ _ => rfl) s bk) other

theorem bank_drainLeft (s : State) (bk : BankId) : (drainLeft s bk).bank bk =
    { s.bank bk with
      drainValve := .closed, drainOrder := none, drainSlot := none, window := [], load := 0
      drainEnded := false } := by
  rw [drainLeft, bank_onBank, bank_apportion, bank_unheld]

theorem drainLeft_control (s : State) (bk : BankId) : (drainLeft s bk).control = s.control :=
  drainLeft_same (·.control) (by simp) (fun _ _ => rfl) (fun _ _ => rfl) (fun _ _ => rfl) s bk

theorem drainLeft_started (s : State) (bk : BankId) : (drainLeft s bk).condenser.started = s.condenser.started :=
  drainLeft_same (·.condenser.started) (fun _ bk _ => by cases bk <;> rfl) (fun _ _ => rfl) (fun _ _ => rfl)
    (fun _ _ => rfl) s bk

theorem drainLeft_now (s : State) (bk : BankId) : (drainLeft s bk).now = s.now :=
  drainLeft_same (·.now) (by simp) (fun _ _ => rfl) (fun _ _ => rfl) (fun _ _ => rfl) s bk

theorem drainMoved_faulted (fault : (s.bank bk).faultAfterDrain = true) :
    drainMoved s bk = (drainLeft s bk).onBank bk fun x => { x with state := .faulted } :=
  if_pos (by rw [bank_drainLeft]; exact fault)

section
variable (sound : (s.bank bk).faultAfterDrain = false)
include sound

theorem drainMoved_warms : drainMoved s bk = (drainLeft s bk).enterWarm bk :=
  if_neg (by rw [bank_drainLeft]; simp [sound])

theorem drainMoved_warm (rests : s.condenser.started = false ∨ s.control.line = .halted) :
    drainMoved s bk = (drainLeft s bk).onBank bk fun x => { x with state := .warm } := by
  rw [drainMoved_warms sound, State.enterWarm]
  refine if_neg ?_
  rw [started_onBank, drainLeft_started, halted_eq, onBank_control, drainLeft_control]
  simpa [or_iff_not_imp_left] using rests

theorem drainMoved_cools (started : s.condenser.started = true) (on : s.control.line ≠ .halted) :
    drainMoved s bk = ((drainLeft s bk).issue .condenser .condenser (.refrigerationStart bk)).onBank bk fun x =>
      { x with state := .cooling, coolDeadline := some (s.now + 1800000) } := by
  rw [drainMoved_warms sound, State.enterWarm, ← drainLeft_now s bk]
  refine (if_pos ?_).trans (by cases bk <;> rfl)
  rw [started_onBank, drainLeft_started, halted_eq, onBank_control, drainLeft_control]
  simp [started, on]

end

/-- What R147 leaves of the bank beside its state and its cool deadline. -/
theorem bank_drainMoved (s : State) (bk : BankId) : ∃ state deadline,
    state ≠ .drainWait ∧ (drainMoved s bk).bank bk =
      { (drainLeft s bk).bank bk with state := state, coolDeadline := deadline } := by
  cases fault : (s.bank bk).faultAfterDrain with
  | true =>
    refine ⟨.faulted, ((drainLeft s bk).bank bk).coolDeadline, nofun, ?_⟩
    rw [drainMoved_faulted fault, bank_onBank]
  | false =>
    by_cases cools : s.condenser.started = true ∧ s.control.line ≠ .halted
    · obtain ⟨started, on⟩ := cools
      refine ⟨.cooling, some (s.now + 1800000), nofun, ?_⟩
      rw [drainMoved_cools fault started on, bank_onBank]
      cases bk <;> rfl
    · refine ⟨.warm, ((drainLeft s bk).bank bk).coolDeadline, nofun, ?_⟩
      rw [drainMoved_warm fault (by rw [← Bool.not_eq_true]; tauto), bank_onBank]

section
variable (state : (s.bank bk).state = .drain) (ended : (s.bank bk).drainEnded = true)
include state ended

theorem confirmClose_moves : s.confirmClose bk = (drainMoved s bk).testWaiting := by
  rw [confirmClose_ends state ended, finishDrain_eq]

theorem bank_confirmClose : (s.confirmClose bk).bank bk = (drainMoved s bk).bank bk := by
  obtain ⟨next, deadline, rests, moved⟩ := bank_drainMoved s bk
  rw [confirmClose_moves state ended, bank_testWaiting (by rw [moved]; exact rests)]

/-- A quantity that banks, the last drain bank, the register, orders and the pending list do not bear on, the
end of a drain leaves alone as a whole. -/
theorem confirmClose_same {β : Type} (q : State → β) (bank : ∀ s bk x, q (State.setBank s bk x) = q s)
    (last : ∀ s bk, q (State.setLastDrain s bk) = q s)
    (register : ∀ (s : State) u, q { s with register := u } = q s)
    (monitor : ∀ s m, q (State.setMonitor s m) = q s) (issue : ∀ s who n kind, q (State.issue s who n kind) = q s) :
    q (s.confirmClose bk) = q s := by
  rw [confirmClose_moves state ended, testWaiting_same q bank issue monitor, drainMoved_same q bank issue,
    drainLeft_same q bank last register monitor]

theorem confirmClose_register : (s.confirmClose bk).register =
    (((valveShut s bk).dropDrainSlot bk).apportion bk).register := by
  rw [confirmClose_moves state ended, testWaiting_same (·.register) (by simp) (fun _ _ _ _ => rfl) (fun _ _ => rfl),
    drainMoved_same (·.register) (by simp) (fun _ _ _ _ => rfl), drainLeft, onBank_register]

/-- Each record in the chamber whose last window waits for this drain takes its share (R148, R149). -/
theorem findUnit_confirmClose {w : Cabinet} {g : Grams} {r : UnitRecord} {ws : List WindowEntry} {e : WindowEntry}
    (mem : (w, g) ∈ (s.bank bk).window.zip (shares (s.bank bk).drained (s.bank bk).window))
    (nodup : ((s.bank bk).window.map (·.tag)).Nodup) (found : s.findUnit w.tag = some r)
    (place : r.place = some .chamber) (windows : r.windows = ws ++ [e])
    (served : ∀ x ∈ ws, x.share ≠ none) (bank : e.bank = bk) (waits : e.share = none) :
    (s.confirmClose bk).findUnit w.tag = some (shareTaken r ws e [] g
      (windowTotal (s.bank bk).window == 0 || w.foam.isNone)) := by
  have unheld := bank_unheld s bk
  have same : ((valveShut s bk).dropDrainSlot bk).findUnit w.tag = s.findUnit w.tag :=
    findUnit_of_register (dropDrainSlot_same (·.register) (by simp) (fun _ _ => rfl) s bk) w.tag
  have written := findUnit_apportion (s := (valveShut s bk).dropDrainSlot bk) (bk := bk) (w := w) (g := g)
    (by rwa [unheld]) (by rwa [unheld]) (same.trans found) place windows served bank waits
  rw [unheld] at written
  rw [findUnit_of_register (confirmClose_register state ended), written]

end

/-! ## A drain order reported DONE (R137, R144, R147) -/

section
variable {o : Order} {a : CondenserAnswer}

theorem bankOrderDone_open {k : SlotId} (kind : o.kind = .bankDrainOpen bk k) : s.bankOrderDone o =
    if (s.bank bk).drainValve = .opening then s.onBank bk fun x => { x with drainValve := .opened } else s := by
  rw [State.bankOrderDone, kind]
  simp only [beq_iff_eq]

theorem bankOrderDone_close (kind : o.kind = .bankDrainClose bk) : s.bankOrderDone o =
    if (s.bank bk).drainValve = .closing ∧ (s.bank bk).drainOrder = some o.number then s.confirmClose bk else s := by
  rw [State.bankOrderDone, kind]
  simp only [State.awaitsDrainClose, Bool.and_eq_true, beq_iff_eq]

theorem bankOrderDone_other (opens : ∀ bk k, o.kind ≠ .bankDrainOpen bk k)
    (closes : ∀ bk, o.kind ≠ .bankDrainClose bk) :
    s.bankOrderDone o = s := by
  unfold State.bankOrderDone
  split
  · rename_i bk k kind
    exact absurd kind (opens bk k)
  · rename_i bk kind
    exact absurd kind (closes bk)
  · rfl

/-- The state in which an order of the condenser node has been reported DONE, its effect not yet taken. -/
def drainReported (s : State) (a : CondenserAnswer) (number : Nat) : State :=
  (heardAt .condenser a.moment s).setOrders (otherOrders .condenser number s.loop.orders)

theorem exec_condenserDone (runs : s.resetPin = false) (heard : (s.node .condenser).silent = false)
    (reports : a.reports = [{ number := o.number, status := .done }])
    (found : s.findOrder .condenser o.number = some o) :
    exec (.condenserAnswer a) s =
      .next (((drainReported s a o.number).bankOrderDone o).takeCondenserReadings a).afterEvent := by
  obtain ⟨node, -⟩ := findOrder_is found
  have taken : takeCondenser a s = ((drainReported s a o.number).bankOrderDone o).takeCondenserReadings a := by
    rw [takeCondenser, reports, takeAnswer_done heard _ found rfl, removeOrder_eq, heardAt_orders, node]
    rfl
  rw [← taken]
  exact congrArg Host.Outcome.next (event_eq runs _)

/-- Time and the report leave the valve and its order alone. -/
theorem drainReported_valve (s : State) (a : CondenserAnswer) (number : Nat) (bk : BankId) :
    ((drainReported s a number).bank bk).drainValve = (s.bank bk).drainValve ∧
      ((drainReported s a number).bank bk).drainOrder = (s.bank bk).drainOrder := by
  have same : (drainReported s a number).bank bk = (s.advanceTo a.moment).bank bk :=
    bank_of_condenser (by rw [drainReported, setOrders_condenser, heardAt, setNode_condenser]) bk
  rw [same, State.advanceTo, bank_advance]
  exact ⟨rfl, rfl⟩

end
end

/-- Settles O50: the tests of R144, the drain's orders in an answer, the confirmed close in each state, and the
shares as they are written. -/
theorem drainsBeginAndEndAsTested : Obligations.DrainsBeginAndEndAsTested := by
  unfold Obligations.DrainsBeginAndEndAsTested
  refine ⟨fun s bk => ⟨drainAwaited s bk, rfl, testDrain_held, testDrain_noVessel,
      fun k free => testDrain_opens free⟩,
    ⟨fun s a o runs heard reports found => ?_, fun s bk state => ?_⟩, ?_, fun s bk => ⟨fun window zero => ?_,
      fun window some_ => ?_, fun window => ⟨_, windowTotal_eq_zero _, apportion_some window⟩⟩,
    fun s bk zero w g => ⟨writeShare_none, ?_⟩, fun s bk state ended => ?_⟩
  · refine ⟨drainReported s a o.number, (drainReported s a o.number).bankOrderDone o, _, rfl, fun bk k kind => ?_,
      fun bk kind => ?_, bankOrderDone_other, rfl, ?_⟩
    · obtain ⟨valve, -⟩ := drainReported_valve s a o.number bk
      rw [bankOrderDone_open kind, valve]
      exact ⟨fun opening => if_pos opening, fun other => if_neg other⟩
    · obtain ⟨valve, order⟩ := drainReported_valve s a o.number bk
      rw [bankOrderDone_close kind, valve, order]
      exact ⟨fun closing awaited => if_pos ⟨closing, awaited⟩, fun other => if_neg (by tauto)⟩
    · rw [exec_condenserDone runs heard reports found, takeCondenserReadings_eq rfl]
  · exact ⟨_, valveShut_unheld, valveShut_held, confirmClose_waits state⟩
  · rintro s t bk rfl
    refine ⟨confirmClose_shut, fun state ended => ⟨?_, fun fault => ?_, fun sound => ⟨fun started on => ?_,
      fun rests => ?_⟩, fun w g r ws e mem nodup found place windows served bank waits => ?_⟩⟩
    · obtain ⟨next, deadline, -, moved⟩ := bank_drainMoved s bk
      rw [bank_confirmClose state ended, moved, bank_drainLeft]
      exact ⟨rfl, rfl, rfl, rfl, rfl, rfl,
        confirmClose_same state ended (·.chamber) (by simp) (fun _ _ => rfl) (fun _ _ => rfl) (fun _ _ => rfl)
          (fun _ _ _ _ => rfl),
        confirmClose_same state ended (·.slots) (by simp) (fun _ _ => rfl) (fun _ _ => rfl) (fun _ _ => rfl)
          (fun _ _ _ _ => rfl)⟩
    · rw [bank_confirmClose state ended, drainMoved_faulted fault, bank_onBank]
    · rw [bank_confirmClose state ended, drainMoved_cools sound started on, bank_onBank]
      exact ⟨rfl, rfl⟩
    · rw [bank_confirmClose state ended, drainMoved_warm sound rests, bank_onBank]
    · have estimated : (windowTotal (s.bank bk).window == 0 || w.foam.isNone || decide (2 ≤ r.windows.length)) =
          (w.foam.isNone || decide (2 ≤ r.windows.length ∨ ∀ c ∈ (s.bank bk).window, c.foam.getD 0 = 0)) := by
        rw [Bool.eq_iff_iff]
        simp only [Bool.or_eq_true, decide_eq_true_eq, windowTotal_eq_zero]
        tauto
      rw [findUnit_confirmClose state ended mem nodup found place windows served bank waits, shareTaken, estimated,
        Bool.or_assoc]
  · rw [apportion_empty window, if_pos zero]
  · rw [apportion_empty window, if_neg some_]
  · intro r ws e ys found nodup windows served bank waits
    have taken := takeShare_eq windows served bank waits g (zero || w.foam.isNone)
    have written := writeShare_found (bk := bk) (zero := zero) (g := g) found
    rw [onUnit_found found nodup, taken] at written
    have full := fullyAttributed_shareTaken r ws e ys g (zero || w.foam.isNone)
    refine ⟨shareTaken r ws e ys g (zero || w.foam.isNone), _, rfl, rfl, fun place all => ?_, fun other => ?_⟩
    · rw [written, if_pos ⟨place, full.mpr all⟩]
      rfl
    · rw [written, if_neg]
      · rfl
      · rintro ⟨place, all⟩
        obtain elsewhere | ⟨x, mem, waits⟩ := other
        · exact elsewhere place
        · exact full.mp all x mem waits
  · exact ⟨_, drainLeft s bk, drainMoved s bk, valveShut_unheld, valveShut_held, rfl, drainMoved_faulted,
      fun sound => ⟨drainMoved_cools sound, drainMoved_warm sound⟩, confirmClose_moves state ended⟩

end Sys2Proof.Proofs

/-!
PROOFS. Family 08: how a condition enters the pending list (O52), and the settings, the list and the pins that
every step keeps (O8).
-/

namespace Sys2Proof.Proofs

open Sys2Proof Sys2Proof.Machine Sys2Proof.Laws

section
variable {m : Monitor} {kind : ConditionKind} {origin : Origin} {d : Detail}

/-! ## How a condition enters the list (R161, R162) -/

/-- An entry of this kind and origin stands in the list, with which a repeat merges (R161). -/
def Listed (kind : ConditionKind) (origin : Origin) (es : List ConditionEntry) : Prop :=
  ∃ e ∈ es, e.kind = kind ∧ e.origin = origin

theorem isOf_iff (e : ConditionEntry) : e.isOf kind origin = true ↔ e.kind = kind ∧ e.origin = origin := by
  rw [ConditionEntry.isOf, Bool.and_eq_true, beq_iff_eq, beq_iff_eq]

theorem any_isOf (es : List ConditionEntry) :
    (es.any fun e => e.isOf kind origin) = true ↔ Listed kind origin es := by
  simp only [List.any_eq_true, isOf_iff, Listed]

theorem enter_merges (listed : Listed kind origin m.entries) :
    m.enter kind origin d = { m with
      entries := m.entries.map fun e => if e.isOf kind origin then e.merge d else e } := by
  rw [Monitor.enter, if_pos ((any_isOf _).mpr listed)]

theorem enter_appends (new : ¬ Listed kind origin m.entries) (room : m.entries.length < Config.conditionSize) :
    m.enter kind origin d = { m with
      entries := m.entries ++ [{ kind := kind, origin := origin, detail := d, count := 1 }] } := by
  rw [Monitor.enter, if_neg (mt (any_isOf _).mp new), if_pos room]

theorem enter_drops (new : ¬ Listed kind origin m.entries) (full : Config.conditionSize ≤ m.entries.length)
    (quiet : kindClass kind ≠ .exigent) : m.enter kind origin d = { m with overflow := true } := by
  rw [Monitor.enter, if_neg (mt (any_isOf _).mp new), if_neg (Nat.not_lt.mpr full), if_pos (by simpa using quiet)]

theorem enter_evicts (new : ¬ Listed kind origin m.entries) (full : Config.conditionSize ≤ m.entries.length)
    (exigent : kindClass kind = .exigent) :
    m.enter kind origin d = { m with
      entries := evictEntry m.masks m.entries ++
        [{ kind := kind, origin := origin, detail := d, count := 1 }]
      overflow := true } := by
  rw [Monitor.enter, if_neg (mt (any_isOf _).mp new), if_neg (Nat.not_lt.mpr full), if_neg (by simp [exigent])]

/-! ### The entry that repeats (R161) -/

theorem merge_eq {e : ConditionEntry} (bound : e.count ≤ 255) :
    e.merge d = { e with detail := d, count := min 255 (e.count + 1) } := by
  have count : (if e.count < 255 then e.count + 1 else e.count) = min 255 (e.count + 1) := by
    split <;> omega
  exact congrArg (fun n => ({ e with detail := d, count := n } : ConditionEntry)) count

theorem map_merge_of_not_listed {es : List ConditionEntry} (new : ¬ Listed kind origin es) :
    (es.map fun e => if e.isOf kind origin then e.merge d else e) = es := by
  have stays : ∀ e ∈ es, (if e.isOf kind origin then e.merge d else e) = e :=
    fun e mem => if_neg fun is => new ⟨e, mem, (isOf_iff e).mp is⟩
  exact (List.map_congr_left stays).trans (List.map_id es)

/-! ### The entry that is evicted (R162) -/

theorem eraseP_first {α : Type} {p : α → Bool} {xs ys : List α} {e : α} (before : ∀ x ∈ xs, p x = false)
    (here : p e = true) : (xs ++ e :: ys).eraseP p = xs ++ ys := by
  rw [List.eraseP_append_right _ (by simpa using before), List.eraseP_cons_of_pos here]

theorem evictEntry_masked {masks : Masks} {xs ys : List ConditionEntry} {e : ConditionEntry}
    (masked : e.reportable masks = false) (before : ∀ x ∈ xs, x.reportable masks = true) :
    evictEntry masks (xs ++ e :: ys) = xs ++ ys := by
  rw [evictEntry, if_pos (by simp [masked]), eraseP_first (by simpa using before) (by simp [masked])]

theorem evictEntry_quiet {masks : Masks} {xs ys : List ConditionEntry} {e : ConditionEntry}
    (all : ∀ x ∈ xs ++ e :: ys, x.reportable masks = true) (quiet : e.cls ≠ .exigent)
    (before : ∀ x ∈ xs, x.cls = .exigent) : evictEntry masks (xs ++ e :: ys) = xs ++ ys := by
  rw [evictEntry, if_neg (by simpa [or_imp, forall_and] using all), if_pos (by simp [quiet]),
    eraseP_first (by simpa using before) (by simpa using quiet)]

theorem evictEntry_sublist (masks : Masks) (es : List ConditionEntry) : (evictEntry masks es).Sublist es := by
  unfold evictEntry
  split
  · exact List.eraseP_sublist
  · split
    · exact List.eraseP_sublist
    · exact List.tail_sublist es

/-- An eviction makes room for one entry. -/
theorem evictEntry_length {masks : Masks} {es : List ConditionEntry} (some : es ≠ []) :
    (evictEntry masks es).length < es.length := by
  have pos : 0 < es.length := List.length_pos_iff.mpr some
  have erased (p : ConditionEntry → Bool) (any : es.any p = true) : (es.eraseP p).length < es.length := by
    obtain ⟨e, mem, holds⟩ := List.any_eq_true.mp any
    have := List.length_eraseP_of_mem mem holds
    omega
  unfold evictEntry
  split
  · exact erased _ ‹_›
  · split
    · exact erased _ ‹_›
    · rw [List.length_tail]
      omega

/-! ### The condition raised (R163) -/

/-- What a raised condition leaves, once it is entered: an exigent one halts the line (R163). -/
theorem raise_eq (s : State) : s.raise kind origin d =
    if kindClass kind = .exigent then (s.setMonitor (s.monitor.enter kind origin d)).halt
    else s.setMonitor (s.monitor.enter kind origin d) := by
  split
  · exact raise_exigent ‹_› ..
  · exact raise_quiet ‹_› ..

end

/-- Settles O52: each branch of `Monitor.enter` is the list that the statement names, and an exigent kind halts
the line over it. -/
theorem conditionsAreEnteredAsListed : Obligations.ConditionsAreEnteredAsListed := by
  refine ⟨fun kind => by cases kind <;> rfl, ?_⟩
  rintro s kind origin d es fresh taken rfl rfl taken_eq
  have raised {xs : List ConditionEntry} {lost : Bool}
      (entered : s.monitor.enter kind origin d = { s.monitor with entries := xs, overflow := lost }) :
      s.raise kind origin d = taken xs lost := by
    rw [raise_eq, entered, taken_eq]
    rfl
  refine ⟨fun xs e ys split same from_ bound others => ?_, fun new => ?_⟩
  · have apart (zs : List ConditionEntry) (part : zs ⊆ xs ++ ys) : ¬ Listed kind origin zs :=
      fun ⟨x, mem, is⟩ => others x (part mem) is
    refine raised ?_
    rw [enter_merges ⟨e, by simp [split], same, from_⟩, split, List.map_append, List.map_cons,
      map_merge_of_not_listed (apart xs (List.subset_append_left ..)),
      map_merge_of_not_listed (apart ys (List.subset_append_right ..)), if_pos ((isOf_iff e).mpr ⟨same, from_⟩),
      merge_eq bound]
  · replace new : ¬ Listed kind origin s.monitor.entries := fun ⟨x, mem, is⟩ => new x mem is
    refine ⟨fun room => raised (enter_appends new room), fun full quiet => raised (enter_drops new full quiet),
      fun full exigent => ?_⟩
    have evicted {xs e ys} (split : s.monitor.entries = xs ++ e :: ys)
        (goes : evictEntry s.monitor.masks (xs ++ e :: ys) = xs ++ ys) :
        s.raise kind origin d =
          taken (xs ++ ys ++ [{ kind := kind, origin := origin, detail := d, count := 1 }]) true :=
      raised (by rw [enter_evicts new full exigent, split, goes])
    refine ⟨fun xs e ys split masked before => evicted split (evictEntry_masked masked before),
      fun xs e ys split all quiet before => evicted split (evictEntry_quiet ?_ quiet before)⟩
    rw [← split]
    exact all

section
variable {m m' : Monitor} {kind : ConditionKind} {origin : Origin} {d : Detail}

/-! ## The pending list stays sound (R161, R162, R166) -/

theorem sound_of_sublist (fewer : m'.entries.Sublist m.entries) (h : m.sound) : m'.sound := by
  obtain ⟨size, distinct, counts⟩ := h
  exact ⟨fewer.length_le.trans size, distinct.sublist (fewer.map _), fun e mem => counts e (fewer.subset mem)⟩

/-- A new condition takes the last place, among entries that leave it room. -/
theorem sound_append {es : List ConditionEntry} (fewer : es.Sublist m.entries) (room : es.length < 32)
    (new : ¬ Listed kind origin m.entries)
    (entries : m'.entries = es ++ [{ kind := kind, origin := origin, detail := d, count := 1 }])
    (h : m.sound) : m'.sound := by
  obtain ⟨-, distinct, counts⟩ := sound_of_sublist (m' := { m with entries := es }) fewer h
  unfold Monitor.sound
  rw [entries]
  refine ⟨?_, ?_, ?_⟩
  · rw [List.length_append]
    exact room
  · rw [List.map_append, List.map_singleton, List.nodup_append]
    refine ⟨distinct, List.nodup_singleton _, fun x mem y last same => ?_⟩
    obtain ⟨e, held, rfl⟩ := List.mem_map.mp mem
    rw [List.mem_singleton.mp last, Prod.mk.injEq] at same
    exact new ⟨e, fewer.subset held, same⟩
  · exact List.forall_mem_append.mpr ⟨counts, List.forall_mem_singleton.mpr ⟨Nat.le_refl 1, show 1 ≤ 255 by decide⟩⟩

theorem merge_count {e : ConditionEntry} (h : 1 ≤ e.count ∧ e.count ≤ Config.countLimit) :
    1 ≤ (e.merge d).count ∧ (e.merge d).count ≤ Config.countLimit := by
  obtain ⟨least, most⟩ := h
  rw [merge_eq most]
  unfold Config.countLimit
  dsimp only
  omega

/-- A repeat moves no entry, and takes none above 255. -/
theorem sound_merged (h : m.sound) : ({ m with
    entries := m.entries.map fun e => if e.isOf kind origin then e.merge d else e } : Monitor).sound := by
  obtain ⟨size, distinct, counts⟩ := h
  refine ⟨by rwa [List.length_map], ?_, ?_⟩
  · have names (e : ConditionEntry) : ((if e.isOf kind origin then e.merge d else e).kind,
        (if e.isOf kind origin then e.merge d else e).origin) = (e.kind, e.origin) := by
      split <;> rfl
    rw [List.map_map]
    exact (List.map_congr_left fun e _ => names e).symm ▸ distinct
  · intro e mem
    obtain ⟨x, held, rfl⟩ := List.mem_map.mp mem
    split
    · exact merge_count (counts x held)
    · exact counts x held

theorem sound_enter (h : m.sound) : (m.enter kind origin d).sound := by
  by_cases listed : Listed kind origin m.entries
  · rw [enter_merges listed]
    exact sound_merged h
  by_cases room : m.entries.length < 32
  · rw [enter_appends listed room]
    exact sound_append (.refl _) room listed rfl h
  have full : 32 ≤ m.entries.length := Nat.not_lt.mp room
  by_cases exigent : kindClass kind = .exigent
  · rw [enter_evicts listed full exigent]
    have some : m.entries ≠ [] := List.length_pos_iff.mp (by omega)
    have less := evictEntry_length (masks := m.masks) some
    exact sound_append (evictEntry_sublist ..) (less.trans_le h.1) listed rfl h
  · rw [enter_drops listed full exigent]
    exact h

theorem dropEntries_sublist (masks : Masks) (r k : Nat) (es : List ConditionEntry) :
    (dropEntries masks r k es).Sublist es := by
  fun_induction dropEntries masks r k es with
  | case1 => exact .refl _
  | case2 _ _ _ _ ih => exact ih.cons_cons _
  | case3 _ _ _ _ _ ih => exact ih.cons _
  | case4 _ _ _ _ ih => exact ih.cons_cons _
  | case5 _ _ _ _ _ ih => exact ih.cons _

theorem monitorSound_step {b : Bool} (step : MonitorStep b m m') (h : m.sound) : m'.sound := by
  cases step with
  | enter => exact sound_enter h
  | attn => exact h
  | masks => exact h
  | report => exact sound_of_sublist (dropEntries_sublist ..) h
  | empty => exact sound_of_sublist (List.nil_sublist _) h

theorem monitorSound_change {p : Permit} {s t : State} (c : Change p s t) (h : s.monitor.sound) :
    t.monitor.sound := by
  cases c
  case monitor step => exact monitorSound_step step h
  all_goals simpa using h

theorem monitorSound_reset : State.reset.monitor.sound := ⟨Nat.zero_le _, .nil, List.forall_mem_nil _⟩

end

/-! ## The settings stay in bounds (R178, R179) -/

/-- A setting lies in the range that SET-LIMIT leaves it (R178). -/
def InBounds (c : Settings) (name : SettingName) : Prop :=
  settingLow c name ≤ readSetting c name ∧ readSetting c name ≤ settingHigh c name

/-- The setting that bounds another: the pairs of R178. -/
def boundedBy : SettingName → Option SettingName
  | .purgeO2 => some .pauseO2
  | .pauseO2 => some .purgeO2
  | .bankSwapLoad => some .bankHardLoad
  | .bankHardLoad => some .bankSwapLoad
  | _ => none

section
variable {c : Settings} {name other : SettingName} {v : Nat}

theorem readSetting_written_ne (ne : other ≠ name) :
    readSetting (writeSetting c name v) other = readSetting c other := by
  rw [readSetting_writeSetting, if_neg ne]

/-- A range moves only with the setting that bounds it. -/
theorem range_written (free : boundedBy other ≠ some name) :
    settingLow (writeSetting c name v) other = settingLow c other ∧
      settingHigh (writeSetting c name v) other = settingHigh c other := by
  have read {partner : SettingName} (bounds : boundedBy other = some partner) :
      readSetting (writeSetting c name v) partner = readSetting c partner :=
    readSetting_written_ne fun same => free (bounds.trans (congrArg some same))
  cases other with
  | purgeO2 => exact ⟨rfl, congrArg (fun x => min 60 (x - 5)) (read rfl)⟩
  | pauseO2 => exact ⟨congrArg (· + 5) (read rfl), rfl⟩
  | bankSwapLoad => exact ⟨rfl, congrArg (fun x => min 2000 (x - 100)) (read rfl)⟩
  | bankHardLoad => exact ⟨congrArg (· + 100) (read rfl), rfl⟩
  | _ => exact ⟨rfl, rfl⟩

/-- A value in the range of its setting keeps the other of the pair in its own, moved range. -/
theorem inBounds_partner (bounds : boundedBy other = some name) (low : settingLow c name ≤ v)
    (high : v ≤ settingHigh c name) (h : InBounds c other) : InBounds (writeSetting c name v) other := by
  obtain ⟨least, most⟩ := h
  cases other <;> cases bounds <;>
  · simp only [InBounds, settingLow, settingHigh, readSetting, writeSetting] at *
    omega

theorem inBounds_written (low : settingLow c name ≤ v) (high : v ≤ settingHigh c name)
    (h : ∀ other, InBounds c other) (other : SettingName) : InBounds (writeSetting c name v) other := by
  by_cases bounds : boundedBy other = some name
  · exact inBounds_partner bounds low high (h other)
  obtain ⟨low_eq, high_eq⟩ := range_written (c := c) (v := v) bounds
  unfold InBounds
  rw [low_eq, high_eq, readSetting_writeSetting]
  split
  · rename_i same
    subst same
    exact ⟨low, high⟩
  · exact h other

end

section
variable {s t : State}

theorem settingsInBounds_change {p : Permit} (c : Change p s t) (h : s.settingsInBounds) :
    t.settingsInBounds := by
  cases c
  case control kept =>
    obtain same | ⟨-, name, v, low, high, written⟩ := kept.settings
    · intro other
      rw [State.limits, setControl_control, same]
      exact h other
    · intro other
      rw [State.limits, setControl_control, written]
      exact inBounds_written low high h other
  case bank => simpa [State.settingsInBounds, State.limits] using h
  all_goals exact h

/-! ## The pins agree (R164, R169, R181) -/

/-- No effect parts the HALT pin from the line (R169). -/
theorem haltAgrees_changes {p : Permit} (changes : Changes p s t) (h : haltAgrees s.control) :
    haltAgrees t.control :=
  changes.keeps (P := fun u => haltAgrees u.control) (fun _ _ c agrees => by
    cases c
    case control kept => exact kept.halt agrees
    all_goals simpa using agrees) h

theorem attn_afterEvent (u : State) : u.afterEvent.monitor.attn = u.afterEvent.attnLevel := rfl

theorem pinsAgree_assertReset (s : State) : s.assertReset.pinsAgree := ⟨fun _ => ⟨rfl, rfl⟩, nofun⟩

theorem pinsAgree_powerOn (s : State) : s.powerOn.pinsAgree := ⟨nofun, fun _ => ⟨rfl, rfl⟩⟩

/-- An event ends with the ATTN pin at its level, and keeps the HALT pin with the line. -/
theorem exec_pinsAgree {c : Instr} (h : s.pinsAgree) (next : exec c s = .next t) : t.pinsAgree := by
  by_cases assert : c = .resetPinAsserted
  · subst assert
    cases next
    exact pinsAgree_assertReset s
  by_cases release : c = .powerOnReset
  · subst release
    cases next
    exact pinsAgree_powerOn s
  obtain ⟨f, executes⟩ := exec_event c assert release
  obtain ⟨u, made, changes⟩ := exec_changes c s assert release
  obtain rfl : u = t := by simpa [made] using next
  have ended : u = event f s := by simpa [made] using executes s
  cases runs : s.resetPin with
  | true =>
    rw [ended, event, if_pos runs]
    exact h
  | false =>
    obtain ⟨halt, -⟩ := h.2 runs
    refine ⟨fun asserted => ?_, fun _ => ⟨haltAgrees_changes changes halt, ?_⟩⟩
    · rw [changes.resetPin, runs] at asserted
      cases asserted
    · rw [ended, event_eq runs]
      exact attn_afterEvent (f s)

/-- Time bears on no pin. -/
theorem pinsAgree_advance (dt : Moment) (h : s.pinsAgree) : (s.advance dt).pinsAgree := by
  simpa only [State.pinsAgree, State.halted, State.attnLevel, advance_resetPin, advance_control, advance_monitor]
    using h

theorem pinsAgree_step (h : s.pinsAgree) (next : step s = .next t) : t.pinsAgree := by
  unfold step at next
  split at next
  · cases next
    unfold State.idle
    split
    · exact h
    · exact pinsAgree_advance 1 h
  · rename_i c rest _
    exact exec_pinsAgree (s := s.setPending rest) h next

end

/-- Settles O8: what every primitive change keeps of the settings and of the list, and what every event ends
with at the pins. -/
theorem settingsListAndPinsStaySound : Obligations.SettingsListAndPinsStaySound := by
  refine ⟨fun s t bounds next => ?_, fun s t sound next => ?_, fun s t => pinsAgree_step⟩
  · exact step_keeps (P := State.settingsInBounds) (fun _ _ h => h) (fun _ h => h)
      (fun _ => settingsInBounds_reset) (fun _ _ => settingsInBounds_change) next bounds
  · exact step_keeps (P := fun s => s.monitor.sound) (fun _ _ h => h) (fun _ h => h)
      (fun _ => monitorSound_reset) (fun _ _ => monitorSound_change) next sound

end Sys2Proof.Proofs

/-!
PROOFS. Family 08: the safety node's answer (O54), and the entries that a REPORT takes (O55).
-/

namespace Sys2Proof.Proofs

open Sys2Proof Sys2Proof.Machine Sys2Proof.Laws

/-! ## The safety node's answer (R159) -/

/-- A safety answer bears on a silence no further than to end it. -/
theorem takeSafety_eq (a : SafetyAnswer) (s : State) :
    takeSafety a s =
      ((heardAt .safety a.moment s).testGas a.lel).testStopInput a.emergencyStop a.doorOpen := by
  rw [takeSafety, State.takeAnswer]
  exact ite_self _

section
variable {s : State} {lel : Nat}

/-- From 20 % on the reading is exigent (R159). -/
theorem testGas_high (high : 20 ≤ lel) :
    s.testGas lel = s.raise .lelHigh (.node .safety) { first := lel, second := none } :=
  if_pos high

theorem testGas_warn (low : lel < 20) (warn : s.control.settings.lelWarn ≤ lel) :
    s.testGas lel = s.raise .lelWarn (.node .safety) { first := lel, second := none } :=
  (if_neg (Nat.not_le.mpr low)).trans (if_pos warn)

theorem testGas_clear (low : lel < 20) (clear : lel < s.control.settings.lelWarn) : s.testGas lel = s :=
  (if_neg (Nat.not_le.mpr low)).trans (if_neg (Nat.not_le.mpr clear))

theorem testStopInput_active (doorOpen : Bool) :
    s.testStopInput true doorOpen =
      s.raise .emergencyStop (.node .safety) { first := if doorOpen then 1 else 0, second := none } := rfl

theorem testStopInput_inactive (doorOpen : Bool) : s.testStopInput false doorOpen = s := rfl

end

/-- Settles O54: the gas reading is tested in the state that hears the node, and the emergency stop after it. -/
theorem safetyAnswerRaisesItsConditions : Obligations.SafetyAnswerRaisesItsConditions := by
  intro s a runs
  have limits : (heardAt .safety a.moment s).control.settings = s.control.settings := by rw [heardAt_control]
  refine ⟨heardAt .safety a.moment s, (heardAt .safety a.moment s).testGas a.lel,
    ((heardAt .safety a.moment s).testGas a.lel).testStopInput a.emergencyStop a.doorOpen, rfl, testGas_high,
    fun low warn => testGas_warn low ?_, fun low clear => testGas_clear low ?_,
    fun active => ?_, fun inactive => ?_, ?_⟩
  · rwa [limits]
  · rwa [limits]
  · rw [active, testStopInput_active]
  · rw [inactive, testStopInput_inactive]
  · rw [← takeSafety_eq]
    exact congrArg Host.Outcome.next (event_eq runs _)

/-! ## The entries that a REPORT takes (R166) -/

section
variable {masks : Masks} {es : List ConditionEntry}

/-- The first `r` reportable entries and the first `k` masked ones. -/
def takenOf (masks : Masks) (r k : Nat) (es : List ConditionEntry) : List ConditionEntry :=
  (es.filter (ConditionEntry.reportable masks)).take r ++ (es.filter fun e => !e.reportable masks).take k

theorem takenEntries_eq (masks : Masks) (es : List ConditionEntry) :
    takenEntries masks es =
      takenOf masks 8 (8 - ((es.filter (ConditionEntry.reportable masks)).take 8).length) es := rfl

theorem takenOf_reportable {e : ConditionEntry} (rep : e.reportable masks = true) (r k : Nat) :
    takenOf masks r k (e :: es) = (e :: es.filter (ConditionEntry.reportable masks)).take r ++
      (es.filter fun e => !e.reportable masks).take k := by
  rw [takenOf, List.filter_cons_of_pos rep, List.filter_cons_of_neg (by simp [rep])]

theorem takenOf_masked {e : ConditionEntry} (masked : ¬ e.reportable masks = true) (r k : Nat) :
    takenOf masks r k (e :: es) = (es.filter (ConditionEntry.reportable masks)).take r ++
      (e :: es.filter fun e => !e.reportable masks).take k := by
  rw [takenOf, List.filter_cons_of_neg masked, List.filter_cons_of_pos (by simp [masked])]

/-- Without a place for the class of the first entry, it stays, and the rest is taken from the others. -/
theorem left_kept {e : ConditionEntry} {r k : Nat} (taken : takenOf masks r k (e :: es) = takenOf masks r k es)
    (new : e ∉ es) :
    (e :: es).filter (fun x => decide (x ∉ takenOf masks r k (e :: es))) =
      e :: es.filter fun x => decide (x ∉ takenOf masks r k es) := by
  have stays : e ∉ takenOf masks r k es := fun mem => new <|
    (List.mem_append.mp mem).elim (fun m => List.mem_of_mem_filter (List.mem_of_mem_take m))
      fun m => List.mem_of_mem_filter (List.mem_of_mem_take m)
  rw [taken, List.filter_cons_of_pos (by simpa using stays)]

/-- Where the first entry is taken, the rest is taken from the others. -/
theorem left_taken {e : ConditionEntry} {taken rest : List ConditionEntry} (perm : taken.Perm (e :: rest))
    (new : e ∉ es) :
    (e :: es).filter (fun x => decide (x ∉ taken)) = es.filter fun x => decide (x ∉ rest) := by
  rw [List.filter_cons_of_neg (by simp [perm.mem_iff])]
  refine List.filter_congr fun x mem => ?_
  have ne : x ≠ e := fun same => new (same ▸ mem)
  simp [perm.mem_iff, ne]

/-- What is left is what is not taken, where no entry stands twice. -/
theorem dropEntries_eq (r k : Nat) (es : List ConditionEntry) (distinct : es.Nodup) :
    dropEntries masks r k es = es.filter fun e => decide (e ∉ takenOf masks r k es) := by
  fun_induction dropEntries masks r k es with
  | case1 => rfl
  | case2 k e es rep ih =>
    obtain ⟨new, distinct⟩ := List.nodup_cons.mp distinct
    rw [left_kept (takenOf_reportable rep 0 k) new, ih distinct]
  | case3 k e es rep r ih =>
    obtain ⟨new, distinct⟩ := List.nodup_cons.mp distinct
    rw [left_taken (.of_eq (takenOf_reportable rep (r + 1) k)) new, ih distinct]
    rfl
  | case4 r e es masked ih =>
    obtain ⟨new, distinct⟩ := List.nodup_cons.mp distinct
    rw [left_kept (takenOf_masked masked r 0) new, ih distinct]
  | case5 r e es masked k ih =>
    obtain ⟨new, distinct⟩ := List.nodup_cons.mp distinct
    rw [takenOf_masked masked, List.take_succ_cons, left_taken List.perm_middle new, ih distinct]
    rfl

/-- The reportable entries left are those behind the first that are taken. -/
theorem filter_dropEntries (r k : Nat) (es : List ConditionEntry) :
    (dropEntries masks r k es).filter (ConditionEntry.reportable masks) =
      (es.filter (ConditionEntry.reportable masks)).drop r := by
  fun_induction dropEntries masks r k es with
  | case1 => rw [List.filter_nil, List.drop_nil]
  | case2 k e es rep ih => rw [List.filter_cons_of_pos rep, List.filter_cons_of_pos rep, ih]; rfl
  | case3 k e es rep r ih => rw [ih, List.filter_cons_of_pos rep, List.drop_succ_cons]
  | case4 r e es masked ih => rw [List.filter_cons_of_neg masked, List.filter_cons_of_neg masked, ih]
  | case5 r e es masked k ih => rw [ih, List.filter_cons_of_neg masked]

end

section
variable {s : State}

theorem conditionLine_eq (e : ConditionEntry) :
    e.line = sealLine (ascii "COND" ++
      field "kind" (ascii (conditionWord e.kind)) ++
      field "class" (ascii (conditionClassWord (kindClass e.kind))) ++
      field "origin" (originText e.origin) ++ field "detail" (detailText e.detail) ++
      field "count" (numText e.count)) := rfl

theorem doReport_some (some : s.monitor.entries.filter (ConditionEntry.reportable s.monitor.masks) ≠ []) :
    doReport s =
      (s.setMonitor { s.monitor with
        entries := leftEntries s.monitor.masks s.monitor.entries, overflow := false }).send
        (okLine .report
          (field "count" (numText (takenEntries s.monitor.masks s.monitor.entries).length) ++
            field "more" (numText ((leftEntries s.monitor.masks s.monitor.entries).filter
              (ConditionEntry.reportable s.monitor.masks)).length) ++
            field "overflow" (yesNo s.monitor.overflow)) ::
          (takenEntries s.monitor.masks s.monitor.entries).map ConditionEntry.line) := by
  rw [doReport]
  refine if_pos ?_
  simpa [List.filter_eq_nil_iff] using some

/-- With no reportable entry nothing leaves the list (R167). -/
theorem doReport_none (none : s.monitor.entries.filter (ConditionEntry.reportable s.monitor.masks) = []) :
    doReport s = s.send [okLine .report (field "count" (ascii "0") ++
      field "overflow" (yesNo s.monitor.overflow))] := by
  rw [doReport]
  refine if_neg ?_
  simpa [List.filter_eq_nil_iff] using none

/-- What stays reportable behind a REPORT (R166). -/
theorem length_reportable_left (masks : Masks) (es : List ConditionEntry) :
    ((leftEntries masks es).filter (ConditionEntry.reportable masks)).length =
      (es.filter (ConditionEntry.reportable masks)).length -
        ((es.filter (ConditionEntry.reportable masks)).take 8).length := by
  rw [leftEntries, filter_dropEntries, List.length_drop, List.length_take]
  unfold Config.reportSize
  omega

end

/-- Settles O55: the reply's lines are those of the entries taken, and the others stay in their order. -/
theorem reportTakesItsEntries : Obligations.ReportTakesItsEntries := by
  rintro s rs ms taken left takes distinct rfl rfl rfl rfl
  have executed := exec_rowFor .report s takes
  refine ⟨fun some => executed.trans ?_, fun none => executed.trans ?_⟩
  · rw [perform, doReport_some some, length_reportable_left, takenEntries_eq, leftEntries,
      dropEntries_eq _ _ _ distinct.of_map]
    rfl
  · rw [perform, doReport_none none]

end Sys2Proof.Proofs

/-!
PROOFS. Family 09: START and STOP with the entry to RUN (O19), STEP (O20), and the RESET pin (O6).
-/

namespace Sys2Proof.Proofs

open Sys2Proof Sys2Proof.Machine Sys2Proof.Laws

section
variable {s : State}

/-! ## START and STOP (R170) -/

theorem doStart_stopped (stopped : s.control.line = .stopped) :
    doStart s = ((s.setLine .run).lineEntered.startCondenser).send
      [okLine .start (field "line" (ascii "RUN"))] := by
  rw [doStart, stopped]
  rfl

theorem doStart_run (runs : s.control.line = .run) :
    doStart s = s.send [okLine .start (field "line" (ascii "RUN"))] := by
  rw [doStart, runs]
  rfl

theorem doStop_stopped (stopped : s.control.line = .stopped) :
    doStop s = s.send [okLine .stop (field "line" (ascii "STOPPED"))] := by
  rw [doStop, stopped]
  rfl

theorem doStop_moving (moves : s.control.line = .run ∨ s.control.line = .step) :
    doStop s = s.lineStop.send [okLine .stop (field "line" (ascii "STOPPED"))] := by
  obtain line | line := moves <;> (rw [doStop, line]; rfl)

/-! ## The entry to RUN or STEP (R169) -/

/-- The stations answer the entry in ascending order. -/
theorem lineEntered_eq (s : State) : s.lineEntered =
    (((((((((s.testStation 0).testStation 1).testStation 2).testStation 3).testStation 4).testStation
      5).testStation 6).testStation 7).testChamber.grantAnalyser).grantScan := by
  rw [State.lineEntered, stationIds]
  simp only [forAll_cons, forAll_nil]

/-! ## The condenser's first cooling (R138) -/

theorem startBank_warm {bk : BankId} (warm : (s.bank bk).state = .warm) :
    s.startBank bk = (s.issue .condenser .condenser (.refrigerationStart bk)).setBank bk
      { s.bank bk with state := .cooling, coolDeadline := some (s.now + 1800000) } := by
  rw [State.startBank, warm, State.enterCooling, State.onBank, bank_orderBank]
  rfl

theorem startBank_notWarm {bk : BankId} (notWarm : (s.bank bk).state ≠ .warm) : s.startBank bk = s :=
  if_neg (by simpa using notWarm)

/-- The start of a bank takes no time. -/
theorem startBank_now (s : State) (bk : BankId) : (s.startBank bk).now = s.now := by
  by_cases warm : (s.bank bk).state = .warm
  · rw [startBank_warm warm, setBank_now, issue_now]
  · rw [startBank_notWarm warm]

theorem bank_startBank_other (s : State) (bk : BankId) :
    (s.startBank bk).bank (otherBank bk) = s.bank (otherBank bk) := by
  by_cases warm : (s.bank bk).state = .warm
  · rw [startBank_warm warm, bank_setBank_other]
    exact bank_orderBank s (.refrigerationStart bk) (otherBank bk)
  · rw [startBank_notWarm warm]

theorem startCondenser_again (started : s.condenser.started = true) : s.startCondenser = s :=
  if_pos started

/-- The condenser, marked as started before its banks start. -/
def markStarted (s : State) : State := { s with condenser := { s.condenser with started := true } }

theorem bank_markStarted (s : State) (bk : BankId) : (markStarted s).bank bk = s.bank bk := by
  cases bk <;> rfl

/-- At the first entry to RUN bank A is started before bank B. -/
theorem startCondenser_first (first : s.condenser.started = false) :
    s.startCondenser = ((markStarted s).startBank .a).startBank .b :=
  if_neg (by simp [first])

end

/-- Settles O19: the two commands by the line's state, and the banks each as its state lets it start. -/
theorem startAndStopMoveTheLine : Obligations.StartAndStopMoveTheLine := by
  refine ⟨fun s takes => ⟨fun stopped => ?_, fun runs => ?_, fun stopped => ?_, fun moves => ?_⟩,
    lineEntered_eq, fun s => ⟨startCondenser_again, fun first => ?_⟩⟩
  · exact (exec_rowFor .start s takes).trans (by rw [perform, doStart_stopped stopped]; rfl)
  · exact (exec_rowFor .start s takes).trans (by rw [perform, doStart_run runs])
  · exact (exec_rowFor .stop s takes).trans (by rw [perform, doStop_stopped stopped])
  · exact (exec_rowFor .stop s takes).trans (by rw [perform, doStop_moving moves])
  · have bankB : ((markStarted s).startBank .a).bank .b = s.bank .b :=
      (bank_startBank_other (markStarted s) .a).trans (bank_markStarted s .b)
    have now : ((markStarted s).startBank .a).now = s.now := startBank_now (markStarted s) .a
    refine ⟨markStarted s, (markStarted s).startBank .a, rfl,
      startBank_warm (s := markStarted s) (bk := .a), startBank_notWarm (s := markStarted s) (bk := .a),
      fun warm => ?_, fun notWarm => ?_⟩
    · rw [startCondenser_first first, startBank_warm (by rwa [bankB]), bankB, now]
    · rw [startCondenser_first first, startBank_notWarm (by rwa [bankB])]

/-! ## STEP (R171) -/

section
variable {s : State} {holds : StationId → Bool} {chamberHolds : Bool}

theorem isIdleEmpty_iff (c : Chamber) : c.isIdleEmpty = true ↔ c.phase = .idle ∧ c.feed = [] := by
  rw [Chamber.isIdleEmpty, Bool.and_eq_true, beq_iff_eq, List.isEmpty_iff]

theorem doStep_stopped {u v : State} (stopped : s.control.line = .stopped)
    (entered : s.giveCredits.withdrawCredits.setLine .step = u) (settled : v = u.lineEntered.settleBlocks) :
    doStep s = v.send [okLine .step (field "line" (ascii (lineStateWord v.control.line)) ++
      field "credits" (numText s.giveCredits.withdrawCredits.creditCount))] := by
  rw [doStep, stopped, settled, ← entered]

/-- Of a holder R172 withdraws the credit only in DONE. -/
theorem holds_and_keepsCredit {i : StationId}
    (station : holds i = true ↔ (s.station i).unit ≠ none ∧ (s.station i).phase ≠ .faulted) :
    (holds i && (s.station i).keepsCredit) = (holds i && decide ((s.station i).phase ≠ .done)) := by
  cases held : holds i with
  | false => rfl
  | true =>
    obtain ⟨unit, sound⟩ := station.mp held
    rw [Bool.true_and, Bool.true_and, Bool.eq_iff_iff, stationKeepsCredit_iff, decide_eq_true_eq]
    exact ⟨fun ⟨_, _, on⟩ => on, fun on => ⟨unit, sound, on⟩⟩

section
variable (chamber : chamberHolds = true ↔ ¬ (s.chamber.phase = .idle ∧ s.chamber.feed = []))
include chamber

/-- Of the chamber that holds one R172 withdraws the credit only in FAULTED. -/
theorem chamberHolds_and_keepsCredit :
    (chamberHolds && s.chamber.keepsCredit) =
      (chamberHolds && decide (s.chamber.phase ≠ .faulted)) := by
  cases held : chamberHolds with
  | false => rfl
  | true =>
    rw [Bool.true_and, Bool.true_and, Bool.eq_iff_iff, chamberKeepsCredit_iff, decide_eq_true_eq]
    exact and_iff_left (chamber.mp held)

variable (stations : ∀ i, holds i = true ↔ (s.station i).unit ≠ none ∧ (s.station i).phase ≠ .faulted)
include stations

/-- The credits go to the holders that R171 names. -/
theorem giveCredits_eq :
    s.giveCredits = s.setControl { s.control with
      credits := stationIds.filter holds, holders := stationIds.filter holds
      chamberCredit := chamberHolds, chamberHolder := chamberHolds } := by
  have holder : holds = fun i => (s.station i).unit.isSome && (s.station i).phase != .faulted := by
    funext i
    rw [Bool.eq_iff_iff, stations, Bool.and_eq_true, bne_iff_ne, Option.isSome_iff_ne_none]
  have chamberHolder : chamberHolds = !s.chamber.isIdleEmpty := by
    rw [Bool.eq_iff_iff, chamber, ← isIdleEmpty_iff, Bool.not_eq_true', Bool.not_eq_true]
  rw [holder, chamberHolder]
  rfl

/-- The credits that a STEP gives and R172 does not withdraw at once. -/
theorem giveCredits_withdrawCredits :
    s.giveCredits.withdrawCredits = s.setControl { s.control with
      credits := stationIds.filter fun i => holds i && decide ((s.station i).phase ≠ .done)
      holders := stationIds.filter holds
      chamberCredit := chamberHolds && decide (s.chamber.phase ≠ .faulted)
      chamberHolder := chamberHolds } := by
  have credits : (stationIds.filter holds).filter (fun i => (s.station i).keepsCredit) =
      stationIds.filter fun i => holds i && decide ((s.station i).phase ≠ .done) := by
    rw [List.filter_filter]
    refine List.filter_congr fun i _ => ?_
    rw [Bool.and_comm, holds_and_keepsCredit (stations i)]
  rw [giveCredits_eq chamber stations, ← credits, ← chamberHolds_and_keepsCredit chamber]
  rfl

theorem stepEntry_eq :
    s.giveCredits.withdrawCredits.setLine .step = s.setControl { s.control with
      line := .step
      credits := stationIds.filter fun i => holds i && decide ((s.station i).phase ≠ .done)
      holders := stationIds.filter holds
      chamberCredit := chamberHolds && decide (s.chamber.phase ≠ .faulted)
      chamberHolder := chamberHolds } := by
  rw [giveCredits_withdrawCredits chamber stations]
  rfl

theorem stepCredits_count :
    s.giveCredits.withdrawCredits.creditCount =
      (stationIds.filter fun i => holds i && decide ((s.station i).phase ≠ .done)).length +
        if chamberHolds && decide (s.chamber.phase ≠ .faulted) then 1 else 0 := by
  rw [giveCredits_withdrawCredits chamber stations]
  rfl

end
end

/-- Settles O20: the credits given and not withdrawn at once, and the reply of a STEP in STOPPED. -/
theorem stepGivesCredits : Obligations.StepGivesCredits := by
  intro s holds chamberHolds takes stopped stations chamber
  refine ⟨_, _, _, _, rfl, rfl, rfl, rfl, (exec_rowFor .step s takes).trans ?_⟩
  rw [perform, doStep_stopped stopped (stepEntry_eq chamber stations) rfl,
    stepCredits_count chamber stations]

/-! ## The RESET pin (R181) -/

/-- While the RESET pin is asserted an event has no effect. -/
theorem event_asserted {s : State} (asserted : s.resetPin = true) (f : State → State) : event f s = s :=
  if_pos asserted

theorem exec_asserted {c : Instr} {s : State} (asserted : s.resetPin = true)
    (assert : c ≠ .resetPinAsserted) (release : c ≠ .powerOnReset) : exec c s = .next s := by
  obtain ⟨f, executes⟩ := exec_event c assert release
  rw [executes, event_asserted asserted]

theorem train_powerOn (s : State) (t : TrainId) : s.powerOn.train t = Train.reset :=
  Vector.get_replicate 4 Train.reset t

theorem bank_powerOn (s : State) (bk : BankId) : s.powerOn.bank bk = Bank.reset := by
  cases bk <;> rfl

theorem slot_powerOn (s : State) (k : SlotId) : s.powerOn.slot k = { vessel := none, platform := none } :=
  Vector.get_replicate ..

theorem node_powerOn (s : State) (n : Node) :
    s.powerOn.node n = { misses := 0, silent := false, previousTaken := true } :=
  Vector.get_replicate ..

/-- Settles O6: the pins, an event while the pin is asserted, and each block of the power-on state. -/
theorem resetPinStopsAndRestoresThePart : Obligations.ResetPinStopsAndRestoresThePart := by
  refine ⟨⟨fun s => rfl, fun c s => exec_asserted⟩, fun s => ⟨s.powerOn, rfl, ?queue, ?pin, ?now, ?count,
    ?register, ?classifier, ?stations, ?arbiter, ?slots, ?chamber, ?condenser, ?monitor, ?control, ?link,
    ?loop⟩⟩
  case stations => exact station_reset
  case classifier => exact ⟨Vector.get_replicate 16 none, rfl, rfl⟩
  case arbiter => exact ⟨train_powerOn s, Vector.get_replicate 8 [0, 1, 2, 3], rfl⟩
  case slots => exact slot_powerOn s
  case condenser => exact ⟨bank_powerOn s, rfl, rfl⟩
  case monitor => exact ⟨rfl, rfl, rfl, rfl⟩
  case control => exact ⟨rfl, rfl, rfl, rfl, rfl, rfl, rfl, rfl, rfl⟩
  case loop => exact ⟨node_powerOn s, rfl, rfl, rfl, rfl⟩
  all_goals rfl

end Sys2Proof.Proofs

/-!
PROOFS. Family 10: every command answers and keeps the queue (O3), the check and the sealed lines (O11), and the
tests of a line (O13).
-/

namespace Sys2Proof.Proofs

open Sys2Proof Sys2Proof.Machine Sys2Proof.Laws

/-- Settles O3: the two rows of the RESET pin by their own equations, and every other row as a run of primitive
changes, none of which touches the queue or the pin. -/
theorem everyCommandAnswersAndKeepsQueue : Obligations.EveryCommandAnswersAndKeepsQueue := by
  intro c s
  by_cases assert : c = .resetPinAsserted
  · subst assert
    exact ⟨s.assertReset, rfl, rfl, fun other => absurd rfl other⟩
  by_cases release : c = .powerOnReset
  · subst release
    exact ⟨s.powerOn, rfl, rfl, fun _ other => absurd rfl other⟩
  obtain ⟨t, executes, changes⟩ := exec_changes c s assert release
  exact ⟨t, executes, changes.pending, fun _ _ => changes.resetPin⟩

/-! ## Lines and checks (R185, R196) -/

/-- Every line sent so far ends in its check. -/
def sentSealed (s : State) : Prop := ∀ l ∈ s.link.sent, Sealed l

/-- A change other than one of the interface forms no line. -/
theorem sentSealed_of_link {s t : State} (link : t.link = s.link) (h : sentSealed s) : sentSealed t := by
  unfold sentSealed
  rw [link]
  exact h

theorem sentSealed_change {p : Permit} {s t : State} (change : Change p s t) (h : sentSealed s) :
    sentSealed t := by
  cases change
  case link sealed _ => exact fun l mem => (sealed l mem).elim (h l) id
  all_goals exact sentSealed_of_link (by simp) h

theorem sentSealed_step {s t : State} (next : step s = .next t) (h : sentSealed s) : sentSealed t :=
  step_keeps (P := sentSealed) (fun _ _ sealed => sealed) (fun _ sealed => sealed) (fun _ => nofun)
    (fun _ _ change => sentSealed_change change) next h

theorem sealLine_eq (body : Text) :
    sealLine body = body ++ [chSpace, chHash] ++ hex4 (crc (body ++ [chSpace])) ++ [chCR, chLF] := by
  simp [sealLine]

/-- Settles O11: the worked value by evaluation, the ending of a line by `sealLine_eq`, and the sent lines by the
primitive changes. -/
theorem checkValueIsAsWorked : Obligations.CheckValueIsAsWorked := by
  refine ⟨⟨?worked, ?firstByte, ?shifts, crcFrom_toNat_cons⟩, sealLine_eq, fun s t sealed next =>
    sentSealed_step next sealed⟩
  case worked => decide
  case firstByte => decide
  case shifts => decide

/-! ## The five tests of a line (R183) -/

section
variable {l : Line} {body : Text} {w : CommandWord} {fs : List LineField}

theorem readLine_tooLong (long : l.overLength = true) : readLine l = .framing .badLength := if_pos long

theorem readLine_unchecked (fits : l.overLength = false) (unchecked : ∀ body, lineBody l ≠ some body) :
    readLine l = .framing .badCheck := by
  rw [readLine, fits, Option.eq_none_iff_forall_ne_some.mpr unchecked]
  rfl

theorem readLine_checked (fits : l.overLength = false) (checked : lineBody l = some body) :
    readLine l = readBody body := by
  rw [readLine, fits, checked]
  rfl

/-- No word of a list is a text that none of them spells. -/
theorem wordOf_none {α : Type} {items : List α} {word : α → String} {t : Text}
    (other : ∀ x ∈ items, ascii (word x) ≠ t) : wordOf items word t = none :=
  List.find?_eq_none.mpr fun x mem => by simpa using other x mem

theorem readBody_noWord (other : ∀ w ∈ commandWords, ascii (commandText w) ≠ firstWord body) :
    readBody body = .framing .what := by
  rw [readBody, wordOf_none other]

theorem readBody_unfit (word : wordOf commandWords commandText (firstWord body) = some w)
    (unfit : ∀ fs, lineFields body = some fs → fieldsFit w fs = false) :
    readBody body = .framing .badField := by
  rw [readBody, word]
  cases fields : lineFields body with
  | none => rfl
  | some fs =>
    dsimp only
    rw [unfit fs fields]
    rfl

/-- With a word and fields that fit, the values decide. -/
theorem readBody_fit (word : wordOf commandWords commandText (firstWord body) = some w)
    (fields : lineFields body = some fs) (fit : fieldsFit w fs = true) :
    readBody body = (commandOf w fs).elim (.framing .badValue) .command := by
  rw [readBody, word, fields]
  dsimp only
  rw [fit]
  cases commandOf w fs with
  | none => rfl
  | some c => rfl

end

/-! ## A completed line (R182, R183) -/

section
variable {s : State} {l : Line}

theorem receive_ready (ready : s.link.state = .ready) : s.receive l = s.takeLine l := by
  rw [State.receive, ready]

theorem takeLine_framing {f : FramingReply} (read : readLine l = .framing f) :
    s.takeLine l = s.send [framingLine f] := by
  rw [State.takeLine, read]

theorem takeLine_command {c : Command} (read : readLine l = .command c) : s.takeLine l = perform c s := by
  rw [State.takeLine, read]

end

/-- Settles O13: each test by its equation of `readLine`, and the completed line by `completeLine_eq`. -/
theorem linesAreTestedAndTaken : Obligations.LinesAreTestedAndTaken := by
  constructor
  · intro l
    refine ⟨readLine_tooLong, readLine_unchecked, fun body fits checked => ?_⟩
    rw [readLine_checked fits checked]
    refine ⟨readBody_noWord, fun w word => ⟨readBody_unfit word, fun fs fields fit => ?_⟩⟩
    rw [readBody_fit word fields fit]
    exact ⟨fun unread => by rw [unread, Option.elim_none], fun c read => by rw [read, Option.elim_some]⟩
  · intro s received takes short
    refine ⟨_, rfl, fun chars are => ?_⟩
    have ready : s.link.state = .ready := takes.2
    have taken : exec (.lineCompleted received) s = .next (completeLine received s).afterEvent :=
      congrArg Host.Outcome.next (event_eq takes.1 _)
    rw [completeLine_eq short are rfl] at taken
    refine ⟨fun empty => by rw [taken, if_pos empty], fun nonempty => ?_⟩
    rw [if_neg nonempty, receive_ready (by exact ready)] at taken
    refine ⟨fun f read => by rw [taken, takeLine_framing read], fun c read => ?_⟩
    rw [taken, takeLine_command read, exec_rowFor c _ (by exact takes)]

end Sys2Proof.Proofs

/-!
PROOFS. Family 10: a command is read back from the line that spells it (O12).
-/

namespace Sys2Proof.Proofs

open Sys2Proof Sys2Proof.Machine Sys2Proof.Laws

/-! ## Text that holds no separator -/

section
variable {sep : Byte} {p t : Text}

theorem takeWhile_before (free : sep ∉ p) : (p ++ sep :: t).takeWhile (· != sep) = p := by
  rw [List.takeWhile_append_of_pos fun c mem => bne_iff_ne.mpr (ne_of_mem_of_not_mem mem free),
    List.takeWhile_cons_of_neg (by simp), List.append_nil]

theorem dropWhile_before (free : sep ∉ p) : (p ++ sep :: t).dropWhile (· != sep) = sep :: t := by
  rw [List.dropWhile_append_of_pos fun c mem => bne_iff_ne.mpr (ne_of_mem_of_not_mem mem free),
    List.dropWhile_cons_of_neg (by simp)]

theorem splitAt_free (free : sep ∉ p) : splitAt sep p = [p] := by
  induction p with
  | nil => rfl
  | cons c cs ih =>
    obtain ⟨ne, free⟩ := List.ne_and_not_mem_of_not_mem_cons free
    rw [splitAt, if_neg (by simpa using ne.symm), ih free]

theorem splitAt_before (free : sep ∉ p) : splitAt sep (p ++ sep :: t) = p :: splitAt sep t := by
  induction p with
  | nil => exact if_pos (beq_self_eq_true sep)
  | cons c cs ih =>
    obtain ⟨ne, free⟩ := List.ne_and_not_mem_of_not_mem_cons free
    rw [List.cons_append, splitAt, if_neg (by simpa using ne.symm), ih free]

/-- The pieces of a text in which a separator stands behind each piece. -/
theorem splitAt_ended {ps : List Text} (free : ∀ p ∈ ps, sep ∉ p) :
    splitAt sep (ps.flatMap fun p => p ++ [sep]) = ps ++ [[]] := by
  induction ps with
  | nil => rfl
  | cons p ps ih =>
    obtain ⟨head, tail⟩ := List.forall_mem_cons.mp free
    rw [List.flatMap_cons, List.append_assoc, List.singleton_append, splitAt_before head, ih tail]
    rfl

/-- The items of a list are the pieces between its separators. -/
theorem splitAt_joinText {ts : List Text} (nonempty : ts ≠ []) (free : ∀ t ∈ ts, sep ∉ t) :
    splitAt sep (joinText sep ts) = ts := by
  induction ts with
  | nil => exact absurd rfl nonempty
  | cons t ts ih =>
    obtain ⟨head, tail⟩ := List.forall_mem_cons.mp free
    cases ts with
    | nil => exact splitAt_free head
    | cons u us => rw [joinText, splitAt_before head, ih (List.cons_ne_nil u us) tail]; nofun

theorem mem_joinText {c : Byte} {ts : List Text} (mem : c ∈ joinText sep ts) :
    c = sep ∨ ∃ t ∈ ts, c ∈ t := by
  induction ts with
  | nil => cases mem
  | cons t ts ih =>
    cases ts with
    | nil => exact .inr ⟨t, List.mem_singleton_self t, mem⟩
    | cons u us =>
      rw [joinText, List.mem_append, List.mem_cons] at mem
      · obtain here | rfl | later := mem
        · exact .inr ⟨t, List.mem_cons_self, here⟩
        · exact .inl rfl
        · exact (ih later).imp_right fun ⟨v, listed, held⟩ => ⟨v, List.mem_cons_of_mem t listed, held⟩
      · nofun

end

/-! ## Numbers (R184, R196) -/

theorem digit_bounds {c : Char} (digit : c.isDigit = true) : 48 ≤ c.toNat ∧ c.toNat ≤ 57 := by
  simp only [Char.isDigit, Bool.and_eq_true, decide_eq_true_eq, ge_iff_le, UInt32.le_iff_toNat_le] at digit
  exact digit

/-- A digit's byte has the digit's code. -/
theorem digit_byte {c : Char} (digit : c.isDigit = true) : (BitVec.ofNat 8 c.toNat).toNat = c.toNat := by
  have := digit_bounds digit
  rw [BitVec.toNat_ofNat]
  omega

theorem digitOf_digit {c : Char} (digit : c.isDigit = true) :
    digitOf (BitVec.ofNat 8 c.toNat) = some (c.toNat - 48) := by
  obtain ⟨low, high⟩ := digit_bounds digit
  rw [digitOf, digit_byte digit, if_pos (by simp [low, high])]

/-- Reading digits is the number that they write. -/
theorem digitsFrom_digits {cs : List Char} (digits : ∀ c ∈ cs, c.isDigit = true) (n : Nat) :
    digitsFrom n (cs.map fun c => BitVec.ofNat 8 c.toNat) = some (Nat.ofDigitChars 10 cs n) := by
  induction cs generalizing n with
  | nil => exact congrArg some Nat.ofDigitChars_nil.symm
  | cons c cs ih =>
    obtain ⟨head, tail⟩ := List.forall_mem_cons.mp digits
    rw [List.map_cons, digitsFrom, digitOf_digit head]
    dsimp only
    rw [ih tail, Nat.ofDigitChars_cons, Nat.mul_comm]
    rfl

theorem toDigits_digits (n : Nat) : ∀ c ∈ Nat.toDigits 10 n, c.isDigit = true := fun _ mem =>
  Nat.isDigit_of_mem_toDigits (by decide) (by decide) mem

theorem numText_ne_nil (n : Nat) : numText n ≠ [] := mt List.map_eq_nil_iff.mp Nat.toDigits_ne_nil

/-- The decimal writing of a number holds digits only. -/
theorem not_mem_numText {b : Byte} (other : b.toNat < 48) (n : Nat) : b ∉ numText n := by
  intro mem
  obtain ⟨c, written, rfl⟩ := List.mem_map.mp mem
  have digit := toDigits_digits n c written
  have := digit_bounds digit
  rw [digit_byte digit] at other
  omega

/-- A number is read back from its decimal writing. -/
@[simp] theorem numberOf_numText {n : Nat} (fits : fitsNumber n = true) : numberOf (numText n) = some n := by
  have read : digitsFrom 0 (numText n) = some n := by
    rw [numText, digitsFrom_digits (toDigits_digits n), Nat.ofDigitChars_ten_toDigits]
  rw [numberOf, if_neg (by simpa using numText_ne_nil n), read]
  exact if_pos (of_decide_eq_true fits)

theorem numbersOf_numText {ns : List Nat} (fits : ns.all fitsNumber = true) :
    numbersOf (ns.map numText) = some ns := by
  induction ns with
  | nil => rfl
  | cons n ns ih =>
    obtain ⟨head, tail⟩ := List.all_eq_true.mp fits |> List.forall_mem_cons.mp
    rw [List.map_cons, numbersOf, numberOf_numText head, ih (List.all_eq_true.mpr tail)]

/-- A list of numbers is read back from its writing with commas. -/
@[simp] theorem listOf_joinText {ns : List Nat} (fits : ns.all fitsNumber = true) (nonempty : ns ≠ []) :
    listOf (joinText chComma (ns.map numText)) = some ns := by
  have apart : ∀ t ∈ ns.map numText, chComma ∉ t :=
    List.forall_mem_map.mpr fun n _ => not_mem_numText (by decide) n
  rw [listOf, splitAt_joinText (mt List.map_eq_nil_iff.mp nonempty) apart, numbersOf_numText fits]

/-! ## Words (R184) -/

@[simp] theorem wordOf_refrigerant (c : RefrigerantClass) :
    wordOf refrigerants refrigerantWord (ascii (refrigerantWord c)) = some c := by cases c <;> decide

@[simp] theorem wordOf_vesselClass (c : VesselClass) :
    wordOf vesselClasses vesselClassWord (ascii (vesselClassWord c)) = some c := by cases c <;> decide

@[simp] theorem wordOf_phaseName (p : PhaseName) :
    wordOf phaseNames phaseNameWord (ascii (phaseNameWord p)) = some p := by cases p <;> decide

@[simp] theorem wordOf_setting (x : SettingName) :
    wordOf settingNames settingWord (ascii (settingWord x)) = some x := by cases x <;> decide

@[simp] theorem wordOf_resetKind (k : ResetKind) :
    wordOf [.line, .clear] resetKindWord (ascii (resetKindWord k)) = some k := by cases k <;> decide

@[simp] theorem wordOf_command (w : CommandWord) :
    wordOf commandWords commandText (ascii (commandText w)) = some w := by cases w <;> decide

@[simp] theorem bankOf_word (bk : BankId) : bankOf (ascii (bankWord bk)) = some bk := by cases bk <;> decide

@[simp] theorem boolOf_onOff (b : Bool) : boolOf "on" "off" (onOff b) = some b := by cases b <;> decide

@[simp] theorem boolOf_inOut (b : Bool) : boolOf "in" "out" (inOut b) = some b := by cases b <;> decide

/-! ## Fields (R184) -/

/-- A field that can stand in a line: neither part is empty, and no separator stands in it. -/
structure Spellable (f : LineField) : Prop where
  name_ne : f.name ≠ []
  name_solid : chSpace ∉ f.name
  name_part : chEquals ∉ f.name
  value_ne : f.value ≠ []
  value_solid : chSpace ∉ f.value

/-- The characters of a field. -/
def pieceOf (f : LineField) : Text := f.name ++ chEquals :: f.value

/-- The fields of a line, each with the space that precedes it. -/
def spell (fs : List LineField) : Text := fs.flatMap fun f => chSpace :: pieceOf f

@[simp] theorem spell_nil : spell [] = [] := rfl

@[simp] theorem spell_cons (f : LineField) (fs : List LineField) :
    spell (f :: fs) = chSpace :: pieceOf f ++ spell fs := rfl

theorem fieldOf_pieceOf {f : LineField} (spellable : Spellable f) : fieldOf (pieceOf f) = some f := by
  rw [fieldOf, pieceOf, takeWhile_before spellable.name_part, dropWhile_before spellable.name_part]
  exact if_neg (by simp [spellable.name_ne, spellable.value_ne])

theorem fieldsOf_pieces {fs : List LineField} (spellable : ∀ f ∈ fs, Spellable f) :
    fieldsOf (fs.map pieceOf) = some fs := by
  induction fs with
  | nil => rfl
  | cons f fs ih =>
    obtain ⟨head, tail⟩ := List.forall_mem_cons.mp spellable
    rw [List.map_cons, fieldsOf, fieldOf_pieceOf head, ih tail]

theorem pieceOf_solid {f : LineField} (spellable : Spellable f) : chSpace ∉ pieceOf f := by
  have apart : chSpace ≠ chEquals := by decide
  simp [pieceOf, spellable.name_solid, spellable.value_solid, apart]

/-- A space before each field and one at the end are a space at the front and one behind each field. -/
theorem spell_ended (fs : List LineField) :
    spell fs ++ [chSpace] = chSpace :: (fs.map pieceOf).flatMap fun p => p ++ [chSpace] := by
  induction fs with
  | nil => rfl
  | cons f fs ih =>
    rw [spell_cons, List.append_assoc, ih]
    simp

section
variable {word : Text} {fs : List LineField}

theorem firstWord_spelled (solid : chSpace ∉ word) : firstWord (word ++ spell fs ++ [chSpace]) = word := by
  rw [firstWord, List.append_assoc, spell_ended, takeWhile_before solid]

/-- The fields of a line are read back. -/
theorem lineFields_spelled (solid : chSpace ∉ word) (spellable : ∀ f ∈ fs, Spellable f) :
    lineFields (word ++ spell fs ++ [chSpace]) = some fs := by
  have pieces : ∀ p ∈ fs.map pieceOf, chSpace ∉ p :=
    List.forall_mem_map.mpr fun f mem => pieceOf_solid (spellable f mem)
  rw [lineFields, List.append_assoc, spell_ended, dropWhile_before solid]
  dsimp only
  rw [splitAt_ended pieces, if_pos (by simp), List.dropLast_concat, fieldsOf_pieces spellable]

end

/-! ## The fields of a command (R184) -/

/-- A field by the name that a Format line gives it. -/
def named (name : String) (value : Text) : LineField := { name := ascii name, value := value }

/-- The fields of a command, in the order of its Format line. -/
def fieldsOfCommand : Command → List LineField
  | .admitUnit tag station r f =>
    [named "tag" (numText tag), named "station" (numText station)] ++
      (r.map fun c => named "refrigerant" (ascii (refrigerantWord c))).toList ++
      (f.map fun c => named "foam" (ascii (gasWord c))).toList
  | .queryUnit tag final =>
    named "tag" (numText tag) :: if final then [named "final" (ascii "yes")] else []
  | .takeClosed count => [named "count" (numText count)]
  | .loadSignatures rows => [named "rows" (numText rows)]
  | .release station | .retire station | .resume station => [named "station" (numText station)]
  | .setPaths station trains =>
    [named "station" (numText station), named "trains" (joinText chComma (trains.map numText))]
  | .trainService train x => [named "train" (numText train), named "state" (inOut x)]
  | .insertVessel slot id cls tare initial fill =>
    [named "slot" (numText slot), named "id" (numText id), named "class" (ascii (vesselClassWord cls)),
      named "tare" (numText tare), named "initial" (numText initial), named "fill" (numText fill)]
  | .closeVessel slot | .removeVessel slot | .queryVessel slot => [named "slot" (numText slot)]
  | .withdrawFeed tag => [named "tag" (numText tag)]
  | .bankService bk | .queryCondenser bk => [named "bank" (ascii (bankWord bk))]
  | .setMasks m =>
    [named "supply" (onOff m.supply), named "process" (onOff m.process),
      named "condenser" (onOff m.condenser), named "accounting" (onOff m.accounting),
      named "operator" (onOff m.operator)]
  | .setWatch tag phase | .clearWatch (.entry tag phase) =>
    [named "tag" (numText tag), named "phase" (ascii (phaseNameWord phase))]
  | .clearWatch .all => [named "all" (ascii "yes")]
  | .setLimit name value => [named "name" (ascii (settingWord name)), named "value" (numText value)]
  | .getLimit name => [named "name" (ascii (settingWord name))]
  | .reset kind => [named "kind" (ascii (resetKindWord kind))]
  | .signatureDigest | .clearSignatures | .abortChamber | .swapBanks | .report | .start | .stop
  | .step | .status => []

theorem field_eq (name : String) (value : Text) : field name value = chSpace :: pieceOf (named name value) := rfl

/-- The model's text of a command's fields spells them. -/
theorem commandFields_eq (c : Command) : commandFields c = spell (fieldsOfCommand c) := by
  cases c
  case admitUnit tag station r f =>
    cases r <;> cases f <;> simp [commandFields, fieldsOfCommand, numField, optField, field_eq]
  case queryUnit tag final =>
    cases final <;> simp [commandFields, fieldsOfCommand, numField, wordField, field_eq]
  case clearWatch which =>
    cases which <;> simp [commandFields, fieldsOfCommand, numField, wordField, field_eq]
  all_goals simp [commandFields, fieldsOfCommand, numField, wordField, listField, field_eq]

/-- What well-formedness asks of SET-PATHS. -/
theorem setPaths_wf {station : Nat} {trains : List Nat} (wf : (Command.setPaths station trains).wf = true) :
    fitsNumber station = true ∧ trains.all fitsNumber = true ∧ trains ≠ [] := by
  simpa [Command.wf, and_assoc] using wf

/-! ### The values can stand in a line -/

/-- A text that can be a field's value: it is not empty and holds no space. -/
def isSolid (t : Text) : Bool := !t.isEmpty && !t.contains chSpace

theorem isSolid_iff {t : Text} : isSolid t = true ↔ t ≠ [] ∧ chSpace ∉ t := by simp [isSolid]

@[simp] theorem solid_numText (n : Nat) : isSolid (numText n) = true :=
  isSolid_iff.mpr ⟨numText_ne_nil n, not_mem_numText (by decide) n⟩

theorem solid_joinText {ns : List Nat} (nonempty : ns ≠ []) :
    isSolid (joinText chComma (ns.map numText)) = true := by
  refine isSolid_iff.mpr ⟨fun empty => ?_, fun mem => ?_⟩
  · have items := splitAt_joinText (mt List.map_eq_nil_iff.mp nonempty)
      (List.forall_mem_map.mpr fun n _ => not_mem_numText (b := chComma) (by decide) n)
    have item : [] ∈ ns.map numText := items ▸ empty.symm ▸ List.mem_singleton_self []
    obtain ⟨n, -, written⟩ := List.mem_map.mp item
    exact numText_ne_nil n written
  · obtain comma | ⟨t, item, held⟩ := mem_joinText mem
    · exact absurd comma (by decide)
    · obtain ⟨n, -, rfl⟩ := List.mem_map.mp item
      exact not_mem_numText (by decide) n held

@[simp] theorem solid_refrigerant (c : RefrigerantClass) :
    isSolid (ascii (refrigerantWord c)) = true := by cases c <;> decide

@[simp] theorem solid_gas (c : GasClass) : isSolid (ascii (gasWord c)) = true := by cases c <;> decide

@[simp] theorem solid_vesselClass (c : VesselClass) :
    isSolid (ascii (vesselClassWord c)) = true := by cases c <;> decide

@[simp] theorem solid_phaseName (p : PhaseName) : isSolid (ascii (phaseNameWord p)) = true := by cases p <;> decide

@[simp] theorem solid_setting (x : SettingName) : isSolid (ascii (settingWord x)) = true := by cases x <;> decide

@[simp] theorem solid_resetKind (k : ResetKind) : isSolid (ascii (resetKindWord k)) = true := by cases k <;> decide

@[simp] theorem solid_bank (bk : BankId) : isSolid (ascii (bankWord bk)) = true := by cases bk <;> decide

@[simp] theorem solid_onOff (b : Bool) : isSolid (onOff b) = true := by cases b <;> decide

@[simp] theorem solid_inOut (b : Bool) : isSolid (inOut b) = true := by cases b <;> decide

@[simp] theorem solid_yes : isSolid (ascii "yes") = true := by decide

theorem solid_values (c : Command) (wf : c.wf = true) :
    ∀ v ∈ (fieldsOfCommand c).map (·.value), isSolid v = true := by
  cases c
  case admitUnit tag station r f => cases r <;> cases f <;> simp [fieldsOfCommand, named]
  case queryUnit tag final => cases final <;> simp [fieldsOfCommand, named]
  case clearWatch which => cases which <;> simp [fieldsOfCommand, named]
  case setPaths station trains =>
    obtain ⟨-, -, nonempty⟩ := setPaths_wf wf
    simp [fieldsOfCommand, named, solid_joinText nonempty]
  all_goals simp [fieldsOfCommand, named]

/-! ### The names are those of the Format line -/

theorem fieldsFit_fields (c : Command) : fieldsFit (wordFor c) (fieldsOfCommand c) = true := by
  cases c
  case admitUnit tag station r f => cases r <;> cases f <;> rfl
  case queryUnit tag final => cases final <;> rfl
  case clearWatch which => cases which <;> rfl
  all_goals rfl

/-- The names of the Format lines can stand in a line. -/
theorem formatOf_spellable (w : CommandWord) : ∀ k ∈ (formatOf w).1 ++ (formatOf w).2,
    ascii k ≠ [] ∧ chSpace ∉ ascii k ∧ chEquals ∉ ascii k := by
  cases w <;> decide

/-- A field that fits a command bears a name of the command's Format line. -/
theorem name_of_fieldsFit {w : CommandWord} {fs : List LineField} (fits : fieldsFit w fs = true)
    {f : LineField} (mem : f ∈ fs) : ∃ k ∈ (formatOf w).1 ++ (formatOf w).2, f.name = ascii k := by
  obtain ⟨names, -⟩ := Bool.and_eq_true_iff.mp fits
  obtain ⟨⟨known, -⟩, -⟩ := (Bool.and_eq_true_iff.mp names).imp_left Bool.and_eq_true_iff.mp
  obtain ⟨k, listed, is⟩ := List.any_eq_true.mp (List.all_eq_true.mp known _ (List.mem_map_of_mem mem))
  exact ⟨k, listed, beq_iff_eq.mp is⟩

theorem spellable_fields (c : Command) (wf : c.wf = true) : ∀ f ∈ fieldsOfCommand c, Spellable f := by
  intro f mem
  obtain ⟨k, listed, name⟩ := name_of_fieldsFit (fieldsFit_fields c) mem
  obtain ⟨name_ne, name_solid, name_part⟩ := formatOf_spellable (wordFor c) k listed
  obtain ⟨value_ne, value_solid⟩ := isSolid_iff.mp (solid_values c wf f.value (List.mem_map_of_mem mem))
  rw [← name] at name_ne name_solid name_part
  exact ⟨name_ne, name_solid, name_part, value_ne, value_solid⟩

/-! ### The values are read back -/

section
variable {name other : String} {value : Text} {fs : List LineField}

@[simp] theorem valueOf_nil : valueOf [] name = none := rfl

@[simp] theorem valueOf_here : valueOf (named name value :: fs) name = some value := by
  simp [valueOf, named]

@[simp] theorem valueOf_later (apart : ascii name ≠ ascii other) :
    valueOf (named name value :: fs) other = valueOf fs other := by
  simp [valueOf, named, apart]

end

/-- Each value parses, and the command is the one that the fields came from (R184). -/
theorem commandOf_fields (c : Command) (wf : c.wf = true) :
    commandOf (wordFor c) (fieldsOfCommand c) = some c := by
  cases c
  case takeClosed | loadSignatures | release | retire | resume | closeVessel | removeVessel | queryVessel
      | withdrawFeed =>
    exact congrArg (Option.map _) (numberOf_numText wf)
  case bankService bk | queryCondenser bk => exact congrArg (Option.map _) (bankOf_word bk)
  case getLimit name => exact congrArg (Option.map _) (wordOf_setting name)
  case reset kind => exact congrArg (Option.map _) (wordOf_resetKind kind)
  case setLimit | trainService =>
    simp +decide [fieldsOfCommand, wordFor, commandOf, numberIn, numberOf_numText wf]
  case setMasks m => simp +decide [fieldsOfCommand, wordFor, commandOf, masksIn]
  case setWatch tag phase =>
    simp +decide [fieldsOfCommand, wordFor, commandOf, watchIn, numberIn, numberOf_numText wf]
  case clearWatch which =>
    cases which with
    | all => rfl
    | entry tag phase =>
      simp +decide [fieldsOfCommand, wordFor, commandOf, clearWatchIn, watchIn, numberIn, numberOf_numText wf]
  case queryUnit tag final =>
    have yes : boolOf "yes" "no" (ascii "yes") = some true := boolOf_iff.mpr rfl
    cases final with
    | true =>
      simp +decide [fieldsOfCommand, wordFor, commandOf, numberIn, optionalIn, numberOf_numText wf, yes]
    | false => simp +decide [fieldsOfCommand, wordFor, commandOf, numberIn, optionalIn, numberOf_numText wf]
  case setPaths station trains =>
    obtain ⟨fits, listed, nonempty⟩ := setPaths_wf wf
    simp +decide [fieldsOfCommand, wordFor, commandOf, numberIn, fits, listOf_joinText listed nonempty]
  case insertVessel slot id cls tare initial fill =>
    simp only [Command.wf, Bool.and_eq_true] at wf
    simp +decide [fieldsOfCommand, wordFor, commandOf, vesselIn, numberIn, wf]
  case admitUnit tag station r f =>
    simp only [Command.wf, Bool.and_eq_true] at wf
    cases r <;> cases f <;>
      simp +decide [fieldsOfCommand, wordFor, commandOf, admitIn, numberIn, optionalIn, wf, wordOf_gas]
  all_goals rfl

/-! ## The line of a command (R183) -/

theorem rxBytes_map (t : Text) : rxBytes (t.map RxChar.byte) = some t := by
  induction t with
  | nil => rfl
  | cons b t ih => rw [List.map_cons, rxBytes, ih, Option.map_some]

/-- A text followed by `#` and its check passes the check. -/
theorem checkedBody_checked (t : Text) : checkedBody (t ++ chHash :: hex4 (crc t)) = some t := by
  simp [checkedBody, hex4]

theorem lineBody_commandLine {c : Command} (fits : (commandLine c).overLength = false) :
    lineBody (commandLine c) = some (commandBody c) := by
  have whole := List.take_of_length_le (Nat.not_lt.mp (of_decide_eq_false fits))
  rw [lineBody, commandLine, assembled, whole, rxBytes_map, Option.bind_some, checkedBody_checked]

theorem solid_command (w : CommandWord) : chSpace ∉ ascii (commandText w) := by cases w <;> decide

/-- Tests 3 to 5 of R183 on the characters that spell a command. -/
theorem readBody_commandBody {c : Command} (wf : c.wf = true) : readBody (commandBody c) = .command c := by
  have solid := solid_command (wordFor c)
  rw [readBody, commandBody, commandFields_eq, firstWord_spelled solid, wordOf_command,
    lineFields_spelled solid (spellable_fields c wf)]
  dsimp only
  rw [fieldsFit_fields, commandOf_fields c wf]
  rfl

/-- Settles O12: the line passes the check, its word and fields are read back, and each value with them. -/
theorem commandLinesReadBack : Obligations.CommandLinesReadBack := by
  intro c wf fits
  rw [readLine, fits, lineBody_commandLine fits, if_neg Bool.false_ne_true]
  exact readBody_commandBody wf

end Sys2Proof.Proofs

/-!
PROOFS. Family 11: a step runs the command at the front of the queue (O1).
-/

namespace Sys2Proof.Proofs

open Sys2Proof Sys2Proof.Machine Sys2Proof.Laws

/-- The later of two queues given to a state is the one it has. -/
@[simp] theorem setPending_setPending (s : State) (q q' : List Instr) :
    (s.setPending q).setPending q' = s.setPending q' := rfl

/-- A step on a queue that is not empty; O2 has the step on the empty one. -/
theorem step_of_pending_cons {s : State} {c : Instr} {rest : List Instr} (queue : s.pending = c :: rest) :
    step s = exec c (s.setPending rest) := by rw [step, queue]

/-- Settles O1: the queue just given is the one the step takes its command from, and the rest replaces it. -/
theorem stepRunsFrontCommand : Obligations.StepRunsFrontCommand := by
  unfold Obligations.StepRunsFrontCommand
  intro c s q
  calc step (s.setPending (c :: q))
      = exec c ((s.setPending (c :: q)).setPending q) := step_of_pending_cons (setPending_pending s (c :: q))
    _ = exec c (s.setPending q) := by rw [setPending_setPending]

end Sys2Proof.Proofs
